-- ==== Sys2Proof/Word.lean ====
section
/-! DEFINITION. The word types of the device (R7, R8) and sparse tables keyed by a number. -/

namespace Sys2Proof

/-- A byte (R8). -/
abbrev Byte := BitVec 8
/-- A word: 32 bits, the unit of bundle slots (R8). -/
abbrev W32 := BitVec 32
/-- A dword: 64 bits (R8). -/
abbrev W64 := BitVec 64

/-- A sparse table: pairs of a number and an entry, numbers strictly rising. -/
abbrev NMap (α : Type) := List (Nat × α)

/-- Look a number up; a number without an entry reads as `d`. -/
def NMap.getD {α : Type} (m : NMap α) (k : Nat) (d : α) : α :=
  match m with
  | [] => d
  | (k', v) :: r => if k' = k then v else NMap.getD r k d

/-- Look a number up, if it has an entry. -/
def NMap.get? {α : Type} (m : NMap α) (k : Nat) : Option α :=
  match m with
  | [] => none
  | (k', v) :: r => if k' = k then some v else NMap.get? r k

/-- Set the entry of a number, keeping the numbers rising. -/
def NMap.set {α : Type} (m : NMap α) (k : Nat) (v : α) : NMap α :=
  match m with
  | [] => [(k, v)]
  | (k', v') :: r =>
    if k' = k then (k, v) :: r
    else if k < k' then (k, v) :: (k', v') :: r
    else (k', v') :: NMap.set r k v

/-- Remove the entry of a number. -/
def NMap.erase {α : Type} (m : NMap α) (k : Nat) : NMap α := m.filter (fun e => e.1 != k)

/-- Change the entry of a number, `d` standing for a missing one. -/
def NMap.modify {α : Type} (m : NMap α) (k : Nat) (d : α) (f : α → α) : NMap α :=
  NMap.set m k (f (NMap.getD m k d))

end Sys2Proof
end

