-- ==== Sys2Proof/Config.lean ====
section
/-! DEFINITION. What a particular module fixes and the spec does not give: fused and manufactured values, the instants
at which dies leave reset, the bytes of a signature and of a neighbour advertisement, and the free values. -/

namespace Sys2Proof.Config

/-- Module serial (R428). -/
opaque serial : W64
/-- Contents of the 256 KiB mask ROM (R420, R423). -/
opaque rom : List Byte
/-- Key digest fused at manufacture (R422). -/
opaque keyDigest : List Byte
/-- Dwords of the identity certificate (R428). -/
opaque idcert : Nat → W64
/-- Signature of the device identity key over a report, 512 bytes (R425). -/
opaque attestSignature : List Byte → List Byte
/-- Bytes of the advertisement that answers a solicitation (R393). -/
opaque neighbourAdvert : List Byte → List Byte
/-- IPv6 addresses for which the device answers neighbour solicitations (R393). -/
opaque addresses : List (BitVec 128)
/-- Core cycles from power-good to the one in which the die at a stop leaves reset, its die cycle counter at 0 (R6). -/
opaque dieStart : Nat → Nat
/-- Free values: the n-th value the spec leaves open. -/
opaque freeValue : Nat → W64

end Sys2Proof.Config
end

