-- ==== Sys2Proof/Machine/Types.lean ====
section
/-! DEFINITION. The plain data the device's agents hand to each other: move fields, frames, accesses, waits,
stream commands, copy channels, trap records, packets, tasks, regions and flows. -/

namespace Sys2Proof.Machine

/-- Guard and source fields of a move slot: GI 31, GP 30:28, FROM 27:18, W 17 (R148). -/
structure MoveSrc where
  gi : BitVec 1
  gp : BitVec 3
  src : BitVec 10
  w : BitVec 1
  deriving DecidableEq, Repr

/-- A vector register: 1,024 lanes of 32 bits, lane 64r + c is lane c of row r (R227). -/
structure VReg where
  lanes : List W32
  deriving DecidableEq, Repr

/-- A Tirel frame at a port: its identification (EtherType or UDP port, R393), four header dwords and payload (R394). -/
structure Frame where
  port : Nat
  routed : Bool
  ident : BitVec 16
  d0 : W64
  d1 : W64
  d2 : W64
  d3 : W64
  payload : List Byte
  deriving DecidableEq, Repr

/-- The tag a request carries and a response names: context slot, occupancy serial, domain, incarnation (R354, R356); and
whether the mode its context keeps is user mode, by which U of a page is checked (R2, R359, R368). -/
structure Who where
  cl : Nat
  cx : Nat
  serial : BitVec 16
  dom : BitVec 8
  inc : BitVec 10
  user : Bool
  deriving DecidableEq, Repr

/-- The read-modify-write operations of R206. -/
inductive AtomOp where
  | add | and | or | xor | min | max | minn | maxn | swap | cas
  deriving DecidableEq, Repr

/-- What an access does at its home point: LSU kinds (R204 to R208) and counter operations (R111, R362). -/
inductive AccKind where
  | load (bytes : Nat) (signed : Bool)
  | store
  | pf
  | atomic (op : AtomOp)
  | red (op : AtomOp)
  | ctrAdd | ctrMax | ctrRead | ctrWait | ctrArw | ctrReset
  deriving DecidableEq, Repr

/-- Order annotation of an access (R104). -/
inductive Order where
  | plain | acquire | release | acqRel
  deriving DecidableEq, Repr

/-- A piece of an access on one page (R107): physical address, bytes and leaf entry (0 outside space 00). -/
structure Piece where
  pa : Nat
  len : Nat
  leaf : W64
  deriving DecidableEq, Repr

/-- An access of a context, held until it is performed and answered (R97, R202, R210). -/
structure Access where
  id : Nat
  kind : AccKind
  order : Order
  scope : BitVec 2
  va : W64
  size : Nat
  data : BitVec 128
  cmp : W64
  who : Who
  task : Nat
  /-- window offset of the issuing bundle and slot number of R340, for a deferred record (R209) -/
  bpc : BitVec 30
  slot : BitVec 4
  /-- issue cycle and deadline in cycles (R123); deadline 0 of an answer-only form is the allowance -/
  s0 : Nat
  dl : Nat
  esc : Bool
  /-- token of the register a RET answer fills (R210) -/
  token : Option Nat
  /-- pieces found by translation, one per page; none before it (R93, R107) -/
  pieces : List Piece
  left : Bool
  performed : Bool
  answered : Bool
  deriving DecidableEq, Repr

/-- State of a load-queue entry (R128): arrived is 0, expired 1, poisoned 2, denied 3 in an image (R344). -/
inductive LqState where
  | waiting | arrived | expired | poisoned | denied
  deriving DecidableEq, Repr

/-- One load-queue entry (R158): the access it belongs to, which half, its state, value and escalate mark (R133). -/
structure LqEntry where
  id : Nat
  half : Nat
  state : LqState
  value : W64
  esc : Bool
  deriving DecidableEq, Repr

/-- The waiting K-slot forms of R122. -/
inductive WaitKind where
  | wpwait | ctrRead | ctrWait | ctrArw | fence | qsend | qrecv | launch | reclaim | tlbInv
  deriving DecidableEq, Repr

/-- A K-slot wait of a context (R122, R123, R210): s0 (of s.ccy) and D, operands, destinations, what it waits for. -/
structure Wait where
  id : Nat
  kind : WaitKind
  kword : W32
  s0 : Nat
  d : Nat
  gc : Nat
  gval : Option Nat
  tokC : Nat
  tokV : Nat
  ops : List W64
  esc : Bool
  scope : BitVec 2
  bpc : BitVec 30
  /-- identifiers of accesses the form's release or the fence covers (R108, R221) -/
  covers : List Nat
  /-- s.scc at issue: stream commands below it are the fence's (R261) -/
  upto : W64
  cancelSent : Bool
  /-- a RESET arrived after the deadline (R130) -/
  reset : Bool
  /-- arrival state, status and token received during an eviction's cancel (R135, R335, R434) -/
  arr : Nat
  rstat : Option Byte
  rval : W64
  /-- classes of a fence complete in its deadline cycle (R131) -/
  mask : Option Nat
  /-- cycle from which a D = 0 evaluation or an answer-only form is given up (R123) -/
  deadline : Nat
  /-- the request has been sent or the K slot has executed -/
  sent : Bool
  deriving DecidableEq, Repr

/-- Where a fixed-latency result lands (R156, R231, R331). Vector registers are physical (R161).
`query` is a local K-slot query read at cycle 6, `greg` its value on the way to the register at cycle 7 (R210); `copies`
gathers the flag copies of sys.flg from core `k` down to core 0, each read at its own cycle (R225). -/
inductive Dest where
  | alu0 | alu1 | prd | mul (division : Bool) | vreg (r : Nat) | mask (n : Nat) | bypass
  | query (kword : W32) (reg token : Nat) | greg (reg token : Nat) | copies (k reg token : Nat)
  deriving DecidableEq, Repr

/-- A result in flight: landing cycle on core 0, as every core counts its own (R11, R14), destination, scalar value, and
per core lanes, lane mask and flags (R332). `vec` holds four registers (or four masks or code lists), `flags` those of
quarter q of core k at 4k + q; a snapshot entry keeps REM in `time`. `part` names the core and the quarter of a result
restored from one entry of an image; the whole result has none (R331). `tok` numbers a result that rows still fill (R233)
or that is replayed (R333); 0 for none. -/
structure Landing where
  time : Nat
  dest : Dest
  lo : W64
  hi : W64
  vec : List VReg
  lmask : List (BitVec 1024)
  masks : List (BitVec 1024)
  codes : List (List Byte)
  target : BitVec 2
  flags : List Byte
  part : Option (Nat × Nat)
  tok : Nat
  deriving DecidableEq, Repr

/-- Resume cursor of a stream command (R337). -/
structure Cursor where
  pos : Nat
  sub : Nat
  tbit : Nat
  pv : Bool
  state : Nat
  cause : Nat
  deriving DecidableEq, Repr

/-- A stream command in a core's queue (R336): captured operands, sl, seed; for quantises the captured rows, codes and key. -/
structure StreamCmd where
  cidx : BitVec 32
  flags : Byte
  op : BitVec 6
  m : Nat
  seed : W32
  dv : Bool
  dest : BitVec 6
  token : Nat
  opnd : List W64
  rows : VReg
  codes : List Byte
  key0 : W64
  key1 : W64
  cur : Cursor
  /-- partial area (R338): counts of the current pass, then the d8 combination -/
  part : List Int
  /-- whether the command is sampled (R384) -/
  sampled : Bool
  /-- accesses that a REL command follows (R119), shelves claimed when it issued (R268, R273), bundle offset -/
  after : List Nat
  claims : Byte
  bpc : BitVec 30
  /-- address at which it stopped on a fault (R262, R340) -/
  faultAt : W64
  /-- engine cycles of its column check taken in earlier chunks (R261, R283, R384) -/
  spent : Nat
  deriving DecidableEq, Repr

/-- The four cores' parts of a stream command that names a g destination (R166, R261): its index, its register and the
result it awaits, the earliest cycle in which that can land, the cores on which it is complete, and their values in that
order. -/
structure GangPart where
  cidx : BitVec 32
  reg : Nat
  token : Nat
  at_ : Nat
  done : List Nat
  value : List W64
  deriving DecidableEq, Repr

/-- Operand ports and result latches of a scalar unit for one context (R155, R156); only MUL uses `qh`. -/
structure Ports where
  o : W64
  o2 : W64
  q : W64
  qh : W64
  deriving DecidableEq, Repr

/-- Ports of the LSU for one context (R151, R202). -/
structure LsuPorts where
  o : W64
  o2 : W64
  dl : W64
  sc : W64
  cmp : W64
  hi : W64
  deriving DecidableEq, Repr

/-- A loop-stack entry (R144). -/
structure LoopEntry where
  start : BitVec 30
  rem : Nat
  max : Nat
  deriving DecidableEq, Repr

/-- Segment state (R22, R383): count, bound min(RB, YMAX), RB, CHK, SIG, CRC accumulator, and whether a failed closing test
has trapped. -/
structure Segment where
  count : Nat
  bound : Nat
  rb : Nat
  chk : Bool
  sig : BitVec 16
  crc : BitVec 16
  tested : Bool
  deriving DecidableEq, Repr

/-- A bundle held on sources that are not ready (R129, R159): since when, the s.mdl bound, the g registers, load-queue
entries and MUL latch it needs, and whether a wide slot needs one of them. -/
structure Held where
  since : Nat
  budget : Nat
  g : List Nat
  lq : Nat
  mul : Bool
  wide : Bool
  deriving DecidableEq, Repr

/-- Occupancy of a context slot (the STATE codes of R349 refine it); `ended` while work of a stage that has issued END
is outstanding (R28). -/
inductive Occ where
  | free | resident | evicting | loading | ended
  deriving DecidableEq, Repr

/-- State of a context, or of a cluster, that the check code of R379 protects and in which an error may stand: a g register, a
result latch by its FROM code, the load queue, the rest of the scalar plane; per core a vector or mask register, the
scale bypass, the stream state, the snapshot buffer; a folio row or a shelf by its number. -/
inductive ErrPlace where
  | g (n : Nat) | latch (n : Nat) | lq | scalar
  | vreg (core n : Nat) | mask (core n : Nat) | bypass (core : Nat) | stream (core : Nat) | snap (core : Nat)
  | folio (n : Nat) | shelf (n : Nat)
  deriving DecidableEq, Repr

/-- An error that stands in protected state until the state is read or written: one bit of a unit, or more (R379). -/
structure StoredErr where
  place : ErrPlace
  single : Bool
  deriving DecidableEq, Repr

/-- State a core holds for one context (R16, R17, R259, R272 to R274, R344). -/
structure CoreCtx where
  v : List VReg
  k : List (BitVec 1024)
  fflg : Byte
  bypass : List Byte
  target : BitVec 2
  sq : List Byte
  stopX : Byte
  stopY : Byte
  theta : W32
  stopRec : W64
  cmds : List StreamCmd
  /-- reserved entries of an sq.ld still filling (R281) -/
  sqres : Nat
  /-- commands that ended, each with the cycle of core 0's clock in which its core ended it (R13, R108, R268) -/
  late : List (Nat × StreamCmd)
  /-- cycle of the last flag landing and the flags that landed in it (R52) -/
  landAt : Nat
  landFlags : Byte
  deriving DecidableEq, Repr

/-- A copy channel (R211, R212): its latest command. `state` uses the codes of R224. -/
structure Channel where
  state : Nat
  task : Nat
  /-- stage that started it (R108) -/
  stage : Nat
  /-- identifier of the command -/
  cmd : Nat
  who : Who
  ctxw : W64
  src : W64
  dst : W64
  len : Nat
  cctr : W64
  sc : BitVec 2
  wp : Nat
  begun : Bool
  abortAt : Option Nat
  faultDst : Bool
  faultVa : W64
  after : List Nat
  /-- latest command of each other task on the channel: task and state (R224) -/
  hist : List (Nat × Nat)
  /-- identifiers of window writes still unanswered; source bytes of the step gathered so far (R401) -/
  unanswered : List Nat
  buf : List Byte
  deriving DecidableEq, Repr

/-- A TLB entry (R369): domain, page number in 64 KiB pages, whether it maps a 512 MiB block, and the leaf (R367). -/
structure TlbEntry where
  dom : BitVec 8
  vpn : Nat
  block : Bool
  leaf : W64
  deriving DecidableEq, Repr

/-- For whom a walk or a window request is made: an access, a bundle fetch, a copy channel, or the device itself for a
packet (R371, R401). -/
inductive Walker where
  | access (cl cx id : Nat)
  | fetch (cl cx : Nat)
  | channel (cl ch : Nat)
  | device (id : Nat)
  deriving DecidableEq, Repr

/-- An instruction-cache line (R433): packet that fetched it, line offset in the window, its bytes. -/
structure Line where
  pkt : Nat
  off : Nat
  bytes : List Byte
  deriving DecidableEq, Repr

/-- A stage queue of a task (R21, R26): declaration, tokens oldest first with the cycle of their append, and the
cycle of the last removal (R221, R226). -/
structure StageQ where
  depth : Nat
  producer : Nat
  consumer : Nat
  tokens : List (Nat × W64)
  popAt : Nat
  deriving DecidableEq, Repr

/-- A staged write of a task under staged commit (R321, R322). -/
structure StagedWrite where
  pa : Nat
  bytes : List Byte
  red : Option AtomOp
  dom : BitVec 8
  inc : BitVec 10
  deriving DecidableEq, Repr

/-- A region as bound, with resolved fields (R311, R312) and what it has in use (R315 to R317). -/
structure Region where
  parent : Option Nat
  slice : Nat
  ymax : Nat
  dom : BitVec 8
  pri : Nat
  nomm : Nat
  cmask : BitVec 128
  tstg : Nat
  csb : Nat
  tsp : Nat
  tsh : Nat
  tfr : Nat
  stb : Nat
  spb : Nat
  shb : Nat
  frb : Nat
  wcyc : Nat
  rtb : Nat
  slim : Nat
  win : Nat
  chkn : Nat
  trapa : W64
  trapc : W64
  wdenc : W64
  slmask : BitVec 128
  flows : Nat
  /-- remaining widening share by frond die, and whether the first denial was told (R316) -/
  shares : NMap Nat
  denied : Bool
  /-- re-runs the region may still grant (R317) -/
  rtbLeft : Nat
  deriving DecidableEq, Repr

/-- A trap record before it is numbered (R340); `ord` is the identifier of the operation that caused it, by which the
records of one boundary are ordered (R341). -/
structure TrapRec where
  ord : Nat
  ctxw : W64
  cls : Nat
  slot : Nat
  engine : Nat
  bpc : BitVec 30
  npc : BitVec 30
  cidx : W64
  esw : W64
  addr : W64
  rg : Option Region
  deriving DecidableEq, Repr

/-- A V-slot access on one core whose rows still move (R98, R233): its identifier, whose it is, the core, whether it
writes, the key of its next row, the cycle in which that row moves, how many rows are left, the first of the register's rows
still to fill, and per row to write its bytes with their lanes' marks. `va` and `bpc` stand in the record of poison that it
meets, and `told` says that it has one (R249, R340). -/
structure RowJob where
  id : Nat
  cx : Nat
  core : Nat
  write : Bool
  at_ : Nat
  time : Nat
  left : Nat
  row : Nat
  who : Who
  data : List (List W32)
  marks : List (BitVec 64)
  va : W64
  bpc : BitVec 30
  told : Bool
  deriving DecidableEq, Repr

/-- A task placed on a cluster (R20, R28, R315): its place, holdings, stages that ended, failures, queues. Folio rows and
shelves have no address, so a task's rows and shelves are numbered from 4096 and 64 times its uid. -/
structure Task where
  uid : Nat
  pkt : Nat
  index : Nat
  cluster : Nat
  region : Nat
  dom : BitVec 8
  inc : BitVec 10
  /-- it holds storage on its cluster; it holds staging (R315, R345); it has ended or failed (R28) -/
  running : Bool
  holds : Bool
  done : Bool
  nstg : Nat
  ended : List Nat
  /-- stages that an eviction has written out: task index, stage, incarnation (R348) -/
  evicted : List (Nat × Nat × BitVec 10)
  code : Nat
  fail : List Nat
  spbase : Nat
  tsp : Nat
  frow : Nat
  tfr : Nat
  shelf : Nat
  nsh : Nat
  sbase : Nat
  tstg : Nat
  csb : Nat
  queues : List StageQ
  staged : List StagedWrite
  reruns : Nat
  poisoned : Bool
  /-- priority, YMAX as held at placement (R314, R323) -/
  pri : Nat
  ymax : Nat
  /-- its region's fields as they stood at placement (R314, R328) -/
  rg : Option Region
  /-- staging units of its commit space: slice and unit (R84, R315) -/
  cunits : List (Nat × Nat)
  /-- copy channels that an eviction took off its cluster, by number (R342, R345) -/
  kchans : List (Nat × Channel)
  deriving DecidableEq, Repr

/-- Who placed a launch in a queue: a task (its uid) or a Tirel flow (R318). -/
inductive Launcher where
  | task (uid : Nat)
  | flow (f : Nat)
  | boot
  deriving DecidableEq, Repr

/-- A launch request at a dispatch unit (R223, R402). -/
structure LaunchReq where
  addr : W64
  region : Nat
  by_ : Launcher
  who : Who
  waitId : Nat
  seq : BitVec 48
  deadline : Nat
  arrived : Nat
  dom : BitVec 8
  inc : BitVec 10
  deriving DecidableEq, Repr

/-- Progress of a packet at its dispatch unit (R318, R31). -/
inductive PktPhase where
  | queued | reading | polling | eligible | placed | done
  deriving DecidableEq, Repr

/-- A packet known to a dispatch unit (R24, R318): the domain that launched it, the cycle of its enqueue, its fields once
read, and progress. -/
structure Packet where
  uid : Nat
  region : Nat
  addr : W64
  by_ : Launcher
  dom : BitVec 8
  order : Nat
  phase : PktPhase
  ctl : W64
  pbase : W64
  pdo : W32
  cinc : W32
  gx : Nat
  gy : Nat
  gz : Nat
  arg : W64
  cctr : W64
  stw : W64
  ddl : W32
  /-- dependence counters: address, threshold, met -/
  deps : List (W64 × W64 × Bool)
  /-- its completion counter serves (R27) -/
  usable : Bool
  nstg : Nat
  entries : List (BitVec 28)
  queues : List StageQ
  ychk : Nat
  nextTask : Nat
  finished : Nat
  nfail : Nat
  rtry : Nat
  code : Nat
  status : Nat
  deriving DecidableEq, Repr

/-- A bind request at a dispatch unit (R314). -/
structure BindReq where
  who : Who
  addr : W64
  region : Nat
  bpc : BitVec 30
  deriving DecidableEq, Repr

/-- A request to the domain controller (R359, R360): dom.set when `value` is given, inc.adv otherwise. -/
structure DomReq where
  who : Who
  target : BitVec 8
  value : Option W64
  token : Nat
  bpc : BitVec 30
  deriving DecidableEq, Repr

/-- A reclaim registered at the domain controller (R361). -/
structure Reclaim where
  rid : Nat
  who : Who
  waitId : Nat
  dom : BitVec 8
  c0 : BitVec 10
  once : Bool
  deadline : Nat
  answered : List Nat
  nonzero : List Nat
  active : Bool
  deriving DecidableEq, Repr

/-- A privileged request travelling to a target context's cluster (R346 to R348). -/
structure TargetReq where
  who : Who
  target : W64
  image : W64
  cctr : W64
  after : List Nat
  deriving DecidableEq, Repr

/-- A request the Tirel engine holds until its response (R361, R397, R415). -/
structure HeldReq where
  /-- identifier of the request; its sequence number, once it has been sent -/
  rid : Nat
  seq : BitVec 48
  frame : Frame
  who : Who
  acc : Walker
  dom : BitVec 8
  inc : BitVec 10
  sends : Nat
  lastSent : Nat
  /-- identifier of the copy command, first byte of the access or step that it carries, how many bytes it asks for -/
  cmd : Nat
  part : Nat
  len : Nat
  deriving DecidableEq, Repr

/-- An open flow (R396, R397). -/
structure Flow where
  /-- identifier of this opening of the flow -/
  uid : Nat
  port : Nat
  routed : Bool
  pip : BitVec 128
  pmac : BitVec 48
  part : Nat
  dom : BitVec 8
  inc : BitVec 10
  ordered : Bool
  wbase : W64
  rto : Nat
  sendSeq : Nat
  held : List HeldReq
  /-- device requests waiting for room in the window of 64 -/
  waiting : List HeldReq
  expected : Nat
  performed : List Nat
  reorder : List Frame
  /-- the launch whose answer is awaited (R402) -/
  launching : Option (BitVec 48)
  cache : List Frame
  /-- sequence numbers below which every response is held, responses since the last ack, and when it was sent -/
  respUpto : Nat
  respGot : List Nat
  sinceAck : Nat
  slots : List Nat
  deriving DecidableEq, Repr

/-- A waiter registered at a counter's home (R218, R219): the counter's physical address and threshold. -/
structure Waiter where
  pa : Nat
  thr : W64
  who : Who
  accId : Nat
  arw : Bool
  trip : Nat
  deriving DecidableEq, Repr

/-- A waiter on a counter reached through a Tirel window (R401). -/
structure WinWaiter where
  who : Who
  accId : Nat
  pa : Nat
  thr : W64
  /-- a ctr.arw was cancelled while its add was unanswered (R130) -/
  cancelled : Bool
  deriving DecidableEq, Repr

/-- An error source counted in windows (R385). -/
inductive Source where
  | frame (n : Nat)
  | unit (slice n : Nat)
  | bank (cl core n : Nat)
  | folioGroup (cl core n : Nat)
  | shelf (cl core n : Nat)
  | vregs (cl core : Nat)
  | column (cl core n : Nat)
  | link (a b strand : Nat)
  deriving DecidableEq, Repr

/-- The errors of a source in the current window, and whether it was declared lasting (R385). -/
structure SourceCount where
  source : Source
  count : Nat
  lasting : Bool
  deriving DecidableEq, Repr

/-- A task waiting in a cluster's queue of one priority level (R319). -/
structure Placed where
  uid : Nat
  level : Nat
  deriving DecidableEq, Repr

/-- A row of the folio store (R66): 256 accumulators and the base exponent. -/
structure FolioRow where
  f : List (BitVec 96)
  b : BitVec 16
  deriving DecidableEq, Repr

/-- A shelf (R269): 65,536 codes and 1,024 scales, sparse, zero where unlisted. -/
structure Shelf where
  codes : NMap Byte
  scales : NMap Byte
  deriving DecidableEq, Repr

/-- Operands of an event step: which cluster, context, access, port, die, flow, packet or frame it concerns. Each event
reads the fields its docstring in `Machine` names; the others are zero. -/
structure EvArg where
  cl : Nat
  cx : Nat
  id : Nat
  n : Nat
  m : Nat
  who : Who
  dom : BitVec 8
  v : W64
  w : W64
  status : Byte
  value : BitVec 128
  frame : Frame
  walker : Walker
  source : Source
  target : TargetReq
  launch : LaunchReq
  bind : BindReq
  domreq : DomReq
  deriving DecidableEq, Repr

/-- No requester. -/
def Who.zero : Who := { cl := 0, cx := 0, serial := 0, dom := 0, inc := 0, user := false }

/-- An all-zero frame. -/
def Frame.zero : Frame :=
  { port := 0, routed := false, ident := 0, d0 := 0, d1 := 0, d2 := 0, d3 := 0, payload := [] }

/-- Operands of an event that has none. -/
def EvArg.zero : EvArg :=
  { cl := 0, cx := 0, id := 0, n := 0, m := 0, who := .zero, dom := 0, v := 0, w := 0, status := 0, value := 0,
    frame := .zero, walker := .access 0 0 0, source := .frame 0,
    target := { who := .zero, target := 0, image := 0, cctr := 0, after := [] },
    launch := { addr := 0, region := 0, by_ := .boot, who := .zero, waitId := 0, seq := 0, deadline := 0,
                arrived := 0, dom := 0, inc := 0 },
    bind := { who := .zero, addr := 0, region := 0, bpc := 0 },
    domreq := { who := .zero, target := 0, value := none, token := 0, bpc := 0 } }

end Sys2Proof.Machine
end

