-- ==== Sys2Proof/Syntax.lean ====
section
/-! DEFINITION. The instructions of the device: one constructor per row of the opcode table, the encoded slot words
with their fields under the names of the table, then the events, whose operands stand in State.ev. -/

namespace Sys2Proof

open Sys2Proof.Machine in
/-- A step of the device. Header, C, move, V, S and K rows are slot words (R138, R146, R148, R171, R172, R173); a move
row carries its guard and source as `MoveSrc`. The other rows are events: steps of the device without an encoding. -/
inductive Instr where
  /-- SEQ (R194). -/
  | seq (s : BitVec 3) (y : BitVec 1) (p : BitVec 8)
  /-- JUMP (R143). -/
  | jump (s : BitVec 3) (y : BitVec 1) (p : BitVec 8) (d : BitVec 12)
  /-- BR (R142). -/
  | br (s : BitVec 3) (y : BitVec 1) (p : BitVec 8) (c : BitVec 4) (d : BitVec 12)
  /-- LOOP (R144). -/
  | loop (s : BitVec 3) (y : BitVec 1) (p : BitVec 8)
  /-- CALL (R145). -/
  | call (s : BitVec 3) (y : BitVec 1) (p : BitVec 8) (d : BitVec 12)
  /-- RET (R145). -/
  | ret (s : BitVec 3) (y : BitVec 1) (p : BitVec 8)
  /-- IND (R145). -/
  | ind (s : BitVec 3) (y : BitVec 1) (p : BitVec 8) (g : BitVec 6)
  /-- END (R28). -/
  | endStage (s : BitVec 3) (p : BitVec 8) (e : BitVec 12)
  /-- LOOPI (R195). -/
  | loopi (n : BitVec 24)
  /-- LOOPG (R196). -/
  | loopg (g : BitVec 6) (m : BitVec 12) (e : BitVec 10)
  /-- YIELD (R199). -/
  | yield (b : BitVec 16) (k : BitVec 1)
  /-- FAR (R200). -/
  | far (t : BitVec 28)
  /-- LPOP (R198). -/
  | lpop
  /-- TRAPI (R201). -/
  | trapi (c : BitVec 16)
  /-- MOVE_TO_RF (R154). -/
  | moveToRf (m : MoveSrc) (g : BitVec 6)
  /-- MOVE_TO_PREG (R154). -/
  | moveToPreg (m : MoveSrc) (q : BitVec 3)
  /-- MOVE_TO_SPR (R154). -/
  | moveToSpr (m : MoveSrc) (s : BitVec 7)
  /-- MOVE_TO_OPERAND_PORT (R155). -/
  | moveToOperandPort (m : MoveSrc) (u : BitVec 5) (x : BitVec 1)
  /-- LSU_DL (R151). -/
  | lsuDl (m : MoveSrc)
  /-- LSU_SC (R151). -/
  | lsuSc (m : MoveSrc)
  /-- LSU_CMP (R151). -/
  | lsuCmp (m : MoveSrc)
  /-- LSU_HI (R151). -/
  | lsuHi (m : MoveSrc)
  /-- ADD (R185). -/
  | add (m : MoveSrc) (u : BitVec 1) (s : BitVec 2)
  /-- SUB (R185). -/
  | sub (m : MoveSrc) (u : BitVec 1) (s : BitVec 2)
  /-- AND (R185). -/
  | and (m : MoveSrc) (u : BitVec 1) (s : BitVec 2)
  /-- OR (R185). -/
  | or (m : MoveSrc) (u : BitVec 1) (s : BitVec 2)
  /-- XOR (R185). -/
  | xor (m : MoveSrc) (u : BitVec 1) (s : BitVec 2)
  /-- ANDN (R185). -/
  | andn (m : MoveSrc) (u : BitVec 1) (s : BitVec 2)
  /-- SHL (R185). -/
  | shl (m : MoveSrc) (u : BitVec 1) (s : BitVec 2)
  /-- SHR (R185). -/
  | shr (m : MoveSrc) (u : BitVec 1) (s : BitVec 2)
  /-- SRA (R185). -/
  | sra (m : MoveSrc) (u : BitVec 1) (s : BitVec 2)
  /-- ROL (R185). -/
  | rol (m : MoveSrc) (u : BitVec 1) (s : BitVec 2)
  /-- MIN (R185). -/
  | min (m : MoveSrc) (u : BitVec 1) (s : BitVec 2)
  /-- MAX (R185). -/
  | max (m : MoveSrc) (u : BitVec 1) (s : BitVec 2)
  /-- MINN (R185). -/
  | minn (m : MoveSrc) (u : BitVec 1) (s : BitVec 2)
  /-- MAXN (R185). -/
  | maxn (m : MoveSrc) (u : BitVec 1) (s : BitVec 2)
  /-- CLZ (R185). -/
  | clz (m : MoveSrc) (u : BitVec 1) (s : BitVec 2)
  /-- CTZ (R185). -/
  | ctz (m : MoveSrc) (u : BitVec 1) (s : BitVec 2)
  /-- POPC (R185). -/
  | popc (m : MoveSrc) (u : BitVec 1) (s : BitVec 2)
  /-- SEXT (R186). -/
  | sext (m : MoveSrc) (u : BitVec 1) (s : BitVec 2)
  /-- ZEXT (R186). -/
  | zext (m : MoveSrc) (u : BitVec 1) (s : BitVec 2)
  /-- BFX (R186). -/
  | bfx (m : MoveSrc) (u : BitVec 1) (s : BitVec 2)
  /-- BFI (R186). -/
  | bfi (m : MoveSrc) (u : BitVec 1) (s : BitVec 2)
  /-- LEA (R185). -/
  | lea (m : MoveSrc) (u : BitVec 1) (s : BitVec 2)
  /-- SEL (R185). -/
  | sel (m : MoveSrc) (u : BitVec 1) (s : BitVec 2)
  /-- PASS (R185). -/
  | pass (m : MoveSrc) (u : BitVec 1) (s : BitVec 2)
  /-- BSWAP (R185). -/
  | bswap (m : MoveSrc) (u : BitVec 1) (s : BitVec 2)
  /-- ABS (R185). -/
  | abs (m : MoveSrc) (u : BitVec 1) (s : BitVec 2)
  /-- CMPEQ (R187). -/
  | cmpeq (m : MoveSrc) (s : BitVec 2)
  /-- CMPNE (R187). -/
  | cmpne (m : MoveSrc) (s : BitVec 2)
  /-- CMPLT (R187). -/
  | cmplt (m : MoveSrc) (s : BitVec 2)
  /-- CMPLE (R187). -/
  | cmple (m : MoveSrc) (s : BitVec 2)
  /-- CMPLTN (R187). -/
  | cmpltn (m : MoveSrc) (s : BitVec 2)
  /-- CMPLEN (R187). -/
  | cmplen (m : MoveSrc) (s : BitVec 2)
  /-- TBIT (R187). -/
  | tbit (m : MoveSrc) (s : BitVec 2)
  /-- PAND (R188). -/
  | pand (m : MoveSrc)
  /-- POR (R188). -/
  | por (m : MoveSrc)
  /-- PXOR (R188). -/
  | pxor (m : MoveSrc)
  /-- PNOT (R188). -/
  | pnot (m : MoveSrc)
  /-- PMOV (R188). -/
  | pmov (m : MoveSrc)
  /-- MUL (R189). -/
  | mul (m : MoveSrc) (s : BitVec 2)
  /-- MULH (R189). -/
  | mulh (m : MoveSrc) (s : BitVec 2)
  /-- MULHN (R189). -/
  | mulhn (m : MoveSrc) (s : BitVec 2)
  /-- MADD (R189). -/
  | madd (m : MoveSrc) (s : BitVec 2)
  /-- DIV (R190). -/
  | div (m : MoveSrc) (s : BitVec 2)
  /-- DIVN (R190). -/
  | divn (m : MoveSrc) (s : BitVec 2)
  /-- REM (R190). -/
  | rem (m : MoveSrc) (s : BitVec 2)
  /-- REMN (R190). -/
  | remn (m : MoveSrc) (s : BitVec 2)
  /-- LD_I8 (R204). -/
  | ldI8 (m : MoveSrc) (o : BitVec 1)
  /-- LD_N8 (R204). -/
  | ldN8 (m : MoveSrc) (o : BitVec 1)
  /-- LD_I16 (R204). -/
  | ldI16 (m : MoveSrc) (o : BitVec 1)
  /-- LD_N16 (R204). -/
  | ldN16 (m : MoveSrc) (o : BitVec 1)
  /-- LD_I32 (R204). -/
  | ldI32 (m : MoveSrc) (o : BitVec 1)
  /-- LD_N32 (R204). -/
  | ldN32 (m : MoveSrc) (o : BitVec 1)
  /-- LD_64 (R204). -/
  | ld64 (m : MoveSrc) (o : BitVec 1)
  /-- LD_128 (R204). -/
  | ld128 (m : MoveSrc) (o : BitVec 1)
  /-- ST_8 (R205). -/
  | st8 (m : MoveSrc) (o : BitVec 1)
  /-- ST_16 (R205). -/
  | st16 (m : MoveSrc) (o : BitVec 1)
  /-- ST_32 (R205). -/
  | st32 (m : MoveSrc) (o : BitVec 1)
  /-- ST_64 (R205). -/
  | st64 (m : MoveSrc) (o : BitVec 1)
  /-- ST_128 (R205). -/
  | st128 (m : MoveSrc) (o : BitVec 1)
  /-- PF (R208). -/
  | pf (m : MoveSrc)
  /-- A_ADD_32 (R206). -/
  | aAdd32 (m : MoveSrc) (o : BitVec 2)
  /-- A_AND_32 (R206). -/
  | aAnd32 (m : MoveSrc) (o : BitVec 2)
  /-- A_OR_32 (R206). -/
  | aOr32 (m : MoveSrc) (o : BitVec 2)
  /-- A_XOR_32 (R206). -/
  | aXor32 (m : MoveSrc) (o : BitVec 2)
  /-- A_MIN_32 (R206). -/
  | aMin32 (m : MoveSrc) (o : BitVec 2)
  /-- A_MAX_32 (R206). -/
  | aMax32 (m : MoveSrc) (o : BitVec 2)
  /-- A_MINN_32 (R206). -/
  | aMinn32 (m : MoveSrc) (o : BitVec 2)
  /-- A_MAXN_32 (R206). -/
  | aMaxn32 (m : MoveSrc) (o : BitVec 2)
  /-- A_SWAP_32 (R206). -/
  | aSwap32 (m : MoveSrc) (o : BitVec 2)
  /-- A_CAS_32 (R206). -/
  | aCas32 (m : MoveSrc) (o : BitVec 2)
  /-- A_ADD_64 (R206). -/
  | aAdd64 (m : MoveSrc) (o : BitVec 2)
  /-- A_AND_64 (R206). -/
  | aAnd64 (m : MoveSrc) (o : BitVec 2)
  /-- A_OR_64 (R206). -/
  | aOr64 (m : MoveSrc) (o : BitVec 2)
  /-- A_XOR_64 (R206). -/
  | aXor64 (m : MoveSrc) (o : BitVec 2)
  /-- A_MIN_64 (R206). -/
  | aMin64 (m : MoveSrc) (o : BitVec 2)
  /-- A_MAX_64 (R206). -/
  | aMax64 (m : MoveSrc) (o : BitVec 2)
  /-- A_MINN_64 (R206). -/
  | aMinn64 (m : MoveSrc) (o : BitVec 2)
  /-- A_MAXN_64 (R206). -/
  | aMaxn64 (m : MoveSrc) (o : BitVec 2)
  /-- A_SWAP_64 (R206). -/
  | aSwap64 (m : MoveSrc) (o : BitVec 2)
  /-- A_CAS_64 (R206). -/
  | aCas64 (m : MoveSrc) (o : BitVec 2)
  /-- RED_ADD_32 (R207). -/
  | redAdd32 (m : MoveSrc) (o : BitVec 1)
  /-- RED_AND_32 (R207). -/
  | redAnd32 (m : MoveSrc) (o : BitVec 1)
  /-- RED_OR_32 (R207). -/
  | redOr32 (m : MoveSrc) (o : BitVec 1)
  /-- RED_XOR_32 (R207). -/
  | redXor32 (m : MoveSrc) (o : BitVec 1)
  /-- RED_MIN_32 (R207). -/
  | redMin32 (m : MoveSrc) (o : BitVec 1)
  /-- RED_MAX_32 (R207). -/
  | redMax32 (m : MoveSrc) (o : BitVec 1)
  /-- RED_MINN_32 (R207). -/
  | redMinn32 (m : MoveSrc) (o : BitVec 1)
  /-- RED_MAXN_32 (R207). -/
  | redMaxn32 (m : MoveSrc) (o : BitVec 1)
  /-- RED_ADD_64 (R207). -/
  | redAdd64 (m : MoveSrc) (o : BitVec 1)
  /-- RED_AND_64 (R207). -/
  | redAnd64 (m : MoveSrc) (o : BitVec 1)
  /-- RED_OR_64 (R207). -/
  | redOr64 (m : MoveSrc) (o : BitVec 1)
  /-- RED_XOR_64 (R207). -/
  | redXor64 (m : MoveSrc) (o : BitVec 1)
  /-- RED_MIN_64 (R207). -/
  | redMin64 (m : MoveSrc) (o : BitVec 1)
  /-- RED_MAX_64 (R207). -/
  | redMax64 (m : MoveSrc) (o : BitVec 1)
  /-- RED_MINN_64 (R207). -/
  | redMinn64 (m : MoveSrc) (o : BitVec 1)
  /-- RED_MAXN_64 (R207). -/
  | redMaxn64 (m : MoveSrc) (o : BitVec 1)
  /-- VADD (R235). -/
  | vadd (d : BitVec 4) (a : BitVec 4) (b : BitVec 4) (t : BitVec 3) (k : BitVec 2)
  /-- VSUB (R235). -/
  | vsub (d : BitVec 4) (a : BitVec 4) (b : BitVec 4) (t : BitVec 3) (k : BitVec 2)
  /-- VMUL (R235). -/
  | vmul (d : BitVec 4) (a : BitVec 4) (b : BitVec 4) (t : BitVec 3) (k : BitVec 2)
  /-- VFMA (R235). -/
  | vfma (d : BitVec 4) (a : BitVec 4) (b : BitVec 4) (t : BitVec 1) (k : BitVec 2)
  /-- VADDS (R235). -/
  | vadds (d : BitVec 4) (a : BitVec 4) (b : BitVec 4) (t : BitVec 3) (k : BitVec 2)
  /-- VSUBS (R235). -/
  | vsubs (d : BitVec 4) (a : BitVec 4) (b : BitVec 4) (t : BitVec 3) (k : BitVec 2)
  /-- VMIN (R236). -/
  | vmin (d : BitVec 4) (a : BitVec 4) (b : BitVec 4) (t : BitVec 3) (k : BitVec 2)
  /-- VMAX (R236). -/
  | vmax (d : BitVec 4) (a : BitVec 4) (b : BitVec 4) (t : BitVec 3) (k : BitVec 2)
  /-- VMINN (R236). -/
  | vminn (d : BitVec 4) (a : BitVec 4) (b : BitVec 4) (t : BitVec 3) (k : BitVec 2)
  /-- VMAXN (R236). -/
  | vmaxn (d : BitVec 4) (a : BitVec 4) (b : BitVec 4) (t : BitVec 3) (k : BitVec 2)
  /-- VABS (R235). -/
  | vabs (d : BitVec 4) (a : BitVec 4) (t : BitVec 3) (k : BitVec 2)
  /-- VNEG (R235). -/
  | vneg (d : BitVec 4) (a : BitVec 4) (t : BitVec 3) (k : BitVec 2)
  /-- VAND (R237). -/
  | vand (d : BitVec 4) (a : BitVec 4) (b : BitVec 4) (t : BitVec 3) (k : BitVec 2)
  /-- VOR (R237). -/
  | vor (d : BitVec 4) (a : BitVec 4) (b : BitVec 4) (t : BitVec 3) (k : BitVec 2)
  /-- VXOR (R237). -/
  | vxor (d : BitVec 4) (a : BitVec 4) (b : BitVec 4) (t : BitVec 3) (k : BitVec 2)
  /-- VSHL (R238). -/
  | vshl (d : BitVec 4) (a : BitVec 4) (b : BitVec 4) (c : BitVec 4) (t : BitVec 3) (k : BitVec 2) (m : BitVec 1)
  /-- VSHR (R238). -/
  | vshr (d : BitVec 4) (a : BitVec 4) (b : BitVec 4) (c : BitVec 4) (t : BitVec 3) (k : BitVec 2) (m : BitVec 1)
  /-- VSRA (R238). -/
  | vsra (d : BitVec 4) (a : BitVec 4) (b : BitVec 4) (c : BitVec 4) (t : BitVec 3) (k : BitVec 2) (m : BitVec 1)
  /-- VCMPEQ (R239). -/
  | vcmpeq (d : BitVec 2) (a : BitVec 4) (b : BitVec 4) (t : BitVec 3) (k : BitVec 2)
  /-- VCMPLT (R239). -/
  | vcmplt (d : BitVec 2) (a : BitVec 4) (b : BitVec 4) (t : BitVec 3) (k : BitVec 2)
  /-- VCMPLE (R239). -/
  | vcmple (d : BitVec 2) (a : BitVec 4) (b : BitVec 4) (t : BitVec 3) (k : BitVec 2)
  /-- VSEL (R240). -/
  | vsel (d : BitVec 4) (a : BitVec 4) (b : BitVec 4) (t : BitVec 3) (k : BitVec 2)
  /-- VMOV (R240). -/
  | vmov (d : BitVec 4) (a : BitVec 4) (t : BitVec 3) (k : BitVec 2)
  /-- VSPLAT (R240). -/
  | vsplat (d : BitVec 4) (c : BitVec 4) (t : BitVec 3) (k : BitVec 2)
  /-- VBCR (R241). -/
  | vbcr (d : BitVec 4) (a : BitVec 4) (c : BitVec 4) (t : BitVec 3) (k : BitVec 2)
  /-- VROTR (R241). -/
  | vrotr (d : BitVec 4) (a : BitVec 4) (c : BitVec 4) (t : BitVec 3) (k : BitVec 2)
  /-- VREDR (R242). -/
  | vredr (d : BitVec 4) (a : BitVec 4) (c : BitVec 4) (t : BitVec 3) (k : BitVec 2) (n : BitVec 3)
  /-- VBCC (R241). -/
  | vbcc (d : BitVec 4) (a : BitVec 4) (c : BitVec 4) (t : BitVec 3) (k : BitVec 2)
  /-- VROTC (R241). -/
  | vrotc (d : BitVec 4) (a : BitVec 4) (c : BitVec 4) (t : BitVec 3) (k : BitVec 2)
  /-- VREDC (R242). -/
  | vredc (d : BitVec 4) (a : BitVec 4) (c : BitVec 4) (t : BitVec 3) (k : BitVec 2) (n : BitVec 3)
  /-- VCVT (R243). -/
  | vcvt (d : BitVec 4) (a : BitVec 4) (t : BitVec 3) (k : BitVec 2) (s : BitVec 3) (e : BitVec 2)
  /-- VPACK (R245). -/
  | vpack (d : BitVec 4) (a : BitVec 4) (b : BitVec 4) (t : BitVec 3) (k : BitVec 2) (s : BitVec 3)
  /-- VUNPK (R246). -/
  | vunpk (d : BitVec 4) (a : BitVec 4) (t : BitVec 3) (k : BitVec 2) (s : BitVec 3) (h : BitVec 1)
  /-- VLD (R247). -/
  | vld (d : BitVec 4) (c : BitVec 4)
  /-- VST (R247). -/
  | vst (a : BitVec 4) (c : BitVec 4) (k : BitVec 2)
  /-- VLDR (R247). -/
  | vldr (d : BitVec 4) (c : BitVec 4) (r : BitVec 4)
  /-- VSTR (R247). -/
  | vstr (a : BitVec 4) (c : BitVec 4) (k : BitVec 2) (r : BitVec 4)
  /-- VEXP2 (R250). -/
  | vexp2 (d : BitVec 4) (a : BitVec 4) (t : BitVec 1) (k : BitVec 2) (g : BitVec 1)
  /-- VLOG2 (R250). -/
  | vlog2 (d : BitVec 4) (a : BitVec 4) (t : BitVec 1) (k : BitVec 2) (g : BitVec 1)
  /-- VRCP (R250). -/
  | vrcp (d : BitVec 4) (a : BitVec 4) (t : BitVec 1) (k : BitVec 2) (g : BitVec 1)
  /-- VRSQ (R250). -/
  | vrsq (d : BitVec 4) (a : BitVec 4) (t : BitVec 1) (k : BitVec 2) (g : BitVec 1)
  /-- VSQRT (R250). -/
  | vsqrt (d : BitVec 4) (a : BitVec 4) (t : BitVec 1) (k : BitVec 2) (g : BitVec 1)
  /-- VTANH (R250). -/
  | vtanh (d : BitVec 4) (a : BitVec 4) (t : BitVec 1) (k : BitVec 2) (g : BitVec 1)
  /-- VSIGM (R250). -/
  | vsigm (d : BitVec 4) (a : BitVec 4) (t : BitVec 1) (k : BitVec 2) (g : BitVec 1)
  /-- VSIN (R250). -/
  | vsin (d : BitVec 4) (a : BitVec 4) (t : BitVec 1) (k : BitVec 2) (g : BitVec 1)
  /-- VCOS (R250). -/
  | vcos (d : BitVec 4) (a : BitVec 4) (t : BitVec 1) (k : BitVec 2) (g : BitVec 1)
  /-- VQMAX (R254). -/
  | vqmax (a : BitVec 4) (t : BitVec 1) (k : BitVec 2) (q : BitVec 2)
  /-- RNG_DRAW (R255). -/
  | rngDraw (d : BitVec 4) (c : BitVec 4) (n : BitVec 4)
  /-- VCORE (R256). -/
  | vcore (d : BitVec 4)
  /-- STR_SETL (R264). -/
  | strSetl (a : BitVec 6) (c : BitVec 6)
  /-- STR_SEED (R266). -/
  | strSeed (a : BitVec 6)
  /-- SHF_CLAIM (R267). -/
  | shfClaim (c : BitVec 6) (s : BitVec 3)
  /-- SHF_REL (R268). -/
  | shfRel (s : BitVec 3)
  /-- WLD (R269). -/
  | wld (a : BitVec 6) (b : BitVec 6) (r : BitVec 1) (s : BitVec 3)
  /-- ARUN (R271). -/
  | arun (a : BitVec 6) (r : BitVec 1) (m : BitVec 2) (s : BitVec 1) (n : BitVec 4)
  /-- ARUN_BT (R273). -/
  | arunBt (a : BitVec 6) (r : BitVec 1) (m : BitVec 2) (s : BitVec 1) (n : BitVec 4)
  /-- STOP_CFG (R274). -/
  | stopCfg (a : BitVec 6) (b : BitVec 6) (c : BitVec 6)
  /-- FCLR (R277). -/
  | fclr (a : BitVec 6) (b : BitVec 6) (c : BitVec 6)
  /-- DRAIN (R278). -/
  | drain (a : BitVec 6) (b : BitVec 6) (c : BitVec 6) (r : BitVec 1) (f : BitVec 1) (n : BitVec 4)
  /-- FLD (R279). -/
  | fld (a : BitVec 6) (b : BitVec 6) (c : BitVec 6) (r : BitVec 1)
  /-- FST (R279). -/
  | fst (a : BitVec 6) (b : BitVec 6) (c : BitVec 6) (r : BitVec 1)
  /-- SQ4 (R280). -/
  | sq4 (a : BitVec 6) (b : BitVec 6) (r : BitVec 1) (s : BitVec 2) (u : BitVec 1) (v : BitVec 4)
  /-- SQ8 (R280). -/
  | sq8 (a : BitVec 6) (b : BitVec 6) (r : BitVec 1) (s : BitVec 2) (v : BitVec 4)
  /-- SQ_LD (R281). -/
  | sqLd (a : BitVec 6) (b : BitVec 6) (r : BitVec 1)
  /-- SQ_CLR (R282). -/
  | sqClr
  /-- CHK (R283). -/
  | chk (a : BitVec 6) (c : BitVec 6) (m : BitVec 2) (n : BitVec 4)
  /-- STR_STAT (R276). -/
  | strStat (c : BitVec 6)
  /-- CPY_START (R212). -/
  | cpyStart (a : BitVec 6) (h : BitVec 4)
  /-- CPY_WP (R213). -/
  | cpyWp (c : BitVec 6) (h : BitVec 4)
  /-- CPY_WPWAIT (R214). -/
  | cpyWpwait (a : BitVec 6) (c : BitVec 6) (e : BitVec 1) (s : BitVec 2) (h : BitVec 4)
  /-- CPY_ABORT (R215). -/
  | cpyAbort (h : BitVec 4)
  /-- CTR_ADD (R216). -/
  | ctrAdd (a : BitVec 6) (b : BitVec 6) (c : BitVec 6) (r : BitVec 1) (s : BitVec 2)
  /-- CTR_MAX (R216). -/
  | ctrMax (a : BitVec 6) (b : BitVec 6) (c : BitVec 6) (r : BitVec 1) (s : BitVec 2)
  /-- CTR_READ (R217). -/
  | ctrRead (a : BitVec 6) (b : BitVec 6) (c : BitVec 6) (s : BitVec 2)
  /-- CTR_WAIT (R218). -/
  | ctrWait (a : BitVec 6) (b : BitVec 6) (c : BitVec 6) (e : BitVec 1) (s : BitVec 2)
  /-- CTR_ARW (R219). -/
  | ctrArw (a : BitVec 6) (c : BitVec 6) (e : BitVec 1) (s : BitVec 2)
  /-- FENCE (R220). -/
  | fence (a : BitVec 6) (c : BitVec 6) (e : BitVec 1) (k : BitVec 2) (s : BitVec 2)
  /-- QSEND (R221). -/
  | qsend (a : BitVec 6) (c : BitVec 6) (e : BitVec 1) (q : BitVec 4)
  /-- QRECV (R221). -/
  | qrecv (b : BitVec 6) (c : BitVec 6) (e : BitVec 1) (q : BitVec 4)
  /-- RNG_KEY (R222). -/
  | rngKey (a : BitVec 6) (b : BitVec 6)
  /-- RNG_CTR (R222). -/
  | rngCtr (a : BitVec 6) (b : BitVec 6)
  /-- RNG_SKIP (R222). -/
  | rngSkip (a : BitVec 6) (b : BitVec 6)
  /-- RNG_NEXT (R222). -/
  | rngNext (c : BitVec 6)
  /-- RNG_SAVE (R222). -/
  | rngSave (c : BitVec 6)
  /-- LAUNCH (R223). -/
  | launch (a : BitVec 6) (b : BitVec 6) (c : BitVec 6) (e : BitVec 1)
  /-- SYS_CTX (R224). -/
  | sysCtx (c : BitVec 6) (s : BitVec 4)
  /-- SYS_FLG (R225). -/
  | sysFlg (c : BitVec 6)
  /-- CTX_EVICT (R347). -/
  | ctxEvict (a : BitVec 6) (b : BitVec 6) (c : BitVec 6)
  /-- CTX_LOAD (R348). -/
  | ctxLoad (a : BitVec 6) (b : BitVec 6) (c : BitVec 6)
  /-- CTX_PARK (R346). -/
  | ctxPark (a : BitVec 6)
  /-- CTX_RESUME (R346). -/
  | ctxResume (a : BitVec 6)
  /-- INC_ADV (R360). -/
  | incAdv (a : BitVec 6) (c : BitVec 6)
  /-- RECLAIM (R361). -/
  | reclaim (a : BitVec 6) (c : BitVec 6) (e : BitVec 1)
  /-- TLB_INV (R372). -/
  | tlbInv (a : BitVec 6) (b : BitVec 6) (c : BitVec 6) (e : BitVec 1) (l : BitVec 1) (s : BitVec 2)
  /-- RCB_BIND (R314). -/
  | rcbBind (a : BitVec 6) (b : BitVec 6)
  /-- CTR_RESET (R362). -/
  | ctrReset (a : BitVec 6) (b : BitVec 6)
  /-- FRAME_RETIRE (R387). -/
  | frameRetire (a : BitVec 6)
  /-- ERR_READ (R390). -/
  | errRead (a : BitVec 6) (c : BitVec 6)
  /-- ERR_CLR (R390). -/
  | errClr (a : BitVec 6)
  /-- SNAP_READ (R349). -/
  | snapRead (a : BitVec 6) (b : BitVec 6) (c : BitVec 6)
  /-- DOM_SET (R359). -/
  | domSet (a : BitVec 6) (b : BitVec 6)
  /-- PWR_CFG (R427). -/
  | pwrCfg (a : BitVec 6) (b : BitVec 6)
  /-- POWER_GOOD (R420). -/
  | powerGood
  /-- PORT_LINK_RETRY (R420). -/
  | portLinkRetry
  /-- TIREL_READ (R395). -/
  | tirelRead
  /-- TIREL_WRITE (R395). -/
  | tirelWrite
  /-- TIREL_ATOMIC (R395). -/
  | tirelAtomic
  /-- TIREL_CTR_ADD (R395). -/
  | tirelCtrAdd
  /-- TIREL_LAUNCH (R402). -/
  | tirelLaunch
  /-- MGMT_OPEN (R404). -/
  | mgmtOpen
  /-- MGMT_CLOSE (R403). -/
  | mgmtClose
  /-- MGMT_READ_REGISTER (R403). -/
  | mgmtReadRegister
  /-- MGMT_WRITE_REGISTER (R428). -/
  | mgmtWriteRegister
  /-- FWMIN_WRITE (R428). -/
  | fwminWrite
  /-- MSEXT_WRITE (R423). -/
  | msextWrite
  /-- DROOPC_READ (R428). -/
  | droopcRead
  /-- MGMT_ATTEST (R425). -/
  | mgmtAttest
  /-- TIREL_RESPONSE (R415). -/
  | tirelResponse
  /-- TIREL_ACK (R397). -/
  | tirelAck
  /-- ACK_SEND (R397). -/
  | ackSend
  /-- TIREL_RETRANSMIT (R397). -/
  | tirelRetransmit
  /-- LINK_DOWN (R398). -/
  | linkDown
  /-- NEIGHBOUR_SOLICITATION (R393). -/
  | neighbourSolicitation
  /-- NON_TIREL_FRAME (R393). -/
  | nonTirelFrame
  /-- WINDOW_ACCESS_SEND (R401). -/
  | windowAccessSend
  /-- WINDOW_COUNTER_POLL (R401). -/
  | windowCounterPoll
  /-- DROOP_STRETCH (R426). -/
  | droopStretch
  /-- TEMP_REFILL_HALVE (R426). -/
  | tempRefillHalve
  /-- THERMAL_STOP (R426). -/
  | thermalStop
  /-- PATROL_SCRUB (R381). -/
  | patrolScrub
  /-- ERROR_WINDOW_START (R385). -/
  | errorWindowStart
  /-- SPARE_SUBSTITUTION (R385). -/
  | spareSubstitution
  /-- STAGING_UNIT_WITHDRAW (R385). -/
  | stagingUnitWithdraw
  /-- ACCESS_AT_HOME (R103). -/
  | accessAtHome
  /-- COUNTER_OP_AT_HOME (R111). -/
  | counterOpAtHome
  /-- WAIT_CANCEL_AT_HOME (R130). -/
  | waitCancelAtHome
  /-- RESPONSE_AT_SLOT (R356). -/
  | responseAtSlot
  /-- LOAD_EXPIRE (R128). -/
  | loadExpire
  /-- WAIT_DEADLINE_EXPIRE (R123). -/
  | waitDeadlineExpire
  /-- ARW_INDETERMINATE (R130). -/
  | arwIndeterminate
  /-- MDL_EXPIRE (R129). -/
  | mdlExpire
  /-- WAIT_COMPLETE (R125). -/
  | waitComplete
  /-- SEGMENT_OVERRUN (R22). -/
  | segmentOverrun
  /-- RESULT_LAND (R11). -/
  | resultLand
  /-- ICACHE_LINE_FILL (R433). -/
  | icacheLineFill
  /-- ARBITER_DECIDE (R325). -/
  | arbiterDecide
  /-- CONTEXT_STOP (R329). -/
  | contextStop
  /-- TRAP_DELIVERY (R341). -/
  | trapDelivery
  /-- DEFERRED_FAULT (R209). -/
  | deferredFault
  /-- CTX_PARK_AT_TARGET (R346). -/
  | ctxParkAtTarget
  /-- CTX_RESUME_AT_TARGET (R346). -/
  | ctxResumeAtTarget
  /-- CTX_EVICT_AT_TARGET (R347). -/
  | ctxEvictAtTarget
  /-- CTX_LOAD_PERFORM (R348). -/
  | ctxLoadPerform
  /-- COPY_COMMAND_BEGIN (R212). -/
  | copyCommandBegin
  /-- COPY_SECTOR_STEP (R91). -/
  | copySectorStep
  /-- COPY_TRANSLATION_RETRY (R342). -/
  | copyTranslationRetry
  /-- STREAM_CHUNK (R261). -/
  | streamChunk
  /-- LAUNCH_ENQUEUE (R223). -/
  | launchEnqueue
  /-- PACKET_READ (R318). -/
  | packetRead
  /-- DEPENDENCE_POLL (R318). -/
  | dependencePoll
  /-- DEPENDENCE_TIMEOUT (R27). -/
  | dependenceTimeout
  /-- TASK_PLACE (R319). -/
  | taskPlace
  /-- TASK_START (R320). -/
  | taskStart
  /-- TASK_END (R28). -/
  | taskEnd
  /-- PACKET_COMPLETE (R31). -/
  | packetComplete
  /-- RCB_BIND_AT_DISPATCH (R314). -/
  | rcbBindAtDispatch
  /-- DOMAIN_UPDATE_AT_STOP (R353). -/
  | domainUpdateAtStop
  /-- RECLAIM_AT_CONTROLLER (R361). -/
  | reclaimAtController
  /-- RECLAIM_STOP_ANSWER (R361). -/
  | reclaimStopAnswer
  /-- RECLAIM_DEADLINE (R361). -/
  | reclaimDeadline
  /-- TABLE_WALK (R371). -/
  | tableWalk
  /-- TLB_INV_AT_TLB (R373). -/
  | tlbInvAtTlb
  /-- PWR_CFG_AT_DIE (R427). -/
  | pwrCfgAtDie
  /-- DOMAIN_CONTROLLER_REQUEST (R353). -/
  | domainControllerRequest
  /-- FRAME_RETIRE_AT_HOME (R387). -/
  | frameRetireAtHome
  /-- LINK_UP (R392). -/
  | linkUp
  /-- POWER_BUCKET_REFILL (R327). -/
  | powerBucketRefill
  /-- DROOP_RECOVERY (R426). -/
  | droopRecovery
  /-- REQUEST_LEAVES_CLUSTER (R203). -/
  | requestLeavesCluster
  /-- POWER_LOSS (R426). -/
  | powerLoss
  deriving DecidableEq, Repr

end Sys2Proof
end

