-- ==== Sys2Proof/Machine/State.lean ====
section
/-! DEFINITION. The state of the module: contexts, clusters, dies, stops, the port die, memory and pending steps; the
state right after reset; the named ways a step can fault or be refused. -/

namespace Sys2Proof.Machine

/-- A vector register holding zero in every lane (R18). -/
def VReg.zero : VReg := { lanes := List.replicate 1024 0 }

/-- What a core holds for a context at stage entry (R18, R272, R274, R276, R280). -/
def CoreCtx.fresh : CoreCtx :=
  { v := List.replicate 16 VReg.zero, k := [0, 0, 0], fflg := 0, bypass := List.replicate 16 0, target := 0, sq := [],
    stopX := 0, stopY := 0, theta := 0, stopRec := 0, cmds := [], sqres := 0, late := [], landAt := 0, landFlags := 0 }

/-- State of a context slot (R16, R17) with what the device keeps beside it. -/
structure Ctx where
  occ : Occ
  parked : Bool
  /-- occupancy serial of the slot's tag (R356) -/
  serial : BitVec 16
  /-- uid of the task whose stage it runs -/
  task : Nat
  /-- window offset of the next bundle, program window base, packet address (R16, R24, R343) -/
  pc : BitVec 30
  pbase : W64
  pkt : W64
  /-- loop stack, outermost first; index registers; link stack, top first (R16, R144, R145) -/
  loops : List LoopEntry
  lx : List W64
  links : List (BitVec 30)
  /-- g0 to g63, full bits, expired bits, and which result each awaiting register takes (R15, R159) -/
  g : List W64
  full : BitVec 64
  expd : BitVec 64
  await : NMap Nat
  /-- p0 to p7; bit 0 reads as 1 through `Ctx.pred` (R16) -/
  p : BitVec 8
  alu0 : Ports
  alu1 : Ports
  prd : Ports
  mul : Ports
  lsu : LsuPorts
  /-- load queue, head first, and entries popped before their answers (R129, R158) -/
  lq : List LqEntry
  ghosts : List Nat
  key0 : W64
  key1 : W64
  draw : BitVec 128
  /-- special registers of R17: s.stat, scalar copy of s.fflg, s.sl, s.seed, s.mdl, s.rrb, s.scc, s.ctx, s.grid, s.arg -/
  stat : Byte
  fflg : Byte
  sl : BitVec 5
  seed : W32
  mdl : W32
  rrb : BitVec 3
  scc : W64
  sctx : W64
  grid : W64
  arg : W64
  /-- s.ccy is `ccy0` plus the cycles since `ccyAt` (R124) -/
  ccy0 : W64
  ccyAt : Nat
  cores : List CoreCtx
  /-- fixed-latency results in flight in issue order; captured results with REM in `time` (R11, R331, R332) -/
  inflight : List Landing
  snap : List Landing
  /-- the captured results are being replayed: each leaves the buffer when it has landed (R333) -/
  replaying : Bool
  accs : List Access
  wait : Option Wait
  /-- the bundle held on its sources, and how a hold that is over ended: 0 none, 1 sources ready, 2 bound passed, 3 + n
  restored from an image with n cycles of its bound (R129, R434) -/
  held : Option Held
  heldEnd : Nat
  seg : Segment
  /-- cycle up to which the segment count is charged (R22) -/
  segAt : Nat
  /-- earliest cycle of the next issue, last issue with its STALL, its offset, STALL still owed (R141, R199, R329) -/
  nextIssue : Nat
  tLast : Nat
  stallLast : Nat
  bpc : BitVec 30
  owed : Nat
  /-- expiry streak: count and opening context-cycle (R134) -/
  streak : Nat
  streakAt : W64
  /-- arbitration: PASS, ready-since cycle, ready and picked in the open slice, stage begun (R323 to R325) -/
  pass : Nat
  readyAt : Nat
  wasReady : Bool
  picked : Bool
  begun : Bool
  /-- it gave the sequencer up at a yield and has not issued or blocked since (R323) -/
  yielded : Bool
  /-- claimed shelves (R267) -/
  claims : Byte
  /-- trap records waiting for delivery, and the class of the latest record (R341, R346) -/
  pend : List TrapRec
  lastCls : Nat
  /-- later K, LSU and S slots are held until this request is answered (R314, R373) -/
  hold : Option Nat
  /-- arun commands counted for the sampled check (R384) -/
  runs : Nat
  gang : List GangPart
  /-- errors that stand in its state (R379) -/
  errs : List StoredErr
  deriving DecidableEq, Repr

/-- Ports and latches at stage entry (R18). -/
def Ports.zero : Ports := { o := 0, o2 := 0, q := 0, qh := 0 }

/-- A context slot that holds no stage. -/
def Ctx.empty : Ctx :=
  { occ := .free, parked := false, serial := 0, task := 0, pc := 0, pbase := 0, pkt := 0, loops := [],
    lx := List.replicate 6 0, links := [], g := List.replicate 64 0, full := BitVec.allOnes 64, expd := 0, await := [],
    p := 1, alu0 := .zero, alu1 := .zero, prd := .zero, mul := .zero,
    lsu := { o := 0, o2 := 0, dl := 0, sc := 0, cmp := 0, hi := 0 }, lq := [], ghosts := [],
    key0 := 0, key1 := 0, draw := 0, stat := 0, fflg := 0, sl := 3, seed := 0, mdl := 65535, rrb := 0, scc := 0,
    sctx := 0, grid := 0, arg := 0, ccy0 := 0, ccyAt := 0, cores := List.replicate 4 .fresh, inflight := [],
    snap := [], replaying := false, accs := [], wait := none, held := none,
    heldEnd := 0, seg := { count := 0, bound := 0, rb := 0, chk := false, sig := 0, crc := 0xFFFF, tested := false }, segAt := 0,
    nextIssue := 0, tLast := 0, stallLast := 0, bpc := 0, owed := 0, streak := 0, streakAt := 0, pass := 0,
    readyAt := 0, wasReady := false, picked := false, begun := false, yielded := false, claims := 0, pend := [], lastCls := 0,
    hold := none, runs := 0, gang := [], errs := [] }

/-- A core's stream engine (R258, R261): the context last served, the unit in progress (context, its last cycle), and of
the chunk in progress the engine cycles used and the flags raised so far. -/
structure Engine where
  last : Nat
  cur : Option (Nat × Nat)
  used : Nat
  flags : Byte
  deriving DecidableEq, Repr

/-- State of a cluster (R12): sequencer, arbiter, instruction cache, copy channels, TLBs, task queues, folio, shelves. -/
structure Cluster where
  /-- the context that holds the sequencer, and whether an arbiter decision is pending (R23) -/
  run : Option Nat
  deciding : Bool
  /-- end of the open slice, 0 when none is open (R325) -/
  sliceEnd : Nat
  /-- last tile or row access: cycle after its last reserved port cycle, its issue cycle if a tile, its context (R232) -/
  portTo : Nat
  /-- V-slot accesses whose rows still move (R233) -/
  rows : List RowJob
  tileAt : Option Nat
  tileCx : Nat
  lines : List Line
  fills : List (Nat × Nat)
  chans : List Channel
  /-- cluster TLB, four core TLBs, two micro-TLBs (R369) -/
  tlbs : List (List TlbEntry)
  /-- tasks waiting, in queue order; the level is in each entry (R319) -/
  queue : List Placed
  /-- uids of tasks started here that hold storage -/
  tasks : List Nat
  engines : List Engine
  /-- folio rows keyed core·512 + row, shelves keyed core·8 + shelf, by the numbers of `Task` (R3, R66, R269) -/
  folio : NMap FolioRow
  shelves : NMap Shelf
  /-- errors that stand in folio rows and shelves (R379) -/
  errs : List StoredErr
  /-- spares used by kind, and withdrawal (R385) -/
  spares : List Source
  withdrawn : Bool
  deriving DecidableEq, Repr

/-- A cluster with nothing on it; the engines have last served context 7 (R258). -/
def Cluster.empty : Cluster :=
  { run := none, deciding := false, sliceEnd := 0, portTo := 0, rows := [], tileAt := none, tileCx := 0, lines := [], fills := [],
    chans := [], tlbs := List.replicate 7 [], queue := [], tasks := [],
    engines := List.replicate 4 { last := 7, cur := none, used := 0, flags := 0 }, folio := [], shelves := [], errs := [], spares := [],
    withdrawn := false }

/-- Power and translation state of a frond die (R327, R369, R426, R427). -/
structure Frond where
  tlb2 : List TlbEntry
  cap : Nat
  refill : Nat
  dth : Nat
  bucket : Nat
  halved : Bool
  refilling : Bool
  deriving DecidableEq, Repr

/-- Defaults of R427; the bucket starts full. -/
def Frond.empty : Frond :=
  { tlb2 := [], cap := 2 ^ 20, refill := 128, dth := 460, bucket := 2 ^ 20, halved := false, refilling := false }

/-- State of an archive die: prefetch buffer, oldest sector first (R86); frames retired, units withdrawn, channels
left out (R387, R385, R420). -/
structure Archive where
  prefetch : List Nat
  retired : List Nat
  withdrawn : List (Nat × Nat)
  leftOut : List Nat
  deriving DecidableEq, Repr

/-- A catalogue entry: its four dwords (R389). -/
structure CatEntry where
  d0 : W64
  d1 : W64
  d2 : W64
  d3 : W64
  deriving DecidableEq, Repr

/-- State of a ring stop and its die: catalogue, counts, error windows, droop, temperature (R356, R385, R389, R426). -/
structure Stop where
  cat : NMap CatEntry
  written : W64
  stale : NMap W32
  orphan : NMap W32
  lasting : W64
  sources : List SourceCount
  droopc : W64
  stretched : Bool
  temp : BitVec 16
  deriving DecidableEq, Repr

/-- A stop with nothing counted. -/
def Stop.empty : Stop :=
  { cat := [], written := 0, stale := [], orphan := [], lasting := 0, sources := [], droopc := 0, stretched := false,
    temp := 0 }

/-- State of the port die: boot, management registers, measurement, flash, ports, flows (R392 to R428). -/
structure PortDie where
  bootst : W64
  restricted : Bool
  fwver : W32
  fwmin : W32
  etype : BitVec 16
  udpp : BitVec 16
  dirpa : BitVec 48
  alertva : W64
  retired : List Nat
  links : BitVec 18
  discards : NMap Nat
  msext : List W64
  mse : List (List Byte)
  flash : NMap Byte
  flows : NMap Flow
  /-- frames sent, newest first, as the host and the peers see them -/
  outbox : List Frame
  tlb2 : List TlbEntry
  /-- master domain table (R352), registered reclaims (R361), whether issue has stopped for heat (R426) -/
  doms : NMap W64
  reclaims : List Reclaim
  thermal : Bool
  powered : Bool
  deriving DecidableEq, Repr

/-- The port die before power-good: registers at their defaults, measurement zero, flash empty. -/
def PortDie.empty : PortDie :=
  { bootst := 0, restricted := true, fwver := 0, fwmin := 0, etype := 0x88B5, udpp := 17120, dirpa := 0, alertva := 0,
    retired := [], links := 0, discards := [], msext := List.replicate 8 0,
    mse := List.replicate 4 (List.replicate 64 0), flash := [], flows := [], outbox := [], tlb2 := [],
    doms := [], reclaims := [], thermal := false, powered := false }

/-- The bundle being issued: whose it is, what its moves read, what its slots fix for each other (R153). While no
bundle is in issue, `live` is true and a slot word reads and writes the context named here at once. -/
structure Issue where
  cl : Nat
  cx : Nat
  live : Bool
  /-- header word, window offset, X slot, size in bytes -/
  hdr : W32
  pc : BitVec 30
  x : Option W32
  size : Nat
  /-- values of the move sources still to be used, in slot order (R153) -/
  srcs : List W64
  /-- slot number of R340 of the slot in execution -/
  slot : BitVec 4
  /-- predicates, g registers, index registers, rotation base as read at issue -/
  p : BitVec 8
  g : List W64
  rrb : BitVec 3
  /-- successor chosen by a C slot, far target (R143, R144) -/
  succ : Option (BitVec 30)
  far : Option (BitVec 30)
  deriving DecidableEq, Repr

/-- No bundle in issue. -/
def Issue.none : Issue :=
  { cl := 0, cx := 0, live := true, hdr := 0x80000000, pc := 0, x := .none, size := 4, srcs := [], slot := 0, p := 1,
    g := [], rrb := 0, succ := .none, far := .none }

/-- A step still to come: its cycle, the event, its operands. -/
structure Pending where
  time : Nat
  ev : Instr
  arg : EvArg
  deriving DecidableEq, Repr

/-- The module. `now` is the core cycle; `agenda` holds the steps still to come, in order of their cycles and, within
a cycle, of their posting; external inputs (frames, links, supply, temperature, scrubs) come in through it too. `ev`
holds the operands of the event in execution. -/
structure State where
  now : Nat
  agenda : List Pending
  ev : EvArg
  issue : Issue
  /-- bytes of LPDDR at their physical address, staging from 2^48, scratchpads from 2^49; unlisted bytes are 0 (R92) -/
  mem : List Host.Cell
  /-- stored check bytes XOR recomputed check bytes, by sector number of `mem` addresses; unlisted is 0 (R376) -/
  syn : NMap (BitVec 32)
  /-- next identifier of an access, wait, task, packet or request -/
  uid : Nat
  /-- contexts keyed 8·cluster + context, stages that have left their slots above them (R28); clusters, frond dies, archive dies, stops -/
  ctxs : NMap Ctx
  clusters : NMap Cluster
  fronds : NMap Frond
  archives : NMap Archive
  stops : NMap Stop
  port : PortDie
  /-- copies of domain-table entries keyed 256·stop + domain (R353) -/
  copies : NMap W64
  /-- waiters at counter homes, and waits on counters behind windows (R218, R401) -/
  waiters : List Waiter
  winWaiters : List WinWaiter
  /-- bound regions, packets by uid, tasks by uid, launches waiting for an entry (R310, R318, R223) -/
  regions : NMap Region
  packets : NMap Packet
  tasks : NMap Task
  launches : List LaunchReq
  /-- contexts as they stood when an eviction wrote them, keyed 8·task + stage: what an image has no field for (R348, R351) -/
  kept : NMap Ctx
  /-- the device's copies of translation directory entries, by domain (R374) -/
  dirs : NMap W64
  /-- core cycle of the latest power-good (R6, R420) -/
  good : Nat
  /-- links of ring strands disabled (R385) -/
  strands : List (Nat × Nat × Nat)
  /-- the model's own counter of free values -/
  free : Nat
  deriving DecidableEq, Repr

/-- The module right after reset: nothing listed, the boot sequencer's step pending (R420). -/
def State.reset : State :=
  { now := 0, agenda := [{ time := 0, ev := .powerGood, arg := .zero }], ev := .zero, issue := .none, mem := [], syn := [], uid := 1, ctxs := [], clusters := [],
    fronds := [], archives := [], stops := [], port := .empty, copies := [], waiters := [], winWaiters := [],
    regions := [], packets := [], tasks := [], launches := [], kept := [], dirs := [], good := 0, strands := [], free := 0 }

/-- Ways a step can fault. Every trap of the device is a next state. -/
inductive Fault where
  /-- The 48 V input is off and no step is pending, so no cycle passes: raised by `step` alone. Safe: the machine stands
  still. -/
  | noPower
  deriving DecidableEq, Repr

/-- Ways a step can be refused. -/
inductive Refusal where
  /-- An instruction without a meaning yet: raised by `exec` alone. Safe: nothing is claimed of it. -/
  | notModelled (mnemonic : String)
  deriving DecidableEq, Repr

end Sys2Proof.Machine
end

