-- ==== Sys2Proof/Machine/Base.lean ====
section
/-! DEFINITION. Reading and changing the parts of the state by number, posting events, the ring map and hop counts, and
the per-die catalogue. -/

namespace Sys2Proof.Machine

/-! ### Parts of the state -/

/-- Key of a context: a slot 0 to 7, or a number above them, with the slot in its low three bits, under which a stage that has
left its slot is kept while work of it is outstanding (R28, R417). -/
def ctxKey (cl cx : Nat) : Nat := if cx < 8 then 8 * cl + cx else 128 * cx + cl

/-- Context `cx` of cluster `cl`. -/
def State.ctx (s : State) (cl cx : Nat) : Ctx := NMap.getD s.ctxs (ctxKey cl cx) .empty

/-- Replace a context. -/
def State.setCtx (s : State) (cl cx : Nat) (c : Ctx) : State := { s with ctxs := NMap.set s.ctxs (ctxKey cl cx) c }

/-- Stages of a cluster that have left their slots and whose work is outstanding, oldest first (R28, R417). -/
def State.shadows (s : State) (cl : Nat) : List Nat :=
  s.ctxs.filterMap (fun e => if 1024 ≤ e.1 ∧ e.1 % 128 = cl then some (e.1 / 128) else none)

/-- Change a context. -/
def State.modCtx (s : State) (cl cx : Nat) (f : Ctx → Ctx) : State := s.setCtx cl cx (f (s.ctx cl cx))

/-- Cluster `cl`. -/
def State.cluster (s : State) (cl : Nat) : Cluster := NMap.getD s.clusters cl .empty

/-- Change a cluster. -/
def State.modCluster (s : State) (cl : Nat) (f : Cluster → Cluster) : State :=
  { s with clusters := NMap.set s.clusters cl (f (s.cluster cl)) }

/-- Frond die `f`. -/
def State.frond (s : State) (f : Nat) : Frond := NMap.getD s.fronds f .empty

/-- Change a frond die. -/
def State.modFrond (s : State) (f : Nat) (g : Frond → Frond) : State :=
  { s with fronds := NMap.set s.fronds f (g (s.frond f)) }

/-- An archive die with nothing buffered, retired or withdrawn. -/
def Archive.empty : Archive := { prefetch := [], retired := [], withdrawn := [], leftOut := [] }

/-- Archive die `a`. -/
def State.archive (s : State) (a : Nat) : Archive := NMap.getD s.archives a .empty

/-- Change an archive die. -/
def State.modArchive (s : State) (a : Nat) (g : Archive → Archive) : State :=
  { s with archives := NMap.set s.archives a (g (s.archive a)) }

/-- Ring stop `t`. -/
def State.stop (s : State) (t : Nat) : Stop := NMap.getD s.stops t .empty

/-- Change a ring stop. -/
def State.modStop (s : State) (t : Nat) (g : Stop → Stop) : State :=
  { s with stops := NMap.set s.stops t (g (s.stop t)) }

/-- Change the port die. -/
def State.modPort (s : State) (g : PortDie → PortDie) : State := { s with port := g s.port }

/-- Place of an event among those of its cycle: a change of a stop's domain copies governs every check of the cycle (R353);
then the ordinary events; then what stops a context, which meets the boundary as the others leave it (R335, R350); then a
deadline, what is read of a cycle as the others leave it, and a resume of what a park of the same cycle has stopped (R125,
R131, R225, R328, R350); then what is given away in the cycle, contexts, slots and entries, to whoever waits (R320, R328, R406); then a response to a slot that is free, since a stage may start in it in this
cycle (R363); last the arbiter (R23). -/
def Pending.rank (p : Pending) : Nat :=
  match p.ev with
  | .domainUpdateAtStop => 0
  | .ctxParkAtTarget | .ctxEvictAtTarget | .contextStop | .deferredFault => 2
  | .ctxResumeAtTarget | .dependenceTimeout | .reclaimDeadline => 3
  | .resultLand => if p.arg.n = 2 then 3 else 1
  | .waitDeadlineExpire => if p.arg.n = 1 then 3 else 1
  | .taskStart => 4
  | .tirelLaunch => if p.arg.n = 3 then 4 else 1
  | .responseAtSlot => if p.arg.n = 9 then 5 else 1
  | .arbiterDecide => 6
  | _ => 1

/-- Put an event into an agenda, after every event of its cycle and rank and before every later one. -/
def insertPending (p : Pending) : List Pending → List Pending
  | [] => [p]
  | q :: r => if p.time < q.time ∨ (p.time = q.time ∧ p.rank < q.rank) then p :: q :: r else q :: insertPending p r

/-- Post an event for a cycle; a cycle already past means the present one. -/
def State.post (s : State) (t : Nat) (ev : Instr) (arg : EvArg) : State :=
  { s with agenda := insertPending { time := max t s.now, ev := ev, arg := arg } s.agenda }

/-- Operands naming a cluster, a context and an identifier. -/
def EvArg.at (cl cx id : Nat) : EvArg := { EvArg.zero with cl := cl, cx := cx, id := id }

/-- A new identifier. -/
def State.fresh (s : State) : Nat × State := (s.uid, { s with uid := s.uid + 1 })

/-- Take a value the spec leaves open. -/
def State.takeFree (s : State) : W64 × State := (Config.freeValue s.free, { s with free := s.free + 1 })

/-- Element `i` of a list, `d` beyond its end. -/
def nth {α : Type} (l : List α) (i : Nat) (d : α) : α := l.getD i d

/-- The bytes of a number, lowest first. -/
def leBytes (n : Nat) (v : Nat) : List Byte := (List.range n).map (fun i => BitVec.ofNat 8 (v / 2 ^ (8 * i)))

/-- The number of some bytes, lowest first (R7). -/
def leNat : List Byte → Nat
  | [] => 0
  | b :: r => b.toNat + 256 * leNat r

/-- The dword of some bytes (R7). -/
def leDword (l : List Byte) : W64 := BitVec.ofNat 64 (leNat l)

/-- Bits hi:lo of a number. -/
def bits (v : Nat) (hi lo : Nat) : Nat := v / 2 ^ lo % 2 ^ (hi + 1 - lo)

/-- Bits hi:lo of a dword. -/
def wbits (v : W64) (hi lo : Nat) : Nat := bits v.toNat hi lo

/-- Sign-extended value of the low `w` bits of a number. -/
def sextNat (w v : Nat) : Int := if v % 2 ^ w < 2 ^ (w - 1) then (v % 2 ^ w : Nat) else (v % 2 ^ w : Nat) - (2 ^ w : Nat)

/-! ### Ring map -/

/-- Stop of frond die `f` (R4). -/
def frondStop (f : Nat) : Nat := 5 * (f / 4) + 1 + nth [0, 1, 3, 4] (f % 4) 0

/-- Stop of the frond die of a cluster (R3, R4). -/
def clusterStop (c : Nat) : Nat := frondStop (c / 2)

/-- Stop of archive die `a` (R4). -/
def archiveStop (a : Nat) : Nat := 5 * a + 3

/-- Hop count between two stops (R5). -/
def hops (x y : Nat) : Nat := min (max x y - min x y) (81 - (max x y - min x y))

/-! ### Address keys of `State.mem` -/

/-- Key of a byte of a staging slice. -/
def stagingKey (slice off : Nat) : Nat := 2 ^ 48 + slice * 2 ^ 24 + off

/-- Key of a byte of a core's scratchpad, by physical offset. -/
def scratchKey (cl core off : Nat) : Nat := 2 ^ 49 + cl * 2 ^ 23 + core * 2 ^ 21 + off

/-- Home stop of a key: archive die window, slice's archive die, or the cluster's frond die; the port die for a Tirel
window (R85, R3, R103, R401). -/
def homeStop (a : Nat) : Nat :=
  if a < 2 ^ 47 then archiveStop (a / 2 ^ 37)
  else if a < 2 ^ 48 then 0
  else if a < 2 ^ 49 then archiveStop ((a - 2 ^ 48) / 2 ^ 24 / 8)
  else clusterStop ((a - 2 ^ 49) / 2 ^ 23)

/-- SRC code of the catalogue for a key (R389). -/
def homeSrc (a : Nat) : Nat := if a < 2 ^ 47 then 0 else if a < 2 ^ 48 then 8 else if a < 2 ^ 49 then 1 else 2

/-- Error source of a key (R385). -/
def homeSource (a : Nat) : Source :=
  if a < 2 ^ 48 then .frame (a / 2 ^ 16)
  else if a < 2 ^ 49 then .unit ((a - 2 ^ 48) / 2 ^ 24) ((a - 2 ^ 48) % 2 ^ 24 / 2 ^ 16)
  else .bank ((a - 2 ^ 49) / 2 ^ 23) ((a - 2 ^ 49) / 2 ^ 21 % 4) ((a - 2 ^ 49) / 8 % 64)

/-! ### Catalogue and domain copies -/

/-- Die cycle counter at a stop (R6). -/
def State.dieCycle (s : State) (t : Nat) : Nat := s.now - (s.good + Config.dieStart t)

/-- Make a catalogue entry at a stop (R389). -/
def State.logCat (s : State) (t type src : Nat) (dom : BitVec 8) (inc : BitVec 10) (addr : Nat) (count info : Nat) :
    State :=
  s.modStop t (fun st =>
    let n := st.written.toNat
    let d0 := n % 2 ^ 16 * 2 ^ 48 + type * 2 ^ 40 + src * 2 ^ 32 + dom.toNat * 2 ^ 24 + inc.toNat * 2 ^ 14 + t * 2 ^ 7
    { st with
      written := st.written + 1
      cat := NMap.set st.cat (n % 1024)
        { d0 := BitVec.ofNat 64 d0, d1 := BitVec.ofNat 64 (s.dieCycle t), d2 := BitVec.ofNat 64 addr,
          d3 := BitVec.ofNat 64 (count % 2 ^ 32 * 2 ^ 32 + info % 2 ^ 32) } })

/-- A refused or dropped operation: entry of type 10 with the number of its condition in INFO (R389). -/
def State.logRefused (s : State) (t src : Nat) (dom : BitVec 8) (inc : BitVec 10) (addr info : Nat) : State :=
  s.logCat t 10 src dom inc addr 0 info

/-- Add 1 to a 32-bit count that saturates (R356). -/
def bump32 (m : NMap W32) (k : Nat) : NMap W32 :=
  NMap.modify m k 0 (fun v => if v = 0xFFFFFFFF then v else v + 1)

/-- Count a stale drop at a stop (R355). -/
def State.countStale (s : State) (t : Nat) (dom : BitVec 8) : State :=
  s.modStop t (fun st => { st with stale := bump32 st.stale dom.toNat })

/-- Count an orphan at a stop (R356). -/
def State.countOrphan (s : State) (t : Nat) (dom : BitVec 8) : State :=
  s.modStop t (fun st => { st with orphan := bump32 st.orphan dom.toNat })

/-- A stop's copy of a domain-table entry (R353). -/
def State.domAt (s : State) (t : Nat) (d : BitVec 8) : W64 := NMap.getD s.copies (256 * t + d.toNat) 0

/-- VALID of an entry (R352). -/
def entryValid (e : W64) : Bool := e.getLsbD 31
/-- MODE of an entry (R352). -/
def entryMode (e : W64) : Bool := e.getLsbD 32
/-- BIND of an entry (R352). -/
def entryBind (e : W64) : Bool := e.getLsbD 33
/-- SUPV of an entry (R352). -/
def entrySupv (e : W64) : BitVec 8 := e.extractLsb' 40 8
/-- CUR of an entry (R352). -/
def entryCur (e : W64) : BitVec 10 := e.extractLsb' 0 10
/-- WM of an entry (R352). -/
def entryWm (e : W64) : BitVec 10 := e.extractLsb' 10 10

/-- A request of (domain, incarnation) is current at a stop (R354). -/
def State.current (s : State) (t : Nat) (d : BitVec 8) (i : BitVec 10) : Bool :=
  entryValid (s.domAt t d) && entryCur (s.domAt t d) == i

/-- Drop a stale request at a stop: count it, and note a domain that is not valid (R354, R355). -/
def State.dropStale (s : State) (t : Nat) (d : BitVec 8) (i : BitVec 10) (addr : Nat) : State :=
  let s := s.countStale t d
  if entryValid (s.domAt t d) then s else s.logRefused t 8 d i addr 1

/-- Domain `e` supervises domain `d`, by the copy at a stop (R352). -/
def State.supervises (s : State) (t : Nat) (e d : BitVec 8) : Bool :=
  entryValid (s.domAt t d) && entrySupv (s.domAt t d) == e && e != d

/-! ### Contexts -/

/-- s.ccy (R124). -/
def Ctx.ccy (c : Ctx) (now : Nat) : W64 := c.ccy0 + BitVec.ofNat 64 (now - c.ccyAt)

/-- Domain of a context (R17). -/
def Ctx.dom (c : Ctx) : BitVec 8 := c.sctx.extractLsb' 11 8
/-- Incarnation of a context (R17). -/
def Ctx.inc (c : Ctx) : BitVec 10 := c.sctx.extractLsb' 19 10
/-- Stage of a context (R17). -/
def Ctx.stage (c : Ctx) : Nat := (c.sctx.extractLsb' 29 3).toNat
/-- Supervisor mode (R2, R17). -/
def Ctx.super (c : Ctx) : Bool := c.sctx.getLsbD 10
/-- Predicate `n`; p0 reads as true (R16). -/
def Ctx.pred (p : BitVec 8) (n : Nat) : Bool := n == 0 || p.getLsbD n

/-- The tag a request of a context carries (R354, R356). -/
def Ctx.who (c : Ctx) (cl cx : Nat) : Who :=
  { cl := cl, cx := cx, serial := c.serial, dom := c.dom, inc := c.inc, user := !c.super }

/-- The tag of a slot matches a requester (R356). -/
def Ctx.tagged (c : Ctx) (w : Who) : Bool :=
  c.occ != .free && c.serial == w.serial && c.dom == w.dom && c.inc == w.inc

/-- Blocked on a wait or a held source (R323). -/
def Ctx.blocked (c : Ctx) : Bool := c.wait.isSome || c.held.isSome

/-- Ready: resident, not parked, not blocked (R323). -/
def Ctx.ready (c : Ctx) : Bool := c.occ == .resident && !c.parked && !c.blocked

/-- An uncorrectable error stands at a place of the context's state (R379). -/
def Ctx.badAt (c : Ctx) (x : ErrPlace) : Bool := c.errs.any (fun e => e.place == x && !e.single)

/-- Full g register `n` written with a value (R154). -/
def Ctx.setG (c : Ctx) (n : Nat) (v : W64) : Ctx :=
  { c with g := c.g.set n v, full := c.full ||| (BitVec.ofNat 64 (2 ^ n)),
           expd := c.expd &&& ~~~(BitVec.ofNat 64 (2 ^ n)), await := NMap.erase c.await n,
           errs := c.errs.filter (fun e => e.place != .g n) }

/-- g register `n` marked empty, awaiting the result `tok` (R15, R159). -/
def Ctx.emptyG (c : Ctx) (n tok : Nat) : Ctx :=
  { c with full := c.full &&& ~~~(BitVec.ofNat 64 (2 ^ n)), expd := c.expd &&& ~~~(BitVec.ofNat 64 (2 ^ n)),
           await := NMap.set c.await n tok }

/-- Fill the register that still awaits the result `tok`; any other result is discarded (R159). -/
def Ctx.fillG (c : Ctx) (n tok : Nat) (v : W64) : Ctx :=
  if NMap.get? c.await n = some tok then c.setG n v else c

/-- End the result `tok` without a value: 0, full and expired (R129). -/
def Ctx.expireG (c : Ctx) (n tok : Nat) : Ctx :=
  if NMap.get? c.await n = some tok then
    let c := c.setG n 0
    { c with expd := c.expd ||| (BitVec.ofNat 64 (2 ^ n)) }
  else c

/-- Region of a context's task. -/
def State.taskOf (s : State) (c : Ctx) : Option Task := NMap.get? s.tasks c.task

/-- Region record of a number. -/
def State.region (s : State) (r : Nat) : Option Region := NMap.get? s.regions r

end Sys2Proof.Machine
end

