-- ==== Sys2Proof/Machine/Sha.lean ====
section
/-! DEFINITION. SHA-512, and the verification of an RSASSA-PSS signature with SHA-512, MGF1 with SHA-512 and a 64-byte
salt under a 4,096-bit modulus with exponent 65,537 (R421 to R423). -/

namespace Sys2Proof.Machine

/-! ### SHA-512 -/

/-- The largest number, `r` plus a number of `k` bits, whose power `e` is at most `n`: its bits are tried from the top. -/
def rootBits (e n : Nat) : Nat → Nat → Nat
  | 0, r => r
  | k + 1, r => rootBits e n k (if (r + 2 ^ k) ^ e ≤ n then r + 2 ^ k else r)

/-- The first 64 bits of the fractional part of the root of order `e` of `p`. -/
def rootFraction (e p : Nat) : Nat := rootBits e (p * 2 ^ (64 * e)) 70 0 % 2 ^ 64

/-- The first 80 prime numbers, the last of which is 409. -/
def shaPrimes : List Nat := (List.range 410).filter (fun n => 2 ≤ n ∧ (List.range n).all (fun d => d < 2 || n % d != 0))

/-- The round constants: fractions of the cube roots of the first 80 primes. -/
def shaK : List Nat := shaPrimes.map (rootFraction 3)

/-- The initial hash value: fractions of the square roots of the first 8 primes. -/
def shaInit : List Nat := (shaPrimes.take 8).map (rootFraction 2)

/-- A word turned right by each of some amounts, and the results added without carry. -/
def rotations (x : Nat) (amounts : List Nat) : Nat :=
  amounts.foldl (fun r n => r ^^^ (x / 2 ^ n + x % 2 ^ n * 2 ^ (64 - n))) 0

/-- The message schedule, newest word first: `k` words more than the block's own. -/
def shaSchedule : Nat → List Nat → List Nat
  | 0, w => w
  | k + 1, w =>
    let old := nth w 14 0
    let late := nth w 1 0
    let sum := nth w 15 0 + nth w 6 0 + (rotations old [1, 8] ^^^ old / 2 ^ 7) + (rotations late [19, 61] ^^^ late / 2 ^ 6)
    shaSchedule k (sum % 2 ^ 64 :: w)

/-- One round on the eight working words, `kw` being its constant plus its schedule word: seven words move on by a place,
the fifth takes the first sum, and the sum of both comes in front. -/
def shaRound (h : List Nat) (kw : Nat) : List Nat :=
  let w := fun i => nth h i 0
  let choice := w 6 ^^^ (w 4 &&& (w 5 ^^^ w 6))
  let most := (w 0 &&& (w 1 ||| w 2)) ||| (w 1 &&& w 2)
  let first := w 7 + kw + choice + rotations (w 4) [14, 18, 41]
  let second := most + rotations (w 0) [28, 34, 39]
  ((first + second) % 2 ^ 64 :: h.take 7).set 4 ((w 3 + first) % 2 ^ 64)

/-- The number of some bytes, highest first. -/
def beNat (l : List Byte) : Nat := leNat l.reverse

/-- The bytes of a number, highest first. -/
def beBytes (n v : Nat) : List Byte := (leBytes n v).reverse

/-- Compress a block of 128 bytes into the hash value. -/
def shaBlock (h : List Nat) (b : List Byte) : List Nat :=
  let m := (List.range 16).map (fun i => beNat ((b.drop (8 * i)).take 8))
  let w := (shaSchedule 64 m.reverse).reverse
  let r := (shaK.zip w).foldl (fun h p => shaRound h (p.1 + p.2)) h
  (h.zip r).map (fun p => (p.1 + p.2) % 2 ^ 64)

/-- Compress the blocks of a padded message; `fuel` is their number. -/
def shaBlocks : Nat → List Nat → List Byte → List Nat
  | 0, h, _ => h
  | k + 1, h, m => shaBlocks k (shaBlock h (m.take 128)) (m.drop 128)

/-- SHA-512 of some bytes: 64 bytes. -/
def sha512 (m : List Byte) : List Byte :=
  let n := m.length
  let p := m ++ [0x80] ++ List.replicate ((239 - n % 128) % 128) 0 ++ beBytes 16 (8 * n)
  (shaBlocks (p.length / 128) shaInit p).flatMap (beBytes 8)

/-! ### RSASSA-PSS -/

/-- Square a number `k` times modulo `m`. -/
def squares (m : Nat) : Nat → Nat → Nat
  | 0, x => x
  | k + 1, x => squares m k (x * x % m)

/-- A number raised to the power 65,537 modulo `m`. -/
def rsaPublic (m x : Nat) : Nat := squares m 16 (x % m) * x % m

/-- `n` blocks of MGF1 with SHA-512. -/
def mgf1 (seed : List Byte) (n : Nat) : List Byte := (List.range n).flatMap (fun i => sha512 (seed ++ beBytes 4 i))

/-- A signature of 512 bytes verifies over a message under a modulus of 4,096 bits: RSASSA-PSS with SHA-512, MGF1 with
SHA-512, a salt of 64 bytes. -/
def pssVerify (modulus : Nat) (msg sig : List Byte) : Bool :=
  let x := beNat sig
  let em := beBytes 512 (rsaPublic modulus x)
  let masked := em.take 447
  let h := (em.drop 447).take 64
  let mask := (mgf1 h 7).take 447
  let db := (masked.zip mask).map (fun p => p.1 ^^^ p.2)
  let db := match db with
    | b :: r => (b &&& 0x7F) :: r
    | [] => []
  sig.length == 512 && decide (2 ^ 4095 ≤ modulus) && decide (modulus < 2 ^ 4096) && decide (x < modulus) &&
    nth em 511 0 == 0xBC && (masked.headD 0).getLsbD 7 == false && db.take 382 == List.replicate 382 0 && nth db 382 0 == 1 &&
    sha512 (List.replicate 8 0 ++ sha512 msg ++ db.drop 383) == h

end Sys2Proof.Machine
end

