-- ==== Sys2Proof/WellFormed.lean ====
section
/-! DEFINITION. Well-formed instructions: the field values the tables of "Opcode Map and Assembly Language" and the
move, C and header tables allow (R142, R146, R149 to R151, R163 to R173). -/

namespace Sys2Proof

/-- A source R149 assigns: registers, latches, literals, special registers 0 to 11 (R17), immediates. -/
def Machine.MoveSrc.wf (m : Machine.MoveSrc) : Bool :=
  let f := m.src.toNat
  decide (f < 0x4E) || (decide (0x50 ≤ f) && decide (f < 0x58)) || (decide (0x80 ≤ f) && decide (f < 0x8C)) ||
    decide (0x200 ≤ f)

/-- An integer element type (R39, R171). -/
def isInt (t : BitVec 3) : Bool := decide (t.toNat < 6)

/-- Elements per lane of a type (R39). -/
def elems (t : BitVec 3) : Nat :=
  match t.toNat with
  | 2 | 3 | 7 => 2
  | 4 | 5 => 4
  | _ => 1

/-- Selectors `vcvt` allows: zero for a narrowing integer conversion and for w16 to f32 (R171, R244). -/
def cvtSelector (s t : BitVec 3) (e : BitVec 2) : Bool :=
  if isInt s && isInt t && decide (elems s < elems t) then e == 0
  else if s == 7 && t == 6 then e == 0 else true

/-- A published numerics profile (R70). -/
def profile (n : BitVec 4) : Bool := n == 1 || n == 2

/-- A register that can be the base of four (R164). -/
def base (g : BitVec 6) : Bool := decide (g.toNat ≤ 60)

/-- The instruction is one the tables allow. Events are always allowed. -/
def Instr.wf : Instr → Bool
  | .powerGood => true
  | .portLinkRetry => true
  | .tirelRead => true
  | .tirelWrite => true
  | .tirelAtomic => true
  | .tirelCtrAdd => true
  | .tirelLaunch => true
  | .mgmtOpen => true
  | .mgmtClose => true
  | .mgmtReadRegister => true
  | .mgmtWriteRegister => true
  | .fwminWrite => true
  | .msextWrite => true
  | .droopcRead => true
  | .mgmtAttest => true
  | .tirelResponse => true
  | .tirelAck => true
  | .ackSend => true
  | .tirelRetransmit => true
  | .linkDown => true
  | .neighbourSolicitation => true
  | .nonTirelFrame => true
  | .windowAccessSend => true
  | .windowCounterPoll => true
  | .droopStretch => true
  | .tempRefillHalve => true
  | .thermalStop => true
  | .patrolScrub => true
  | .errorWindowStart => true
  | .spareSubstitution => true
  | .stagingUnitWithdraw => true
  | .accessAtHome => true
  | .counterOpAtHome => true
  | .waitCancelAtHome => true
  | .responseAtSlot => true
  | .loadExpire => true
  | .waitDeadlineExpire => true
  | .arwIndeterminate => true
  | .mdlExpire => true
  | .waitComplete => true
  | .segmentOverrun => true
  | .resultLand => true
  | .icacheLineFill => true
  | .arbiterDecide => true
  | .contextStop => true
  | .trapDelivery => true
  | .deferredFault => true
  | .ctxParkAtTarget => true
  | .ctxResumeAtTarget => true
  | .ctxEvictAtTarget => true
  | .ctxLoadPerform => true
  | .copyCommandBegin => true
  | .copySectorStep => true
  | .copyTranslationRetry => true
  | .streamChunk => true
  | .launchEnqueue => true
  | .packetRead => true
  | .dependencePoll => true
  | .dependenceTimeout => true
  | .taskPlace => true
  | .taskStart => true
  | .taskEnd => true
  | .packetComplete => true
  | .rcbBindAtDispatch => true
  | .domainUpdateAtStop => true
  | .reclaimAtController => true
  | .reclaimStopAnswer => true
  | .reclaimDeadline => true
  | .tableWalk => true
  | .tlbInvAtTlb => true
  | .pwrCfgAtDie => true
  | .seq _ _ _ => true
  | .jump _ _ _ _ => true
  | .br _ _ _ _ _ => true
  | .loop _ _ _ => true
  | .call _ _ _ _ => true
  | .ret _ _ _ => true
  | .ind _ _ _ _ => true
  | .endStage _ _ _ => true
  | .loopi n => n != 0
  | .loopg _ _ _ => true
  | .yield b _ => b != 0
  | .far _ => true
  | .lpop => true
  | .trapi _ => true
  | .moveToRf m _ => m.wf
  | .moveToPreg m _ => m.wf
  | .moveToSpr m s => m.wf && (s == 1 || s == 2 || s == 5 || s == 6)
  | .moveToOperandPort m u _ => m.wf && (2 ≤ u.toNat && u.toNat ≤ 6)
  | .lsuDl m => m.wf
  | .lsuSc m => m.wf
  | .lsuCmp m => m.wf
  | .lsuHi m => m.wf
  | .add m _ _ => m.wf
  | .sub m _ _ => m.wf
  | .and m _ _ => m.wf
  | .or m _ _ => m.wf
  | .xor m _ _ => m.wf
  | .andn m _ _ => m.wf
  | .shl m _ _ => m.wf
  | .shr m _ _ => m.wf
  | .sra m _ _ => m.wf
  | .rol m _ _ => m.wf
  | .min m _ _ => m.wf
  | .max m _ _ => m.wf
  | .minn m _ _ => m.wf
  | .maxn m _ _ => m.wf
  | .clz m _ _ => m.wf
  | .ctz m _ _ => m.wf
  | .popc m _ _ => m.wf
  | .sext m _ _ => m.wf
  | .zext m _ _ => m.wf
  | .bfx m _ _ => m.wf
  | .bfi m _ _ => m.wf
  | .lea m _ _ => m.wf
  | .sel m _ _ => m.wf
  | .pass m _ _ => m.wf
  | .bswap m _ _ => m.wf
  | .abs m _ _ => m.wf
  | .cmpeq m _ => m.wf
  | .cmpne m _ => m.wf
  | .cmplt m _ => m.wf
  | .cmple m _ => m.wf
  | .cmpltn m _ => m.wf
  | .cmplen m _ => m.wf
  | .tbit m _ => m.wf
  | .pand m => m.wf
  | .por m => m.wf
  | .pxor m => m.wf
  | .pnot m => m.wf
  | .pmov m => m.wf
  | .mul m _ => m.wf
  | .mulh m _ => m.wf
  | .mulhn m _ => m.wf
  | .madd m _ => m.wf
  | .div m _ => m.wf
  | .divn m _ => m.wf
  | .rem m _ => m.wf
  | .remn m _ => m.wf
  | .ldI8 m _ => m.wf
  | .ldN8 m _ => m.wf
  | .ldI16 m _ => m.wf
  | .ldN16 m _ => m.wf
  | .ldI32 m _ => m.wf
  | .ldN32 m _ => m.wf
  | .ld64 m _ => m.wf
  | .ld128 m _ => m.wf
  | .st8 m _ => m.wf
  | .st16 m _ => m.wf
  | .st32 m _ => m.wf
  | .st64 m _ => m.wf
  | .st128 m _ => m.wf
  | .pf m => m.wf
  | .aAdd32 m _ => m.wf
  | .aAnd32 m _ => m.wf
  | .aOr32 m _ => m.wf
  | .aXor32 m _ => m.wf
  | .aMin32 m _ => m.wf
  | .aMax32 m _ => m.wf
  | .aMinn32 m _ => m.wf
  | .aMaxn32 m _ => m.wf
  | .aSwap32 m _ => m.wf
  | .aCas32 m _ => m.wf
  | .aAdd64 m _ => m.wf
  | .aAnd64 m _ => m.wf
  | .aOr64 m _ => m.wf
  | .aXor64 m _ => m.wf
  | .aMin64 m _ => m.wf
  | .aMax64 m _ => m.wf
  | .aMinn64 m _ => m.wf
  | .aMaxn64 m _ => m.wf
  | .aSwap64 m _ => m.wf
  | .aCas64 m _ => m.wf
  | .redAdd32 m _ => m.wf
  | .redAnd32 m _ => m.wf
  | .redOr32 m _ => m.wf
  | .redXor32 m _ => m.wf
  | .redMin32 m _ => m.wf
  | .redMax32 m _ => m.wf
  | .redMinn32 m _ => m.wf
  | .redMaxn32 m _ => m.wf
  | .redAdd64 m _ => m.wf
  | .redAnd64 m _ => m.wf
  | .redOr64 m _ => m.wf
  | .redXor64 m _ => m.wf
  | .redMin64 m _ => m.wf
  | .redMax64 m _ => m.wf
  | .redMinn64 m _ => m.wf
  | .redMaxn64 m _ => m.wf
  | .vadd _ _ _ _ _ => true
  | .vsub _ _ _ _ _ => true
  | .vmul _ _ _ _ _ => true
  | .vfma _ _ _ _ _ => true
  | .vadds _ _ _ _ _ => true
  | .vsubs _ _ _ _ _ => true
  | .vmin _ _ _ _ _ => true
  | .vmax _ _ _ _ _ => true
  | .vminn _ _ _ _ _ => true
  | .vmaxn _ _ _ _ _ => true
  | .vabs _ _ _ _ => true
  | .vneg _ _ _ _ => true
  | .vand _ _ _ _ _ => true
  | .vor _ _ _ _ _ => true
  | .vxor _ _ _ _ _ => true
  | .vshl _ _ b c t _ m => isInt t && (if m == 1 then b == 0 else c == 0)
  | .vshr _ _ b c t _ m => isInt t && (if m == 1 then b == 0 else c == 0)
  | .vsra _ _ b c t _ m => isInt t && (if m == 1 then b == 0 else c == 0)
  | .vcmpeq d _ _ _ _ => d != 0
  | .vcmplt d _ _ _ _ => d != 0
  | .vcmple d _ _ _ _ => d != 0
  | .vsel _ _ _ _ k => k != 0
  | .vmov _ _ _ _ => true
  | .vsplat _ _ _ _ => true
  | .vbcr _ _ _ _ _ => true
  | .vrotr _ _ _ _ _ => true
  | .vredr _ _ c _ _ n => decide (n.toNat ≤ 4) && profile c
  | .vbcc _ _ _ _ _ => true
  | .vrotc _ _ _ _ _ => true
  | .vredc _ _ c _ _ n => decide (n.toNat ≤ 4) && profile c
  | .vcvt _ _ t _ s e => t != s && e != 3 && cvtSelector s t e
  | .vpack _ _ _ t _ s => isInt t && isInt s && decide (elems s < elems t)
  | .vunpk _ _ t _ s _ => isInt t && isInt s && decide (elems t < elems s)
  | .vld _ _ => true
  | .vst _ _ _ => true
  | .vldr _ _ _ => true
  | .vstr _ _ _ _ => true
  | .vexp2 _ _ _ _ _ => true
  | .vlog2 _ _ _ _ _ => true
  | .vrcp _ _ _ _ _ => true
  | .vrsq _ _ _ _ _ => true
  | .vsqrt _ _ _ _ _ => true
  | .vtanh _ _ _ _ _ => true
  | .vsigm _ _ _ _ _ => true
  | .vsin _ _ _ _ _ => true
  | .vcos _ _ _ _ _ => true
  | .vqmax _ _ _ q => q != 3
  | .rngDraw _ c n => decide (c.toNat + n.toNat ≤ 15)
  | .vcore _ => true
  | .strSetl _ _ => true
  | .strSeed _ => true
  | .shfClaim _ _ => true
  | .shfRel _ => true
  | .wld _ _ _ _ => true
  | .arun a _ m s n => base a && m != 3 && profile n && !(s == 1 && m == 2)
  | .arunBt a _ m s n => base a && m != 3 && profile n && !(s == 1 && m == 2)
  | .stopCfg _ _ _ => true
  | .fclr _ _ _ => true
  | .drain _ _ _ _ _ n => profile n
  | .fld _ _ _ _ => true
  | .fst _ _ _ _ => true
  | .sq4 _ _ _ s _ _ => s != 3
  | .sq8 _ _ _ s _ => s != 3
  | .sqLd _ _ _ => true
  | .sqClr => true
  | .chk a _ m n => base a && m != 3 && profile n
  | .strStat _ => true
  | .cpyStart a _ => base a
  | .cpyWp _ _ => true
  | .cpyWpwait _ _ _ _ _ => true
  | .cpyAbort _ => true
  | .ctrAdd _ _ c r _ => r == 1 || c == 0
  | .ctrMax _ _ c r _ => r == 1 || c == 0
  | .ctrRead _ _ _ _ => true
  | .ctrWait _ _ _ _ _ => true
  | .ctrArw a _ _ _ => base a
  | .fence _ _ _ k _ => k != 0
  | .qsend _ _ _ _ => true
  | .qrecv _ _ _ _ => true
  | .rngKey _ _ => true
  | .rngCtr _ _ => true
  | .rngSkip _ _ => true
  | .rngNext _ => true
  | .rngSave c => base c
  | .launch _ _ _ _ => true
  | .sysCtx _ s => decide (s.toNat ≤ 7)
  | .sysFlg _ => true
  | .ctxEvict _ _ _ => true
  | .ctxLoad _ _ _ => true
  | .ctxPark _ => true
  | .ctxResume _ => true
  | .incAdv _ _ => true
  | .reclaim _ _ _ => true
  | .tlbInv _ _ _ _ _ _ => true
  | .rcbBind _ _ => true
  | .ctrReset _ _ => true
  | .frameRetire _ => true
  | .errRead _ _ => true
  | .errClr _ => true
  | .snapRead _ _ _ => true
  | .domSet _ _ => true
  | .pwrCfg _ _ => true
  | .domainControllerRequest => true
  | .frameRetireAtHome => true
  | .linkUp => true
  | .powerBucketRefill => true
  | .droopRecovery => true
  | .requestLeavesCluster => true
  | .powerLoss => true

end Sys2Proof
end

