-- ==== Sys2Proof/Decode.lean ====
section
/-! DEFINITION. Decoding of slot words and bundles, total on any bytes and refusing by name, and the encoder, both from
the encoding tables of the spec (R138, R142, R146, R148 to R151, R167 to R173). -/

namespace Sys2Proof

open Sys2Proof.Machine

/-- Why a word or a bundle is no instruction; each is ILB at decode (R9, R163). -/
inductive DecodeError where
  /-- an operation number no table lists -/
  | unassigned
  /-- a non-zero reserved field, or a fixed field with another value -/
  | reserved
  /-- a field value its table forbids -/
  | field
  /-- too few bytes, or a bundle past the end of its line (R140) -/
  | truncated
  deriving DecidableEq, Repr

/-- Guard and source of a move word (R148). -/
def moveSrc (w : W32) : MoveSrc :=
  { gi := w.extractLsb' 31 1, gp := w.extractLsb' 28 3, src := w.extractLsb' 18 10, w := w.extractLsb' 17 1 }

/-- The row of the tables with this mask and match, if the word has its fixed bits and allowed field values. -/
def row (w mask bits : W32) (i : Instr) : Except DecodeError Instr :=
  if w &&& mask = bits then (if i.wf then .ok i else .error .field) else .error .reserved

/-- A header word (R138, R142); bit 31 is part of every row. -/
def decodeHeader (w : W32) : Except DecodeError Instr :=
  match (w.extractLsb' 24 3).toNat with
  | 0 => row w 0x8700FFFF 0x80000000 (.seq (w.extractLsb' 28 3) (w.extractLsb' 27 1) (w.extractLsb' 16 8))
  | 1 => row w 0x8700F000 0x81000000 (.jump (w.extractLsb' 28 3) (w.extractLsb' 27 1) (w.extractLsb' 16 8) (w.extractLsb' 0 12))
  | 2 => row w 0x87000000 0x82000000 (.br (w.extractLsb' 28 3) (w.extractLsb' 27 1) (w.extractLsb' 16 8) (w.extractLsb' 12 4) (w.extractLsb' 0 12))
  | 3 => row w 0x8700FFFF 0x83000000 (.loop (w.extractLsb' 28 3) (w.extractLsb' 27 1) (w.extractLsb' 16 8))
  | 4 => row w 0x8700F000 0x84000000 (.call (w.extractLsb' 28 3) (w.extractLsb' 27 1) (w.extractLsb' 16 8) (w.extractLsb' 0 12))
  | 5 => row w 0x8700FFFF 0x85000000 (.ret (w.extractLsb' 28 3) (w.extractLsb' 27 1) (w.extractLsb' 16 8))
  | 6 => row w 0x8700FFC0 0x86000000 (.ind (w.extractLsb' 28 3) (w.extractLsb' 27 1) (w.extractLsb' 16 8) (w.extractLsb' 0 6))
  | 7 => row w 0x8F00F000 0x87000000 (.endStage (w.extractLsb' 28 3) (w.extractLsb' 16 8) (w.extractLsb' 0 12))
  | _ => .error .unassigned

/-- A C-slot word (R146). -/
def decodeC (w : W32) : Except DecodeError Instr :=
  match (w.extractLsb' 28 4).toNat with
  | 0 => row w 0xFF000000 0x00000000 (.loopi (w.extractLsb' 0 24))
  | 1 => row w 0xF0000000 0x10000000 (.loopg (w.extractLsb' 22 6) (w.extractLsb' 10 12) (w.extractLsb' 0 10))
  | 2 => row w 0xF00007FF 0x20000000 (.yield (w.extractLsb' 12 16) (w.extractLsb' 11 1))
  | 3 => row w 0xF0000000 0x30000000 (.far (w.extractLsb' 0 28))
  | 4 => row w 0xFFFFFFFF 0x40000000 (.lpop)
  | 6 => row w 0xFFFF0000 0x60000000 (.trapi (w.extractLsb' 0 16))
  | _ => .error .unassigned

/-- A trigger of ALU0 or ALU1 (R167). -/
def decodeAlu (w : W32) : Except DecodeError Instr :=
  match (w.extractLsb' 2 8).toNat with
  | 0 => row w 0x0001EFFC 0x00002400 (.add (moveSrc w) (w.extractLsb' 12 1) (w.extractLsb' 0 2))
  | 1 => row w 0x0001EFFC 0x00002404 (.sub (moveSrc w) (w.extractLsb' 12 1) (w.extractLsb' 0 2))
  | 2 => row w 0x0001EFFC 0x00002408 (.and (moveSrc w) (w.extractLsb' 12 1) (w.extractLsb' 0 2))
  | 3 => row w 0x0001EFFC 0x0000240C (.or (moveSrc w) (w.extractLsb' 12 1) (w.extractLsb' 0 2))
  | 4 => row w 0x0001EFFC 0x00002410 (.xor (moveSrc w) (w.extractLsb' 12 1) (w.extractLsb' 0 2))
  | 5 => row w 0x0001EFFC 0x00002414 (.andn (moveSrc w) (w.extractLsb' 12 1) (w.extractLsb' 0 2))
  | 6 => row w 0x0001EFFC 0x00002418 (.shl (moveSrc w) (w.extractLsb' 12 1) (w.extractLsb' 0 2))
  | 7 => row w 0x0001EFFC 0x0000241C (.shr (moveSrc w) (w.extractLsb' 12 1) (w.extractLsb' 0 2))
  | 8 => row w 0x0001EFFC 0x00002420 (.sra (moveSrc w) (w.extractLsb' 12 1) (w.extractLsb' 0 2))
  | 9 => row w 0x0001EFFC 0x00002424 (.rol (moveSrc w) (w.extractLsb' 12 1) (w.extractLsb' 0 2))
  | 10 => row w 0x0001EFFC 0x00002428 (.min (moveSrc w) (w.extractLsb' 12 1) (w.extractLsb' 0 2))
  | 11 => row w 0x0001EFFC 0x0000242C (.max (moveSrc w) (w.extractLsb' 12 1) (w.extractLsb' 0 2))
  | 12 => row w 0x0001EFFC 0x00002430 (.minn (moveSrc w) (w.extractLsb' 12 1) (w.extractLsb' 0 2))
  | 13 => row w 0x0001EFFC 0x00002434 (.maxn (moveSrc w) (w.extractLsb' 12 1) (w.extractLsb' 0 2))
  | 14 => row w 0x0001EFFC 0x00002438 (.clz (moveSrc w) (w.extractLsb' 12 1) (w.extractLsb' 0 2))
  | 15 => row w 0x0001EFFC 0x0000243C (.ctz (moveSrc w) (w.extractLsb' 12 1) (w.extractLsb' 0 2))
  | 16 => row w 0x0001EFFC 0x00002440 (.popc (moveSrc w) (w.extractLsb' 12 1) (w.extractLsb' 0 2))
  | 17 => row w 0x0001EFFC 0x00002444 (.sext (moveSrc w) (w.extractLsb' 12 1) (w.extractLsb' 0 2))
  | 18 => row w 0x0001EFFC 0x00002448 (.zext (moveSrc w) (w.extractLsb' 12 1) (w.extractLsb' 0 2))
  | 19 => row w 0x0001EFFC 0x0000244C (.bfx (moveSrc w) (w.extractLsb' 12 1) (w.extractLsb' 0 2))
  | 20 => row w 0x0001EFFC 0x00002450 (.bfi (moveSrc w) (w.extractLsb' 12 1) (w.extractLsb' 0 2))
  | 21 => row w 0x0001EFFC 0x00002454 (.lea (moveSrc w) (w.extractLsb' 12 1) (w.extractLsb' 0 2))
  | 22 => row w 0x0001EFFC 0x00002458 (.sel (moveSrc w) (w.extractLsb' 12 1) (w.extractLsb' 0 2))
  | 23 => row w 0x0001EFFC 0x0000245C (.pass (moveSrc w) (w.extractLsb' 12 1) (w.extractLsb' 0 2))
  | 24 => row w 0x0001EFFC 0x00002460 (.bswap (moveSrc w) (w.extractLsb' 12 1) (w.extractLsb' 0 2))
  | 25 => row w 0x0001EFFC 0x00002464 (.abs (moveSrc w) (w.extractLsb' 12 1) (w.extractLsb' 0 2))
  | _ => .error .unassigned

/-- A trigger of PRD (R168). -/
def decodePrd (w : W32) : Except DecodeError Instr :=
  match (w.extractLsb' 2 8).toNat with
  | 0 => row w 0x0001FFFC 0x00004400 (.cmpeq (moveSrc w) (w.extractLsb' 0 2))
  | 1 => row w 0x0001FFFC 0x00004404 (.cmpne (moveSrc w) (w.extractLsb' 0 2))
  | 2 => row w 0x0001FFFC 0x00004408 (.cmplt (moveSrc w) (w.extractLsb' 0 2))
  | 3 => row w 0x0001FFFC 0x0000440C (.cmple (moveSrc w) (w.extractLsb' 0 2))
  | 4 => row w 0x0001FFFC 0x00004410 (.cmpltn (moveSrc w) (w.extractLsb' 0 2))
  | 5 => row w 0x0001FFFC 0x00004414 (.cmplen (moveSrc w) (w.extractLsb' 0 2))
  | 6 => row w 0x0001FFFC 0x00004418 (.tbit (moveSrc w) (w.extractLsb' 0 2))
  | 7 => row w 0x0001FFFF 0x0000441C (.pand (moveSrc w))
  | 8 => row w 0x0001FFFF 0x00004420 (.por (moveSrc w))
  | 9 => row w 0x0001FFFF 0x00004424 (.pxor (moveSrc w))
  | 10 => row w 0x0001FFFF 0x00004428 (.pnot (moveSrc w))
  | 11 => row w 0x0001FFFF 0x0000442C (.pmov (moveSrc w))
  | _ => .error .unassigned

/-- A trigger of MUL (R169). -/
def decodeMul (w : W32) : Except DecodeError Instr :=
  match (w.extractLsb' 2 8).toNat with
  | 0 => row w 0x0001FFFC 0x00005400 (.mul (moveSrc w) (w.extractLsb' 0 2))
  | 1 => row w 0x0001FFFC 0x00005404 (.mulh (moveSrc w) (w.extractLsb' 0 2))
  | 2 => row w 0x0001FFFC 0x00005408 (.mulhn (moveSrc w) (w.extractLsb' 0 2))
  | 3 => row w 0x0001FFFC 0x0000540C (.madd (moveSrc w) (w.extractLsb' 0 2))
  | 4 => row w 0x0001FFFC 0x00005410 (.div (moveSrc w) (w.extractLsb' 0 2))
  | 5 => row w 0x0001FFFC 0x00005414 (.divn (moveSrc w) (w.extractLsb' 0 2))
  | 6 => row w 0x0001FFFC 0x00005418 (.rem (moveSrc w) (w.extractLsb' 0 2))
  | 7 => row w 0x0001FFFC 0x0000541C (.remn (moveSrc w) (w.extractLsb' 0 2))
  | _ => .error .unassigned

/-- A trigger of the LSU (R170). -/
def decodeLsu (w : W32) : Except DecodeError Instr :=
  match (w.extractLsb' 4 6).toNat with
  | 0 => row w 0x0001FFFB 0x00006400 (.ldI8 (moveSrc w) (w.extractLsb' 2 1))
  | 1 => row w 0x0001FFFB 0x00006410 (.ldN8 (moveSrc w) (w.extractLsb' 2 1))
  | 2 => row w 0x0001FFFB 0x00006420 (.ldI16 (moveSrc w) (w.extractLsb' 2 1))
  | 3 => row w 0x0001FFFB 0x00006430 (.ldN16 (moveSrc w) (w.extractLsb' 2 1))
  | 4 => row w 0x0001FFFB 0x00006440 (.ldI32 (moveSrc w) (w.extractLsb' 2 1))
  | 5 => row w 0x0001FFFB 0x00006450 (.ldN32 (moveSrc w) (w.extractLsb' 2 1))
  | 6 => row w 0x0001FFFB 0x00006460 (.ld64 (moveSrc w) (w.extractLsb' 2 1))
  | 7 => row w 0x0001FFFB 0x00006470 (.ld128 (moveSrc w) (w.extractLsb' 2 1))
  | 8 => row w 0x0001FFF7 0x00006480 (.st8 (moveSrc w) (w.extractLsb' 3 1))
  | 9 => row w 0x0001FFF7 0x00006490 (.st16 (moveSrc w) (w.extractLsb' 3 1))
  | 10 => row w 0x0001FFF7 0x000064A0 (.st32 (moveSrc w) (w.extractLsb' 3 1))
  | 11 => row w 0x0001FFF7 0x000064B0 (.st64 (moveSrc w) (w.extractLsb' 3 1))
  | 12 => row w 0x0001FFF7 0x000064C0 (.st128 (moveSrc w) (w.extractLsb' 3 1))
  | 15 => row w 0x0001FFFF 0x000064F0 (.pf (moveSrc w))
  | 16 => row w 0x0001FFF3 0x00006500 (.aAdd32 (moveSrc w) (w.extractLsb' 2 2))
  | 17 => row w 0x0001FFF3 0x00006510 (.aAnd32 (moveSrc w) (w.extractLsb' 2 2))
  | 18 => row w 0x0001FFF3 0x00006520 (.aOr32 (moveSrc w) (w.extractLsb' 2 2))
  | 19 => row w 0x0001FFF3 0x00006530 (.aXor32 (moveSrc w) (w.extractLsb' 2 2))
  | 20 => row w 0x0001FFF3 0x00006540 (.aMin32 (moveSrc w) (w.extractLsb' 2 2))
  | 21 => row w 0x0001FFF3 0x00006550 (.aMax32 (moveSrc w) (w.extractLsb' 2 2))
  | 22 => row w 0x0001FFF3 0x00006560 (.aMinn32 (moveSrc w) (w.extractLsb' 2 2))
  | 23 => row w 0x0001FFF3 0x00006570 (.aMaxn32 (moveSrc w) (w.extractLsb' 2 2))
  | 24 => row w 0x0001FFF3 0x00006580 (.aSwap32 (moveSrc w) (w.extractLsb' 2 2))
  | 25 => row w 0x0001FFF3 0x00006590 (.aCas32 (moveSrc w) (w.extractLsb' 2 2))
  | 32 => row w 0x0001FFF3 0x00006600 (.aAdd64 (moveSrc w) (w.extractLsb' 2 2))
  | 33 => row w 0x0001FFF3 0x00006610 (.aAnd64 (moveSrc w) (w.extractLsb' 2 2))
  | 34 => row w 0x0001FFF3 0x00006620 (.aOr64 (moveSrc w) (w.extractLsb' 2 2))
  | 35 => row w 0x0001FFF3 0x00006630 (.aXor64 (moveSrc w) (w.extractLsb' 2 2))
  | 36 => row w 0x0001FFF3 0x00006640 (.aMin64 (moveSrc w) (w.extractLsb' 2 2))
  | 37 => row w 0x0001FFF3 0x00006650 (.aMax64 (moveSrc w) (w.extractLsb' 2 2))
  | 38 => row w 0x0001FFF3 0x00006660 (.aMinn64 (moveSrc w) (w.extractLsb' 2 2))
  | 39 => row w 0x0001FFF3 0x00006670 (.aMaxn64 (moveSrc w) (w.extractLsb' 2 2))
  | 40 => row w 0x0001FFF3 0x00006680 (.aSwap64 (moveSrc w) (w.extractLsb' 2 2))
  | 41 => row w 0x0001FFF3 0x00006690 (.aCas64 (moveSrc w) (w.extractLsb' 2 2))
  | 48 => row w 0x0001FFF7 0x00006700 (.redAdd32 (moveSrc w) (w.extractLsb' 3 1))
  | 49 => row w 0x0001FFF7 0x00006710 (.redAnd32 (moveSrc w) (w.extractLsb' 3 1))
  | 50 => row w 0x0001FFF7 0x00006720 (.redOr32 (moveSrc w) (w.extractLsb' 3 1))
  | 51 => row w 0x0001FFF7 0x00006730 (.redXor32 (moveSrc w) (w.extractLsb' 3 1))
  | 52 => row w 0x0001FFF7 0x00006740 (.redMin32 (moveSrc w) (w.extractLsb' 3 1))
  | 53 => row w 0x0001FFF7 0x00006750 (.redMax32 (moveSrc w) (w.extractLsb' 3 1))
  | 54 => row w 0x0001FFF7 0x00006760 (.redMinn32 (moveSrc w) (w.extractLsb' 3 1))
  | 55 => row w 0x0001FFF7 0x00006770 (.redMaxn32 (moveSrc w) (w.extractLsb' 3 1))
  | 56 => row w 0x0001FFF7 0x00006780 (.redAdd64 (moveSrc w) (w.extractLsb' 3 1))
  | 57 => row w 0x0001FFF7 0x00006790 (.redAnd64 (moveSrc w) (w.extractLsb' 3 1))
  | 58 => row w 0x0001FFF7 0x000067A0 (.redOr64 (moveSrc w) (w.extractLsb' 3 1))
  | 59 => row w 0x0001FFF7 0x000067B0 (.redXor64 (moveSrc w) (w.extractLsb' 3 1))
  | 60 => row w 0x0001FFF7 0x000067C0 (.redMin64 (moveSrc w) (w.extractLsb' 3 1))
  | 61 => row w 0x0001FFF7 0x000067D0 (.redMax64 (moveSrc w) (w.extractLsb' 3 1))
  | 62 => row w 0x0001FFF7 0x000067E0 (.redMinn64 (moveSrc w) (w.extractLsb' 3 1))
  | 63 => row w 0x0001FFF7 0x000067F0 (.redMaxn64 (moveSrc w) (w.extractLsb' 3 1))
  | _ => .error .unassigned

/-- A move to the LSU's CFG port (R151). -/
def decodeLsuCfg (w : W32) : Except DecodeError Instr :=
  match (w.extractLsb' 2 8).toNat with
  | 0 => row w 0x0001FFFF 0x00006C00 (.lsuDl (moveSrc w))
  | 1 => row w 0x0001FFFF 0x00006C04 (.lsuSc (moveSrc w))
  | 2 => row w 0x0001FFFF 0x00006C08 (.lsuCmp (moveSrc w))
  | 3 => row w 0x0001FFFF 0x00006C0C (.lsuHi (moveSrc w))
  | _ => .error .unassigned

/-- A move word (R148, R150). -/
def decodeMove (w : W32) : Except DecodeError Instr :=
  match (w.extractLsb' 12 5).toNat with
  | 0 => row w 0x0001F03F 0x00000000 (.moveToRf (moveSrc w) (w.extractLsb' 6 6))
  | 1 => row w 0x0001F1FF 0x00001000 (.moveToPreg (moveSrc w) (w.extractLsb' 9 3))
  | 7 => row w 0x0001F80F 0x00007000 (.moveToSpr (moveSrc w) (w.extractLsb' 4 7))
  | 2 | 3 => if w.extractLsb' 10 2 = 1 then decodeAlu w else port w
  | 4 => if w.extractLsb' 10 2 = 1 then decodePrd w else port w
  | 5 => if w.extractLsb' 10 2 = 1 then decodeMul w else port w
  | 6 => if w.extractLsb' 10 2 = 1 then decodeLsu w else if w.extractLsb' 10 2 = 3 then decodeLsuCfg w else port w
  | _ => .error .unassigned
where
  /-- a move to an O or O2 port -/
  port (w : W32) : Except DecodeError Instr := row w 0x000007FF 0x00000000 (.moveToOperandPort (moveSrc w) (w.extractLsb' 12 5) (w.extractLsb' 11 1))

/-- A V-slot word (R171). -/
def decodeV (w : W32) : Except DecodeError Instr :=
  match (w.extractLsb' 26 6).toNat with
  | 1 => row w 0xFC003C1F 0x04000000 (.vadd (w.extractLsb' 22 4) (w.extractLsb' 18 4) (w.extractLsb' 14 4) (w.extractLsb' 7 3) (w.extractLsb' 5 2))
  | 2 => row w 0xFC003C1F 0x08000000 (.vsub (w.extractLsb' 22 4) (w.extractLsb' 18 4) (w.extractLsb' 14 4) (w.extractLsb' 7 3) (w.extractLsb' 5 2))
  | 3 => row w 0xFC003C1F 0x0C000000 (.vmul (w.extractLsb' 22 4) (w.extractLsb' 18 4) (w.extractLsb' 14 4) (w.extractLsb' 7 3) (w.extractLsb' 5 2))
  | 4 => row w 0xFC003F1F 0x10000300 (.vfma (w.extractLsb' 22 4) (w.extractLsb' 18 4) (w.extractLsb' 14 4) (w.extractLsb' 7 1) (w.extractLsb' 5 2))
  | 5 => row w 0xFC003C1F 0x14000000 (.vadds (w.extractLsb' 22 4) (w.extractLsb' 18 4) (w.extractLsb' 14 4) (w.extractLsb' 7 3) (w.extractLsb' 5 2))
  | 6 => row w 0xFC003C1F 0x18000000 (.vsubs (w.extractLsb' 22 4) (w.extractLsb' 18 4) (w.extractLsb' 14 4) (w.extractLsb' 7 3) (w.extractLsb' 5 2))
  | 7 => row w 0xFC003C1F 0x1C000000 (.vmin (w.extractLsb' 22 4) (w.extractLsb' 18 4) (w.extractLsb' 14 4) (w.extractLsb' 7 3) (w.extractLsb' 5 2))
  | 8 => row w 0xFC003C1F 0x20000000 (.vmax (w.extractLsb' 22 4) (w.extractLsb' 18 4) (w.extractLsb' 14 4) (w.extractLsb' 7 3) (w.extractLsb' 5 2))
  | 9 => row w 0xFC003C1F 0x24000000 (.vminn (w.extractLsb' 22 4) (w.extractLsb' 18 4) (w.extractLsb' 14 4) (w.extractLsb' 7 3) (w.extractLsb' 5 2))
  | 10 => row w 0xFC003C1F 0x28000000 (.vmaxn (w.extractLsb' 22 4) (w.extractLsb' 18 4) (w.extractLsb' 14 4) (w.extractLsb' 7 3) (w.extractLsb' 5 2))
  | 11 => row w 0xFC03FC1F 0x2C000000 (.vabs (w.extractLsb' 22 4) (w.extractLsb' 18 4) (w.extractLsb' 7 3) (w.extractLsb' 5 2))
  | 12 => row w 0xFC03FC1F 0x30000000 (.vneg (w.extractLsb' 22 4) (w.extractLsb' 18 4) (w.extractLsb' 7 3) (w.extractLsb' 5 2))
  | 16 => row w 0xFC003C1F 0x40000000 (.vand (w.extractLsb' 22 4) (w.extractLsb' 18 4) (w.extractLsb' 14 4) (w.extractLsb' 7 3) (w.extractLsb' 5 2))
  | 17 => row w 0xFC003C1F 0x44000000 (.vor (w.extractLsb' 22 4) (w.extractLsb' 18 4) (w.extractLsb' 14 4) (w.extractLsb' 7 3) (w.extractLsb' 5 2))
  | 18 => row w 0xFC003C1F 0x48000000 (.vxor (w.extractLsb' 22 4) (w.extractLsb' 18 4) (w.extractLsb' 14 4) (w.extractLsb' 7 3) (w.extractLsb' 5 2))
  | 19 => row w 0xFC00001E 0x4C000000 (.vshl (w.extractLsb' 22 4) (w.extractLsb' 18 4) (w.extractLsb' 14 4) (w.extractLsb' 10 4) (w.extractLsb' 7 3) (w.extractLsb' 5 2) (w.extractLsb' 0 1))
  | 20 => row w 0xFC00001E 0x50000000 (.vshr (w.extractLsb' 22 4) (w.extractLsb' 18 4) (w.extractLsb' 14 4) (w.extractLsb' 10 4) (w.extractLsb' 7 3) (w.extractLsb' 5 2) (w.extractLsb' 0 1))
  | 21 => row w 0xFC00001E 0x54000000 (.vsra (w.extractLsb' 22 4) (w.extractLsb' 18 4) (w.extractLsb' 14 4) (w.extractLsb' 10 4) (w.extractLsb' 7 3) (w.extractLsb' 5 2) (w.extractLsb' 0 1))
  | 24 => row w 0xFF003C1F 0x60000000 (.vcmpeq (w.extractLsb' 22 2) (w.extractLsb' 18 4) (w.extractLsb' 14 4) (w.extractLsb' 7 3) (w.extractLsb' 5 2))
  | 25 => row w 0xFF003C1F 0x64000000 (.vcmplt (w.extractLsb' 22 2) (w.extractLsb' 18 4) (w.extractLsb' 14 4) (w.extractLsb' 7 3) (w.extractLsb' 5 2))
  | 26 => row w 0xFF003C1F 0x68000000 (.vcmple (w.extractLsb' 22 2) (w.extractLsb' 18 4) (w.extractLsb' 14 4) (w.extractLsb' 7 3) (w.extractLsb' 5 2))
  | 27 => row w 0xFC003C1F 0x6C000000 (.vsel (w.extractLsb' 22 4) (w.extractLsb' 18 4) (w.extractLsb' 14 4) (w.extractLsb' 7 3) (w.extractLsb' 5 2))
  | 28 => row w 0xFC03FC1F 0x70000000 (.vmov (w.extractLsb' 22 4) (w.extractLsb' 18 4) (w.extractLsb' 7 3) (w.extractLsb' 5 2))
  | 29 => row w 0xFC3FC01F 0x74000000 (.vsplat (w.extractLsb' 22 4) (w.extractLsb' 10 4) (w.extractLsb' 7 3) (w.extractLsb' 5 2))
  | 32 => row w 0xFC03C01F 0x80000000 (.vbcr (w.extractLsb' 22 4) (w.extractLsb' 18 4) (w.extractLsb' 10 4) (w.extractLsb' 7 3) (w.extractLsb' 5 2))
  | 33 => row w 0xFC03C01F 0x84000000 (.vrotr (w.extractLsb' 22 4) (w.extractLsb' 18 4) (w.extractLsb' 10 4) (w.extractLsb' 7 3) (w.extractLsb' 5 2))
  | 34 => row w 0xFC03C018 0x88000000 (.vredr (w.extractLsb' 22 4) (w.extractLsb' 18 4) (w.extractLsb' 10 4) (w.extractLsb' 7 3) (w.extractLsb' 5 2) (w.extractLsb' 0 3))
  | 35 => row w 0xFC03C01F 0x8C000000 (.vbcc (w.extractLsb' 22 4) (w.extractLsb' 18 4) (w.extractLsb' 10 4) (w.extractLsb' 7 3) (w.extractLsb' 5 2))
  | 36 => row w 0xFC03C01F 0x90000000 (.vrotc (w.extractLsb' 22 4) (w.extractLsb' 18 4) (w.extractLsb' 10 4) (w.extractLsb' 7 3) (w.extractLsb' 5 2))
  | 37 => row w 0xFC03C018 0x94000000 (.vredc (w.extractLsb' 22 4) (w.extractLsb' 18 4) (w.extractLsb' 10 4) (w.extractLsb' 7 3) (w.extractLsb' 5 2) (w.extractLsb' 0 3))
  | 38 => row w 0xFC03FC00 0x98000000 (.vcvt (w.extractLsb' 22 4) (w.extractLsb' 18 4) (w.extractLsb' 7 3) (w.extractLsb' 5 2) (w.extractLsb' 2 3) (w.extractLsb' 0 2))
  | 39 => row w 0xFC003C03 0x9C000000 (.vpack (w.extractLsb' 22 4) (w.extractLsb' 18 4) (w.extractLsb' 14 4) (w.extractLsb' 7 3) (w.extractLsb' 5 2) (w.extractLsb' 2 3))
  | 40 => row w 0xFC03FC02 0xA0000000 (.vunpk (w.extractLsb' 22 4) (w.extractLsb' 18 4) (w.extractLsb' 7 3) (w.extractLsb' 5 2) (w.extractLsb' 2 3) (w.extractLsb' 0 1))
  | 44 => row w 0xFC3FC3FF 0xB0000000 (.vld (w.extractLsb' 22 4) (w.extractLsb' 10 4))
  | 45 => row w 0xFFC3C39F 0xB4000000 (.vst (w.extractLsb' 18 4) (w.extractLsb' 10 4) (w.extractLsb' 5 2))
  | 46 => row w 0xFC3FC3F0 0xB8000000 (.vldr (w.extractLsb' 22 4) (w.extractLsb' 10 4) (w.extractLsb' 0 4))
  | 47 => row w 0xFFC3C390 0xBC000000 (.vstr (w.extractLsb' 18 4) (w.extractLsb' 10 4) (w.extractLsb' 5 2) (w.extractLsb' 0 4))
  | 48 => row w 0xFC03FF1E 0xC0000300 (.vexp2 (w.extractLsb' 22 4) (w.extractLsb' 18 4) (w.extractLsb' 7 1) (w.extractLsb' 5 2) (w.extractLsb' 0 1))
  | 49 => row w 0xFC03FF1E 0xC4000300 (.vlog2 (w.extractLsb' 22 4) (w.extractLsb' 18 4) (w.extractLsb' 7 1) (w.extractLsb' 5 2) (w.extractLsb' 0 1))
  | 50 => row w 0xFC03FF1E 0xC8000300 (.vrcp (w.extractLsb' 22 4) (w.extractLsb' 18 4) (w.extractLsb' 7 1) (w.extractLsb' 5 2) (w.extractLsb' 0 1))
  | 51 => row w 0xFC03FF1E 0xCC000300 (.vrsq (w.extractLsb' 22 4) (w.extractLsb' 18 4) (w.extractLsb' 7 1) (w.extractLsb' 5 2) (w.extractLsb' 0 1))
  | 52 => row w 0xFC03FF1E 0xD0000300 (.vsqrt (w.extractLsb' 22 4) (w.extractLsb' 18 4) (w.extractLsb' 7 1) (w.extractLsb' 5 2) (w.extractLsb' 0 1))
  | 53 => row w 0xFC03FF1E 0xD4000300 (.vtanh (w.extractLsb' 22 4) (w.extractLsb' 18 4) (w.extractLsb' 7 1) (w.extractLsb' 5 2) (w.extractLsb' 0 1))
  | 54 => row w 0xFC03FF1E 0xD8000300 (.vsigm (w.extractLsb' 22 4) (w.extractLsb' 18 4) (w.extractLsb' 7 1) (w.extractLsb' 5 2) (w.extractLsb' 0 1))
  | 55 => row w 0xFC03FF1E 0xDC000300 (.vsin (w.extractLsb' 22 4) (w.extractLsb' 18 4) (w.extractLsb' 7 1) (w.extractLsb' 5 2) (w.extractLsb' 0 1))
  | 56 => row w 0xFC03FF1E 0xE0000300 (.vcos (w.extractLsb' 22 4) (w.extractLsb' 18 4) (w.extractLsb' 7 1) (w.extractLsb' 5 2) (w.extractLsb' 0 1))
  | 60 => row w 0xFFC3FF1C 0xF0000300 (.vqmax (w.extractLsb' 18 4) (w.extractLsb' 7 1) (w.extractLsb' 5 2) (w.extractLsb' 0 2))
  | 61 => row w 0xFC3FC3F0 0xF4000080 (.rngDraw (w.extractLsb' 22 4) (w.extractLsb' 10 4) (w.extractLsb' 0 4))
  | 62 => row w 0xFC3FFFFF 0xF8000000 (.vcore (w.extractLsb' 22 4))
  | _ => .error .unassigned

/-- An S-slot word (R172). -/
def decodeS (w : W32) : Except DecodeError Instr :=
  match (w.extractLsb' 26 6).toNat with
  | 1 => row w 0xFC0FC0FF 0x04000000 (.strSetl (w.extractLsb' 20 6) (w.extractLsb' 8 6))
  | 2 => row w 0xFC0FFFFF 0x08000000 (.strSeed (w.extractLsb' 20 6))
  | 3 => row w 0xFFFFC0F8 0x0C000000 (.shfClaim (w.extractLsb' 8 6) (w.extractLsb' 0 3))
  | 4 => row w 0xFFFFFFF8 0x10000000 (.shfRel (w.extractLsb' 0 3))
  | 5 => row w 0xFC003F78 0x14000000 (.wld (w.extractLsb' 20 6) (w.extractLsb' 14 6) (w.extractLsb' 7 1) (w.extractLsb' 0 3))
  | 6 => row w 0xFC0FFF00 0x18000000 (.arun (w.extractLsb' 20 6) (w.extractLsb' 7 1) (w.extractLsb' 5 2) (w.extractLsb' 4 1) (w.extractLsb' 0 4))
  | 7 => row w 0xFC0FFF00 0x1C000000 (.arunBt (w.extractLsb' 20 6) (w.extractLsb' 7 1) (w.extractLsb' 5 2) (w.extractLsb' 4 1) (w.extractLsb' 0 4))
  | 8 => row w 0xFC0000FF 0x20000000 (.stopCfg (w.extractLsb' 20 6) (w.extractLsb' 14 6) (w.extractLsb' 8 6))
  | 9 => row w 0xFC0000FF 0x24000000 (.fclr (w.extractLsb' 20 6) (w.extractLsb' 14 6) (w.extractLsb' 8 6))
  | 10 => row w 0xFC000030 0x28000000 (.drain (w.extractLsb' 20 6) (w.extractLsb' 14 6) (w.extractLsb' 8 6) (w.extractLsb' 7 1) (w.extractLsb' 6 1) (w.extractLsb' 0 4))
  | 11 => row w 0xFC00007F 0x2C000000 (.fld (w.extractLsb' 20 6) (w.extractLsb' 14 6) (w.extractLsb' 8 6) (w.extractLsb' 7 1))
  | 12 => row w 0xFC00007F 0x30000000 (.fst (w.extractLsb' 20 6) (w.extractLsb' 14 6) (w.extractLsb' 8 6) (w.extractLsb' 7 1))
  | 13 => row w 0xFC003F00 0x34000000 (.sq4 (w.extractLsb' 20 6) (w.extractLsb' 14 6) (w.extractLsb' 7 1) (w.extractLsb' 5 2) (w.extractLsb' 4 1) (w.extractLsb' 0 4))
  | 14 => row w 0xFC003F10 0x38000000 (.sq8 (w.extractLsb' 20 6) (w.extractLsb' 14 6) (w.extractLsb' 7 1) (w.extractLsb' 5 2) (w.extractLsb' 0 4))
  | 15 => row w 0xFC003F7F 0x3C000000 (.sqLd (w.extractLsb' 20 6) (w.extractLsb' 14 6) (w.extractLsb' 7 1))
  | 16 => row w 0xFFFFFFFF 0x40000000 (.sqClr)
  | 17 => row w 0xFC0FC090 0x44000000 (.chk (w.extractLsb' 20 6) (w.extractLsb' 8 6) (w.extractLsb' 5 2) (w.extractLsb' 0 4))
  | 18 => row w 0xFFFFC0FF 0x48000000 (.strStat (w.extractLsb' 8 6))
  | _ => .error .unassigned

/-- A K-slot word (R173). -/
def decodeK (w : W32) : Except DecodeError Instr :=
  match (w.extractLsb' 26 6).toNat with
  | 1 => row w 0xFC0FFFF0 0x04000000 (.cpyStart (w.extractLsb' 20 6) (w.extractLsb' 0 4))
  | 2 => row w 0xFFFFC0F0 0x08000000 (.cpyWp (w.extractLsb' 8 6) (w.extractLsb' 0 4))
  | 3 => row w 0xFC0FC040 0x0C000000 (.cpyWpwait (w.extractLsb' 20 6) (w.extractLsb' 8 6) (w.extractLsb' 7 1) (w.extractLsb' 4 2) (w.extractLsb' 0 4))
  | 4 => row w 0xFFFFFFF0 0x10000000 (.cpyAbort (w.extractLsb' 0 4))
  | 8 => row w 0xFC0000BC 0x20000000 (.ctrAdd (w.extractLsb' 20 6) (w.extractLsb' 14 6) (w.extractLsb' 8 6) (w.extractLsb' 6 1) (w.extractLsb' 0 2))
  | 9 => row w 0xFC0000BC 0x24000000 (.ctrMax (w.extractLsb' 20 6) (w.extractLsb' 14 6) (w.extractLsb' 8 6) (w.extractLsb' 6 1) (w.extractLsb' 0 2))
  | 10 => row w 0xFC0000FC 0x28000000 (.ctrRead (w.extractLsb' 20 6) (w.extractLsb' 14 6) (w.extractLsb' 8 6) (w.extractLsb' 0 2))
  | 11 => row w 0xFC00007C 0x2C000000 (.ctrWait (w.extractLsb' 20 6) (w.extractLsb' 14 6) (w.extractLsb' 8 6) (w.extractLsb' 7 1) (w.extractLsb' 0 2))
  | 12 => row w 0xFC0FC07C 0x30000000 (.ctrArw (w.extractLsb' 20 6) (w.extractLsb' 8 6) (w.extractLsb' 7 1) (w.extractLsb' 0 2))
  | 16 => row w 0xFC0FC01C 0x40000000 (.fence (w.extractLsb' 20 6) (w.extractLsb' 8 6) (w.extractLsb' 7 1) (w.extractLsb' 5 2) (w.extractLsb' 0 2))
  | 17 => row w 0xFC0FC070 0x44000000 (.qsend (w.extractLsb' 20 6) (w.extractLsb' 8 6) (w.extractLsb' 7 1) (w.extractLsb' 0 4))
  | 18 => row w 0xFFF00070 0x48000000 (.qrecv (w.extractLsb' 14 6) (w.extractLsb' 8 6) (w.extractLsb' 7 1) (w.extractLsb' 0 4))
  | 20 => row w 0xFC003FFF 0x50000000 (.rngKey (w.extractLsb' 20 6) (w.extractLsb' 14 6))
  | 21 => row w 0xFC003FFF 0x54000000 (.rngCtr (w.extractLsb' 20 6) (w.extractLsb' 14 6))
  | 22 => row w 0xFC003FFF 0x58000000 (.rngSkip (w.extractLsb' 20 6) (w.extractLsb' 14 6))
  | 23 => row w 0xFFFFC0FF 0x5C000000 (.rngNext (w.extractLsb' 8 6))
  | 24 => row w 0xFFFFC0FF 0x60000000 (.rngSave (w.extractLsb' 8 6))
  | 26 => row w 0xFC00007F 0x68000000 (.launch (w.extractLsb' 20 6) (w.extractLsb' 14 6) (w.extractLsb' 8 6) (w.extractLsb' 7 1))
  | 28 => row w 0xFFFFC0F0 0x70000000 (.sysCtx (w.extractLsb' 8 6) (w.extractLsb' 0 4))
  | 29 => row w 0xFFFFC0FF 0x74000000 (.sysFlg (w.extractLsb' 8 6))
  | 32 => row w 0xFC0000FF 0x80000000 (.ctxEvict (w.extractLsb' 20 6) (w.extractLsb' 14 6) (w.extractLsb' 8 6))
  | 33 => row w 0xFC0000FF 0x84000000 (.ctxLoad (w.extractLsb' 20 6) (w.extractLsb' 14 6) (w.extractLsb' 8 6))
  | 34 => row w 0xFC0FFFFF 0x88000000 (.ctxPark (w.extractLsb' 20 6))
  | 35 => row w 0xFC0FFFFF 0x8C000000 (.ctxResume (w.extractLsb' 20 6))
  | 36 => row w 0xFC0FC0FF 0x90000000 (.incAdv (w.extractLsb' 20 6) (w.extractLsb' 8 6))
  | 37 => row w 0xFC0FC07F 0x94000000 (.reclaim (w.extractLsb' 20 6) (w.extractLsb' 8 6) (w.extractLsb' 7 1))
  | 38 => row w 0xFC000078 0x98000000 (.tlbInv (w.extractLsb' 20 6) (w.extractLsb' 14 6) (w.extractLsb' 8 6) (w.extractLsb' 7 1) (w.extractLsb' 2 1) (w.extractLsb' 0 2))
  | 39 => row w 0xFC003FFF 0x9C000000 (.rcbBind (w.extractLsb' 20 6) (w.extractLsb' 14 6))
  | 40 => row w 0xFC003FFF 0xA0000000 (.ctrReset (w.extractLsb' 20 6) (w.extractLsb' 14 6))
  | 41 => row w 0xFC0FFFFF 0xA4000000 (.frameRetire (w.extractLsb' 20 6))
  | 42 => row w 0xFC0FC0FF 0xA8000000 (.errRead (w.extractLsb' 20 6) (w.extractLsb' 8 6))
  | 43 => row w 0xFC0FFFFF 0xAC000000 (.errClr (w.extractLsb' 20 6))
  | 44 => row w 0xFC0000FF 0xB0000000 (.snapRead (w.extractLsb' 20 6) (w.extractLsb' 14 6) (w.extractLsb' 8 6))
  | 45 => row w 0xFC003FFF 0xB4000000 (.domSet (w.extractLsb' 20 6) (w.extractLsb' 14 6))
  | 46 => row w 0xFC003FFF 0xB8000000 (.pwrCfg (w.extractLsb' 20 6) (w.extractLsb' 14 6))
  | _ => .error .unassigned

/-- The word of an encoded instruction, field by field from bit 31 down; an event has none. -/
def encode : Instr → Option W32
  | .powerGood => none
  | .portLinkRetry => none
  | .tirelRead => none
  | .tirelWrite => none
  | .tirelAtomic => none
  | .tirelCtrAdd => none
  | .tirelLaunch => none
  | .mgmtOpen => none
  | .mgmtClose => none
  | .mgmtReadRegister => none
  | .mgmtWriteRegister => none
  | .fwminWrite => none
  | .msextWrite => none
  | .droopcRead => none
  | .mgmtAttest => none
  | .tirelResponse => none
  | .tirelAck => none
  | .ackSend => none
  | .tirelRetransmit => none
  | .linkDown => none
  | .neighbourSolicitation => none
  | .nonTirelFrame => none
  | .windowAccessSend => none
  | .windowCounterPoll => none
  | .droopStretch => none
  | .tempRefillHalve => none
  | .thermalStop => none
  | .patrolScrub => none
  | .errorWindowStart => none
  | .spareSubstitution => none
  | .stagingUnitWithdraw => none
  | .accessAtHome => none
  | .counterOpAtHome => none
  | .waitCancelAtHome => none
  | .responseAtSlot => none
  | .loadExpire => none
  | .waitDeadlineExpire => none
  | .arwIndeterminate => none
  | .mdlExpire => none
  | .waitComplete => none
  | .segmentOverrun => none
  | .resultLand => none
  | .icacheLineFill => none
  | .arbiterDecide => none
  | .contextStop => none
  | .trapDelivery => none
  | .deferredFault => none
  | .ctxParkAtTarget => none
  | .ctxResumeAtTarget => none
  | .ctxEvictAtTarget => none
  | .ctxLoadPerform => none
  | .copyCommandBegin => none
  | .copySectorStep => none
  | .copyTranslationRetry => none
  | .streamChunk => none
  | .launchEnqueue => none
  | .packetRead => none
  | .dependencePoll => none
  | .dependenceTimeout => none
  | .taskPlace => none
  | .taskStart => none
  | .taskEnd => none
  | .packetComplete => none
  | .rcbBindAtDispatch => none
  | .domainUpdateAtStop => none
  | .reclaimAtController => none
  | .reclaimStopAnswer => none
  | .reclaimDeadline => none
  | .tableWalk => none
  | .tlbInvAtTlb => none
  | .pwrCfgAtDie => none
  | .seq s y p => some (0x1#1 ++ s ++ y ++ 0x0#3 ++ p ++ 0x0#16)
  | .jump s y p d => some (0x1#1 ++ s ++ y ++ 0x1#3 ++ p ++ 0x0#4 ++ d)
  | .br s y p c d => some (0x1#1 ++ s ++ y ++ 0x2#3 ++ p ++ c ++ d)
  | .loop s y p => some (0x1#1 ++ s ++ y ++ 0x3#3 ++ p ++ 0x0#16)
  | .call s y p d => some (0x1#1 ++ s ++ y ++ 0x4#3 ++ p ++ 0x0#4 ++ d)
  | .ret s y p => some (0x1#1 ++ s ++ y ++ 0x5#3 ++ p ++ 0x0#16)
  | .ind s y p g => some (0x1#1 ++ s ++ y ++ 0x6#3 ++ p ++ 0x0#10 ++ g)
  | .endStage s p e => some (0x1#1 ++ s ++ 0x7#4 ++ p ++ 0x0#4 ++ e)
  | .loopi n => some (0x0#8 ++ n)
  | .loopg g m e => some (0x1#4 ++ g ++ m ++ e)
  | .yield b k => some (0x2#4 ++ b ++ k ++ 0x0#11)
  | .far t => some (0x3#4 ++ t)
  | .lpop => some (0x40000000#32)
  | .trapi c => some (0x6000#16 ++ c)
  | .moveToRf m g => some (m.gi ++ m.gp ++ m.src ++ m.w ++ 0x0#5 ++ g ++ 0x0#6)
  | .moveToPreg m q => some (m.gi ++ m.gp ++ m.src ++ m.w ++ 0x1#5 ++ q ++ 0x0#9)
  | .moveToSpr m s => some (m.gi ++ m.gp ++ m.src ++ m.w ++ 0xE#6 ++ s ++ 0x0#4)
  | .moveToOperandPort m u x => some (m.gi ++ m.gp ++ m.src ++ m.w ++ u ++ x ++ 0x0#11)
  | .lsuDl m => some (m.gi ++ m.gp ++ m.src ++ m.w ++ 0x6C00#17)
  | .lsuSc m => some (m.gi ++ m.gp ++ m.src ++ m.w ++ 0x6C04#17)
  | .lsuCmp m => some (m.gi ++ m.gp ++ m.src ++ m.w ++ 0x6C08#17)
  | .lsuHi m => some (m.gi ++ m.gp ++ m.src ++ m.w ++ 0x6C0C#17)
  | .add m u s => some (m.gi ++ m.gp ++ m.src ++ m.w ++ 0x1#4 ++ u ++ 0x100#10 ++ s)
  | .sub m u s => some (m.gi ++ m.gp ++ m.src ++ m.w ++ 0x1#4 ++ u ++ 0x101#10 ++ s)
  | .and m u s => some (m.gi ++ m.gp ++ m.src ++ m.w ++ 0x1#4 ++ u ++ 0x102#10 ++ s)
  | .or m u s => some (m.gi ++ m.gp ++ m.src ++ m.w ++ 0x1#4 ++ u ++ 0x103#10 ++ s)
  | .xor m u s => some (m.gi ++ m.gp ++ m.src ++ m.w ++ 0x1#4 ++ u ++ 0x104#10 ++ s)
  | .andn m u s => some (m.gi ++ m.gp ++ m.src ++ m.w ++ 0x1#4 ++ u ++ 0x105#10 ++ s)
  | .shl m u s => some (m.gi ++ m.gp ++ m.src ++ m.w ++ 0x1#4 ++ u ++ 0x106#10 ++ s)
  | .shr m u s => some (m.gi ++ m.gp ++ m.src ++ m.w ++ 0x1#4 ++ u ++ 0x107#10 ++ s)
  | .sra m u s => some (m.gi ++ m.gp ++ m.src ++ m.w ++ 0x1#4 ++ u ++ 0x108#10 ++ s)
  | .rol m u s => some (m.gi ++ m.gp ++ m.src ++ m.w ++ 0x1#4 ++ u ++ 0x109#10 ++ s)
  | .min m u s => some (m.gi ++ m.gp ++ m.src ++ m.w ++ 0x1#4 ++ u ++ 0x10A#10 ++ s)
  | .max m u s => some (m.gi ++ m.gp ++ m.src ++ m.w ++ 0x1#4 ++ u ++ 0x10B#10 ++ s)
  | .minn m u s => some (m.gi ++ m.gp ++ m.src ++ m.w ++ 0x1#4 ++ u ++ 0x10C#10 ++ s)
  | .maxn m u s => some (m.gi ++ m.gp ++ m.src ++ m.w ++ 0x1#4 ++ u ++ 0x10D#10 ++ s)
  | .clz m u s => some (m.gi ++ m.gp ++ m.src ++ m.w ++ 0x1#4 ++ u ++ 0x10E#10 ++ s)
  | .ctz m u s => some (m.gi ++ m.gp ++ m.src ++ m.w ++ 0x1#4 ++ u ++ 0x10F#10 ++ s)
  | .popc m u s => some (m.gi ++ m.gp ++ m.src ++ m.w ++ 0x1#4 ++ u ++ 0x110#10 ++ s)
  | .sext m u s => some (m.gi ++ m.gp ++ m.src ++ m.w ++ 0x1#4 ++ u ++ 0x111#10 ++ s)
  | .zext m u s => some (m.gi ++ m.gp ++ m.src ++ m.w ++ 0x1#4 ++ u ++ 0x112#10 ++ s)
  | .bfx m u s => some (m.gi ++ m.gp ++ m.src ++ m.w ++ 0x1#4 ++ u ++ 0x113#10 ++ s)
  | .bfi m u s => some (m.gi ++ m.gp ++ m.src ++ m.w ++ 0x1#4 ++ u ++ 0x114#10 ++ s)
  | .lea m u s => some (m.gi ++ m.gp ++ m.src ++ m.w ++ 0x1#4 ++ u ++ 0x115#10 ++ s)
  | .sel m u s => some (m.gi ++ m.gp ++ m.src ++ m.w ++ 0x1#4 ++ u ++ 0x116#10 ++ s)
  | .pass m u s => some (m.gi ++ m.gp ++ m.src ++ m.w ++ 0x1#4 ++ u ++ 0x117#10 ++ s)
  | .bswap m u s => some (m.gi ++ m.gp ++ m.src ++ m.w ++ 0x1#4 ++ u ++ 0x118#10 ++ s)
  | .abs m u s => some (m.gi ++ m.gp ++ m.src ++ m.w ++ 0x1#4 ++ u ++ 0x119#10 ++ s)
  | .cmpeq m s => some (m.gi ++ m.gp ++ m.src ++ m.w ++ 0x1100#15 ++ s)
  | .cmpne m s => some (m.gi ++ m.gp ++ m.src ++ m.w ++ 0x1101#15 ++ s)
  | .cmplt m s => some (m.gi ++ m.gp ++ m.src ++ m.w ++ 0x1102#15 ++ s)
  | .cmple m s => some (m.gi ++ m.gp ++ m.src ++ m.w ++ 0x1103#15 ++ s)
  | .cmpltn m s => some (m.gi ++ m.gp ++ m.src ++ m.w ++ 0x1104#15 ++ s)
  | .cmplen m s => some (m.gi ++ m.gp ++ m.src ++ m.w ++ 0x1105#15 ++ s)
  | .tbit m s => some (m.gi ++ m.gp ++ m.src ++ m.w ++ 0x1106#15 ++ s)
  | .pand m => some (m.gi ++ m.gp ++ m.src ++ m.w ++ 0x441C#17)
  | .por m => some (m.gi ++ m.gp ++ m.src ++ m.w ++ 0x4420#17)
  | .pxor m => some (m.gi ++ m.gp ++ m.src ++ m.w ++ 0x4424#17)
  | .pnot m => some (m.gi ++ m.gp ++ m.src ++ m.w ++ 0x4428#17)
  | .pmov m => some (m.gi ++ m.gp ++ m.src ++ m.w ++ 0x442C#17)
  | .mul m s => some (m.gi ++ m.gp ++ m.src ++ m.w ++ 0x1500#15 ++ s)
  | .mulh m s => some (m.gi ++ m.gp ++ m.src ++ m.w ++ 0x1501#15 ++ s)
  | .mulhn m s => some (m.gi ++ m.gp ++ m.src ++ m.w ++ 0x1502#15 ++ s)
  | .madd m s => some (m.gi ++ m.gp ++ m.src ++ m.w ++ 0x1503#15 ++ s)
  | .div m s => some (m.gi ++ m.gp ++ m.src ++ m.w ++ 0x1504#15 ++ s)
  | .divn m s => some (m.gi ++ m.gp ++ m.src ++ m.w ++ 0x1505#15 ++ s)
  | .rem m s => some (m.gi ++ m.gp ++ m.src ++ m.w ++ 0x1506#15 ++ s)
  | .remn m s => some (m.gi ++ m.gp ++ m.src ++ m.w ++ 0x1507#15 ++ s)
  | .ldI8 m o => some (m.gi ++ m.gp ++ m.src ++ m.w ++ 0xC80#14 ++ o ++ 0x0#2)
  | .ldN8 m o => some (m.gi ++ m.gp ++ m.src ++ m.w ++ 0xC82#14 ++ o ++ 0x0#2)
  | .ldI16 m o => some (m.gi ++ m.gp ++ m.src ++ m.w ++ 0xC84#14 ++ o ++ 0x0#2)
  | .ldN16 m o => some (m.gi ++ m.gp ++ m.src ++ m.w ++ 0xC86#14 ++ o ++ 0x0#2)
  | .ldI32 m o => some (m.gi ++ m.gp ++ m.src ++ m.w ++ 0xC88#14 ++ o ++ 0x0#2)
  | .ldN32 m o => some (m.gi ++ m.gp ++ m.src ++ m.w ++ 0xC8A#14 ++ o ++ 0x0#2)
  | .ld64 m o => some (m.gi ++ m.gp ++ m.src ++ m.w ++ 0xC8C#14 ++ o ++ 0x0#2)
  | .ld128 m o => some (m.gi ++ m.gp ++ m.src ++ m.w ++ 0xC8E#14 ++ o ++ 0x0#2)
  | .st8 m o => some (m.gi ++ m.gp ++ m.src ++ m.w ++ 0x648#13 ++ o ++ 0x0#3)
  | .st16 m o => some (m.gi ++ m.gp ++ m.src ++ m.w ++ 0x649#13 ++ o ++ 0x0#3)
  | .st32 m o => some (m.gi ++ m.gp ++ m.src ++ m.w ++ 0x64A#13 ++ o ++ 0x0#3)
  | .st64 m o => some (m.gi ++ m.gp ++ m.src ++ m.w ++ 0x64B#13 ++ o ++ 0x0#3)
  | .st128 m o => some (m.gi ++ m.gp ++ m.src ++ m.w ++ 0x64C#13 ++ o ++ 0x0#3)
  | .pf m => some (m.gi ++ m.gp ++ m.src ++ m.w ++ 0x64F0#17)
  | .aAdd32 m o => some (m.gi ++ m.gp ++ m.src ++ m.w ++ 0x650#13 ++ o ++ 0x0#2)
  | .aAnd32 m o => some (m.gi ++ m.gp ++ m.src ++ m.w ++ 0x651#13 ++ o ++ 0x0#2)
  | .aOr32 m o => some (m.gi ++ m.gp ++ m.src ++ m.w ++ 0x652#13 ++ o ++ 0x0#2)
  | .aXor32 m o => some (m.gi ++ m.gp ++ m.src ++ m.w ++ 0x653#13 ++ o ++ 0x0#2)
  | .aMin32 m o => some (m.gi ++ m.gp ++ m.src ++ m.w ++ 0x654#13 ++ o ++ 0x0#2)
  | .aMax32 m o => some (m.gi ++ m.gp ++ m.src ++ m.w ++ 0x655#13 ++ o ++ 0x0#2)
  | .aMinn32 m o => some (m.gi ++ m.gp ++ m.src ++ m.w ++ 0x656#13 ++ o ++ 0x0#2)
  | .aMaxn32 m o => some (m.gi ++ m.gp ++ m.src ++ m.w ++ 0x657#13 ++ o ++ 0x0#2)
  | .aSwap32 m o => some (m.gi ++ m.gp ++ m.src ++ m.w ++ 0x658#13 ++ o ++ 0x0#2)
  | .aCas32 m o => some (m.gi ++ m.gp ++ m.src ++ m.w ++ 0x659#13 ++ o ++ 0x0#2)
  | .aAdd64 m o => some (m.gi ++ m.gp ++ m.src ++ m.w ++ 0x660#13 ++ o ++ 0x0#2)
  | .aAnd64 m o => some (m.gi ++ m.gp ++ m.src ++ m.w ++ 0x661#13 ++ o ++ 0x0#2)
  | .aOr64 m o => some (m.gi ++ m.gp ++ m.src ++ m.w ++ 0x662#13 ++ o ++ 0x0#2)
  | .aXor64 m o => some (m.gi ++ m.gp ++ m.src ++ m.w ++ 0x663#13 ++ o ++ 0x0#2)
  | .aMin64 m o => some (m.gi ++ m.gp ++ m.src ++ m.w ++ 0x664#13 ++ o ++ 0x0#2)
  | .aMax64 m o => some (m.gi ++ m.gp ++ m.src ++ m.w ++ 0x665#13 ++ o ++ 0x0#2)
  | .aMinn64 m o => some (m.gi ++ m.gp ++ m.src ++ m.w ++ 0x666#13 ++ o ++ 0x0#2)
  | .aMaxn64 m o => some (m.gi ++ m.gp ++ m.src ++ m.w ++ 0x667#13 ++ o ++ 0x0#2)
  | .aSwap64 m o => some (m.gi ++ m.gp ++ m.src ++ m.w ++ 0x668#13 ++ o ++ 0x0#2)
  | .aCas64 m o => some (m.gi ++ m.gp ++ m.src ++ m.w ++ 0x669#13 ++ o ++ 0x0#2)
  | .redAdd32 m o => some (m.gi ++ m.gp ++ m.src ++ m.w ++ 0x670#13 ++ o ++ 0x0#3)
  | .redAnd32 m o => some (m.gi ++ m.gp ++ m.src ++ m.w ++ 0x671#13 ++ o ++ 0x0#3)
  | .redOr32 m o => some (m.gi ++ m.gp ++ m.src ++ m.w ++ 0x672#13 ++ o ++ 0x0#3)
  | .redXor32 m o => some (m.gi ++ m.gp ++ m.src ++ m.w ++ 0x673#13 ++ o ++ 0x0#3)
  | .redMin32 m o => some (m.gi ++ m.gp ++ m.src ++ m.w ++ 0x674#13 ++ o ++ 0x0#3)
  | .redMax32 m o => some (m.gi ++ m.gp ++ m.src ++ m.w ++ 0x675#13 ++ o ++ 0x0#3)
  | .redMinn32 m o => some (m.gi ++ m.gp ++ m.src ++ m.w ++ 0x676#13 ++ o ++ 0x0#3)
  | .redMaxn32 m o => some (m.gi ++ m.gp ++ m.src ++ m.w ++ 0x677#13 ++ o ++ 0x0#3)
  | .redAdd64 m o => some (m.gi ++ m.gp ++ m.src ++ m.w ++ 0x678#13 ++ o ++ 0x0#3)
  | .redAnd64 m o => some (m.gi ++ m.gp ++ m.src ++ m.w ++ 0x679#13 ++ o ++ 0x0#3)
  | .redOr64 m o => some (m.gi ++ m.gp ++ m.src ++ m.w ++ 0x67A#13 ++ o ++ 0x0#3)
  | .redXor64 m o => some (m.gi ++ m.gp ++ m.src ++ m.w ++ 0x67B#13 ++ o ++ 0x0#3)
  | .redMin64 m o => some (m.gi ++ m.gp ++ m.src ++ m.w ++ 0x67C#13 ++ o ++ 0x0#3)
  | .redMax64 m o => some (m.gi ++ m.gp ++ m.src ++ m.w ++ 0x67D#13 ++ o ++ 0x0#3)
  | .redMinn64 m o => some (m.gi ++ m.gp ++ m.src ++ m.w ++ 0x67E#13 ++ o ++ 0x0#3)
  | .redMaxn64 m o => some (m.gi ++ m.gp ++ m.src ++ m.w ++ 0x67F#13 ++ o ++ 0x0#3)
  | .vadd d a b t k => some (0x1#6 ++ d ++ a ++ b ++ 0x0#4 ++ t ++ k ++ 0x0#5)
  | .vsub d a b t k => some (0x2#6 ++ d ++ a ++ b ++ 0x0#4 ++ t ++ k ++ 0x0#5)
  | .vmul d a b t k => some (0x3#6 ++ d ++ a ++ b ++ 0x0#4 ++ t ++ k ++ 0x0#5)
  | .vfma d a b t k => some (0x4#6 ++ d ++ a ++ b ++ 0x3#6 ++ t ++ k ++ 0x0#5)
  | .vadds d a b t k => some (0x5#6 ++ d ++ a ++ b ++ 0x0#4 ++ t ++ k ++ 0x0#5)
  | .vsubs d a b t k => some (0x6#6 ++ d ++ a ++ b ++ 0x0#4 ++ t ++ k ++ 0x0#5)
  | .vmin d a b t k => some (0x7#6 ++ d ++ a ++ b ++ 0x0#4 ++ t ++ k ++ 0x0#5)
  | .vmax d a b t k => some (0x8#6 ++ d ++ a ++ b ++ 0x0#4 ++ t ++ k ++ 0x0#5)
  | .vminn d a b t k => some (0x9#6 ++ d ++ a ++ b ++ 0x0#4 ++ t ++ k ++ 0x0#5)
  | .vmaxn d a b t k => some (0xA#6 ++ d ++ a ++ b ++ 0x0#4 ++ t ++ k ++ 0x0#5)
  | .vabs d a t k => some (0xB#6 ++ d ++ a ++ 0x0#8 ++ t ++ k ++ 0x0#5)
  | .vneg d a t k => some (0xC#6 ++ d ++ a ++ 0x0#8 ++ t ++ k ++ 0x0#5)
  | .vand d a b t k => some (0x10#6 ++ d ++ a ++ b ++ 0x0#4 ++ t ++ k ++ 0x0#5)
  | .vor d a b t k => some (0x11#6 ++ d ++ a ++ b ++ 0x0#4 ++ t ++ k ++ 0x0#5)
  | .vxor d a b t k => some (0x12#6 ++ d ++ a ++ b ++ 0x0#4 ++ t ++ k ++ 0x0#5)
  | .vshl d a b c t k m => some (0x13#6 ++ d ++ a ++ b ++ c ++ t ++ k ++ 0x0#4 ++ m)
  | .vshr d a b c t k m => some (0x14#6 ++ d ++ a ++ b ++ c ++ t ++ k ++ 0x0#4 ++ m)
  | .vsra d a b c t k m => some (0x15#6 ++ d ++ a ++ b ++ c ++ t ++ k ++ 0x0#4 ++ m)
  | .vcmpeq d a b t k => some (0x60#8 ++ d ++ a ++ b ++ 0x0#4 ++ t ++ k ++ 0x0#5)
  | .vcmplt d a b t k => some (0x64#8 ++ d ++ a ++ b ++ 0x0#4 ++ t ++ k ++ 0x0#5)
  | .vcmple d a b t k => some (0x68#8 ++ d ++ a ++ b ++ 0x0#4 ++ t ++ k ++ 0x0#5)
  | .vsel d a b t k => some (0x1B#6 ++ d ++ a ++ b ++ 0x0#4 ++ t ++ k ++ 0x0#5)
  | .vmov d a t k => some (0x1C#6 ++ d ++ a ++ 0x0#8 ++ t ++ k ++ 0x0#5)
  | .vsplat d c t k => some (0x1D#6 ++ d ++ 0x0#8 ++ c ++ t ++ k ++ 0x0#5)
  | .vbcr d a c t k => some (0x20#6 ++ d ++ a ++ 0x0#4 ++ c ++ t ++ k ++ 0x0#5)
  | .vrotr d a c t k => some (0x21#6 ++ d ++ a ++ 0x0#4 ++ c ++ t ++ k ++ 0x0#5)
  | .vredr d a c t k n => some (0x22#6 ++ d ++ a ++ 0x0#4 ++ c ++ t ++ k ++ 0x0#2 ++ n)
  | .vbcc d a c t k => some (0x23#6 ++ d ++ a ++ 0x0#4 ++ c ++ t ++ k ++ 0x0#5)
  | .vrotc d a c t k => some (0x24#6 ++ d ++ a ++ 0x0#4 ++ c ++ t ++ k ++ 0x0#5)
  | .vredc d a c t k n => some (0x25#6 ++ d ++ a ++ 0x0#4 ++ c ++ t ++ k ++ 0x0#2 ++ n)
  | .vcvt d a t k s e => some (0x26#6 ++ d ++ a ++ 0x0#8 ++ t ++ k ++ s ++ e)
  | .vpack d a b t k s => some (0x27#6 ++ d ++ a ++ b ++ 0x0#4 ++ t ++ k ++ s ++ 0x0#2)
  | .vunpk d a t k s h => some (0x28#6 ++ d ++ a ++ 0x0#8 ++ t ++ k ++ s ++ 0x0#1 ++ h)
  | .vld d c => some (0x2C#6 ++ d ++ 0x0#8 ++ c ++ 0x0#10)
  | .vst a c k => some (0x2D0#10 ++ a ++ 0x0#4 ++ c ++ 0x0#3 ++ k ++ 0x0#5)
  | .vldr d c r => some (0x2E#6 ++ d ++ 0x0#8 ++ c ++ 0x0#6 ++ r)
  | .vstr a c k r => some (0x2F0#10 ++ a ++ 0x0#4 ++ c ++ 0x0#3 ++ k ++ 0x0#1 ++ r)
  | .vexp2 d a t k g => some (0x30#6 ++ d ++ a ++ 0x3#10 ++ t ++ k ++ 0x0#4 ++ g)
  | .vlog2 d a t k g => some (0x31#6 ++ d ++ a ++ 0x3#10 ++ t ++ k ++ 0x0#4 ++ g)
  | .vrcp d a t k g => some (0x32#6 ++ d ++ a ++ 0x3#10 ++ t ++ k ++ 0x0#4 ++ g)
  | .vrsq d a t k g => some (0x33#6 ++ d ++ a ++ 0x3#10 ++ t ++ k ++ 0x0#4 ++ g)
  | .vsqrt d a t k g => some (0x34#6 ++ d ++ a ++ 0x3#10 ++ t ++ k ++ 0x0#4 ++ g)
  | .vtanh d a t k g => some (0x35#6 ++ d ++ a ++ 0x3#10 ++ t ++ k ++ 0x0#4 ++ g)
  | .vsigm d a t k g => some (0x36#6 ++ d ++ a ++ 0x3#10 ++ t ++ k ++ 0x0#4 ++ g)
  | .vsin d a t k g => some (0x37#6 ++ d ++ a ++ 0x3#10 ++ t ++ k ++ 0x0#4 ++ g)
  | .vcos d a t k g => some (0x38#6 ++ d ++ a ++ 0x3#10 ++ t ++ k ++ 0x0#4 ++ g)
  | .vqmax a t k q => some (0x3C0#10 ++ a ++ 0x3#10 ++ t ++ k ++ 0x0#3 ++ q)
  | .rngDraw d c n => some (0x3D#6 ++ d ++ 0x0#8 ++ c ++ 0x8#6 ++ n)
  | .vcore d => some (0x3E#6 ++ d ++ 0x0#22)
  | .strSetl a c => some (0x1#6 ++ a ++ 0x0#6 ++ c ++ 0x0#8)
  | .strSeed a => some (0x2#6 ++ a ++ 0x0#20)
  | .shfClaim c s => some (0x3000#18 ++ c ++ 0x0#5 ++ s)
  | .shfRel s => some (0x2000000#29 ++ s)
  | .wld a b r s => some (0x5#6 ++ a ++ b ++ 0x0#6 ++ r ++ 0x0#4 ++ s)
  | .arun a r m s n => some (0x6#6 ++ a ++ 0x0#12 ++ r ++ m ++ s ++ n)
  | .arunBt a r m s n => some (0x7#6 ++ a ++ 0x0#12 ++ r ++ m ++ s ++ n)
  | .stopCfg a b c => some (0x8#6 ++ a ++ b ++ c ++ 0x0#8)
  | .fclr a b c => some (0x9#6 ++ a ++ b ++ c ++ 0x0#8)
  | .drain a b c r f n => some (0xA#6 ++ a ++ b ++ c ++ r ++ f ++ 0x0#2 ++ n)
  | .fld a b c r => some (0xB#6 ++ a ++ b ++ c ++ r ++ 0x0#7)
  | .fst a b c r => some (0xC#6 ++ a ++ b ++ c ++ r ++ 0x0#7)
  | .sq4 a b r s u v => some (0xD#6 ++ a ++ b ++ 0x0#6 ++ r ++ s ++ u ++ v)
  | .sq8 a b r s v => some (0xE#6 ++ a ++ b ++ 0x0#6 ++ r ++ s ++ 0x0#1 ++ v)
  | .sqLd a b r => some (0xF#6 ++ a ++ b ++ 0x0#6 ++ r ++ 0x0#7)
  | .sqClr => some (0x40000000#32)
  | .chk a c m n => some (0x11#6 ++ a ++ 0x0#6 ++ c ++ 0x0#1 ++ m ++ 0x0#1 ++ n)
  | .strStat c => some (0x12000#18 ++ c ++ 0x0#8)
  | .cpyStart a h => some (0x1#6 ++ a ++ 0x0#16 ++ h)
  | .cpyWp c h => some (0x2000#18 ++ c ++ 0x0#4 ++ h)
  | .cpyWpwait a c e s h => some (0x3#6 ++ a ++ 0x0#6 ++ c ++ e ++ 0x0#1 ++ s ++ h)
  | .cpyAbort h => some (0x1000000#28 ++ h)
  | .ctrAdd a b c r s => some (0x8#6 ++ a ++ b ++ c ++ 0x0#1 ++ r ++ 0x0#4 ++ s)
  | .ctrMax a b c r s => some (0x9#6 ++ a ++ b ++ c ++ 0x0#1 ++ r ++ 0x0#4 ++ s)
  | .ctrRead a b c s => some (0xA#6 ++ a ++ b ++ c ++ 0x0#6 ++ s)
  | .ctrWait a b c e s => some (0xB#6 ++ a ++ b ++ c ++ e ++ 0x0#5 ++ s)
  | .ctrArw a c e s => some (0xC#6 ++ a ++ 0x0#6 ++ c ++ e ++ 0x0#5 ++ s)
  | .fence a c e k s => some (0x10#6 ++ a ++ 0x0#6 ++ c ++ e ++ k ++ 0x0#3 ++ s)
  | .qsend a c e q => some (0x11#6 ++ a ++ 0x0#6 ++ c ++ e ++ 0x0#3 ++ q)
  | .qrecv b c e q => some (0x480#12 ++ b ++ c ++ e ++ 0x0#3 ++ q)
  | .rngKey a b => some (0x14#6 ++ a ++ b ++ 0x0#14)
  | .rngCtr a b => some (0x15#6 ++ a ++ b ++ 0x0#14)
  | .rngSkip a b => some (0x16#6 ++ a ++ b ++ 0x0#14)
  | .rngNext c => some (0x17000#18 ++ c ++ 0x0#8)
  | .rngSave c => some (0x18000#18 ++ c ++ 0x0#8)
  | .launch a b c e => some (0x1A#6 ++ a ++ b ++ c ++ e ++ 0x0#7)
  | .sysCtx c s => some (0x1C000#18 ++ c ++ 0x0#4 ++ s)
  | .sysFlg c => some (0x1D000#18 ++ c ++ 0x0#8)
  | .ctxEvict a b c => some (0x20#6 ++ a ++ b ++ c ++ 0x0#8)
  | .ctxLoad a b c => some (0x21#6 ++ a ++ b ++ c ++ 0x0#8)
  | .ctxPark a => some (0x22#6 ++ a ++ 0x0#20)
  | .ctxResume a => some (0x23#6 ++ a ++ 0x0#20)
  | .incAdv a c => some (0x24#6 ++ a ++ 0x0#6 ++ c ++ 0x0#8)
  | .reclaim a c e => some (0x25#6 ++ a ++ 0x0#6 ++ c ++ e ++ 0x0#7)
  | .tlbInv a b c e l s => some (0x26#6 ++ a ++ b ++ c ++ e ++ 0x0#4 ++ l ++ s)
  | .rcbBind a b => some (0x27#6 ++ a ++ b ++ 0x0#14)
  | .ctrReset a b => some (0x28#6 ++ a ++ b ++ 0x0#14)
  | .frameRetire a => some (0x29#6 ++ a ++ 0x0#20)
  | .errRead a c => some (0x2A#6 ++ a ++ 0x0#6 ++ c ++ 0x0#8)
  | .errClr a => some (0x2B#6 ++ a ++ 0x0#20)
  | .snapRead a b c => some (0x2C#6 ++ a ++ b ++ c ++ 0x0#8)
  | .domSet a b => some (0x2D#6 ++ a ++ b ++ 0x0#14)
  | .pwrCfg a b => some (0x2E#6 ++ a ++ b ++ 0x0#14)
  | .domainControllerRequest => none
  | .frameRetireAtHome => none
  | .linkUp => none
  | .powerBucketRefill => none
  | .droopRecovery => none
  | .requestLeavesCluster => none
  | .powerLoss => none

/-- Little-endian word of four bytes (R7). -/
def wordOf (b0 b1 b2 b3 : Byte) : W32 := b3 ++ b2 ++ b1 ++ b0

/-- The words of a list of bytes, as far as whole words go (R7). -/
def wordsOf : List Byte → List W32
  | b0 :: b1 :: b2 :: b3 :: r => wordOf b0 b1 b2 b3 :: wordsOf r
  | _ => []

/-- The bytes of a word, lowest address first (R7). -/
def bytesOfWord (w : W32) : List Byte :=
  [w.extractLsb' 0 8, w.extractLsb' 8 8, w.extractLsb' 16 8, w.extractLsb' 24 8]

/-- g registers an S or K operation writes (R165, R166, R173, R222). -/
def Instr.gdests : Instr → List Nat
  | .strSetl _ c | .shfClaim c _ | .strStat c | .chk _ c _ _ => [c.toNat]
  | .cpyWp c _ | .cpyWpwait _ c _ _ _ | .ctrArw _ c _ _ | .ctrWait _ _ c _ _ | .fence _ c _ _ _ | .qsend _ c _ _
  | .rngNext c | .launch _ _ c _ | .sysCtx c _ | .sysFlg c | .incAdv _ c | .reclaim _ c _ | .tlbInv _ _ c _ _ _
  | .errRead _ c | .snapRead _ _ c => [c.toNat]
  | .ctrAdd _ _ c r _ | .ctrMax _ _ c r _ => if r = 1 then [c.toNat] else []
  | .ctrRead _ b c _ | .qrecv b c _ _ => [b.toNat, c.toNat]
  | .rngSave c => [c.toNat, c.toNat + 1, c.toNat + 2, c.toNat + 3]
  | _ => []

/-- The K-slot operations of the rng group (R165, R222). -/
def Instr.isRngK : Instr → Bool
  | .rngKey _ _ | .rngCtr _ _ | .rngSkip _ _ | .rngNext _ | .rngSave _ => true
  | _ => false

/-- The privileged operations: those marked P in R173. -/
def Instr.privileged : Instr → Bool
  | .ctxEvict _ _ _ | .ctxLoad _ _ _ | .ctxPark _ | .ctxResume _ | .incAdv _ _ | .reclaim _ _ _ | .tlbInv _ _ _ _ _ _
  | .rcbBind _ _ | .ctrReset _ _ | .frameRetire _ | .errRead _ _ | .errClr _ | .snapRead _ _ _ | .domSet _ _
  | .pwrCfg _ _ => true
  | _ => false

/-- A decoded bundle: its header, its present slots under their numbers of R340, its X slot and its size in bytes. -/
structure Bundle where
  word : W32
  hdr : Instr
  slots : List (Nat × Instr)
  x : Option W32
  size : Nat
  deriving DecidableEq, Repr

/-- The words of the slots a presence mask marks, in P bit order, each under the number of R340 (X under 8) (R139). -/
def presentWords (p : BitVec 8) (ws : List W32) : List (Nat × W32) :=
  ((List.range 8).filter (fun i => p.getLsbD i)).map (· + 1) |>.zip ws

/-- What a move word writes, as one number (R153): register file, predicates, special registers, unit ports, LSU
CFG selectors. -/
def moveDest (w : W32) : Nat :=
  let u := (w.extractLsb' 12 5).toNat
  let port := (w.extractLsb' 10 2).toNat
  if u = 0 then (w.extractLsb' 6 6).toNat
  else if u = 1 then 0x100 + (w.extractLsb' 9 3).toNat
  else if u = 7 then 0x200 + (w.extractLsb' 4 8).toNat
  else if u = 6 ∧ port = 3 then 0x400 + (w.extractLsb' 2 8).toNat
  else 0x600 + 4 * u + port

/-- g registers that a present K word writes; a word that decodes to no operation is left to the checks of its slot. -/
def kDests (ws : List (Nat × W32)) : List Nat :=
  match ws.find? (fun e => e.1 == 7) with
  | none => []
  | some e => match decodeK e.2 with
    | .ok i => i.gdests
    | .error _ => []

/-- Header and presence rules between the header and the C, move, K and X slots (R142 to R144, R146, R153, R192). The rules of
R144 that need only the words (a loopi or loopg beside another NAS than SEQ, an lpop beside LOOP) stand among them and are
recorded against the header: DESIGN CHOICE, R163 names R144 in no step (log 90). -/
def headerRules (w : W32) (ws : List (Nat × W32)) : Bool :=
  let nas := (w.extractLsb' 24 3).toNat
  let y := w.getLsbD 27
  let moves := (ws.filter (fun e => decide (2 ≤ e.1) && decide (e.1 ≤ 4))).map (fun e => moveDest e.2)
  let hasX := ws.any (fun e => e.1 == 8)
  let c := (ws.find? (fun e => e.1 == 1)).map (fun e => e.2)
  let cOk := match c with
    | none => !y
    | some c =>
      match (c.extractLsb' 28 4).toNat with
      | 0 | 1 => !y && nas == 0
      | 2 => y && nas != 7 && (!c.getLsbD 11 || hasX)
      | 3 => !y && (nas == 1 || nas == 2 || nas == 4) && w.extractLsb' 0 12 == 0
      | 4 => !y && nas != 3
      | 6 => !y && nas != 7
      | _ => !y
  cOk && decide moves.Nodup && (kDests ws).all (fun g => !moves.contains g)

/-- Cross-slot rules (R153, R165, R260): one write per destination, no draw beside another draw. -/
def crossRules (ws : List (Nat × W32)) (is : List (Nat × Instr)) : Bool :=
  let movesG := (ws.filter (fun e => decide (2 ≤ e.1) && decide (e.1 ≤ 4) && decide (moveDest e.2 < 64))).map
    (fun e => moveDest e.2)
  let wide := is.flatMap (fun e => e.2.gdests)
  let draws := is.any (fun e => match e.2 with | .rngDraw _ _ _ => true | _ => false)
  let rngK := is.any (fun e => e.2.isRngK)
  let rsr := is.any (fun e => match e.2 with
    | .sq4 _ _ _ s _ _ => s == 2
    | .sq8 _ _ _ s _ => s == 2
    | _ => false)
  decide (movesG ++ wide).Nodup && !(draws && rngK) && !(rsr && (draws || rngK))

/-- A word in the slot with a number of R340; a move may name the X literal only where X is present (R149). -/
def decodeSlot (hasX : Bool) (n : Nat) (w : W32) : Except DecodeError Instr :=
  match n with
  | 1 => decodeC w
  | 2 | 3 | 4 =>
    let f := w.extractLsb' 18 10
    if (f == 0x56 || f == 0x57) && !hasX then .error .field else decodeMove w
  | 5 => decodeV w
  | 6 => decodeS w
  | 7 => decodeK w
  | _ => .error .unassigned

/-- Decode the present slots in order; the first error names its slot. -/
def decodeSlots (hasX : Bool) : List (Nat × W32) → Except (DecodeError × Nat) (List (Nat × Instr))
  | [] => .ok []
  | (n, w) :: r =>
    if n = 8 then decodeSlots hasX r
    else match decodeSlot hasX n w with
      | .error e => .error (e, n)
      | .ok i => match decodeSlots hasX r with
        | .error e => .error e
        | .ok is => .ok ((n, i) :: is)

/-- Size in bytes of the bundle a header opens (R139). -/
def bundleSize (w : W32) : Nat :=
  4 * (1 + ((List.range 8).filter (fun i => w.getLsbD (16 + i))).length)

/-- Decode a bundle from the bytes from its start to the end of its fetch line, checked in the order of R163 steps 1
to 3. An error comes with the slot number of R340. -/
def decodeBundle (bytes : List Byte) : Except (DecodeError × Nat) Bundle :=
  match wordsOf bytes with
  | [] => .error (.truncated, 0)
  | w :: rest =>
    match (if w.getLsbD 31 then decodeHeader w else .error .unassigned) with
    | .error e => .error (e, 0)
    | .ok h =>
      if bytes.length < bundleSize w then .error (.truncated, 0)
      else
        let ws := presentWords (w.extractLsb' 16 8) rest
        let x := (ws.find? (fun e => e.1 == 8)).map (fun e => e.2)
        if !headerRules w ws then .error (.field, 0)
        else match decodeSlots x.isSome ws with
          | .error e => .error e
          | .ok is =>
            if crossRules ws is then .ok { word := w, hdr := h, slots := is, x := x, size := bundleSize w }
            else .error (.field, 0)

/-- The slot number and instruction a lone 32-bit word is read as: the word alone does not name its slot, so the
kinds are tried in this order (log 1): a header with no slots, no STALL and no yield; a move; V; K; S; C; a header. -/
def tableWord (nbits w : Nat) : Option (Nat × Instr) :=
  let v := BitVec.ofNat 32 w
  let hdr : Option (Nat × Instr) := match decodeHeader v with
    | .ok i => some (0, i)
    | .error _ => none
  if nbits ≠ 32 then none
  else if v.getLsbD 31 && v.extractLsb' 27 4 == 0 && v.extractLsb' 16 8 == 0 && hdr.isSome then hdr
  else match decodeMove v with
    | .ok i => some (2, i)
    | .error _ => match decodeV v with
      | .ok i => some (5, i)
      | .error _ => match decodeK v with
        | .ok i => some (7, i)
        | .error _ => match decodeS v with
          | .ok i => some (6, i)
          | .error _ => match decodeC v with
            | .ok i => some (1, i)
            | .error _ => if v.getLsbD 31 then hdr else none

/-- The instruction read from the bits of a row of the opcode table. -/
def decodeTableWord (nbits w : Nat) : Option Instr := (tableWord nbits w).map (·.2)

end Sys2Proof
end

