-- ==== Sys2Proof/Machine/Flags.lean ====
section
/-! DEFINITION. The sticky flags s.fflg: their bits, the five copies, reading, writing and landing (R51 to R53). -/

namespace Sys2Proof.Machine

/-- Flag bits of R51. -/
def flagNV : Byte := 0x01
/-- Divide by zero. -/
def flagDZ : Byte := 0x02
/-- Overflow. -/
def flagOF : Byte := 0x04
/-- Underflow. -/
def flagUF : Byte := 0x08
/-- Inexact. -/
def flagNX : Byte := 0x10
/-- Saturated. -/
def flagSAT : Byte := 0x20
/-- An alignment discarded bits. -/
def flagALIGN : Byte := 0x40
/-- A folio addition saturated. -/
def flagOVF : Byte := 0x80

/-- OR of a list of flags (R54). -/
def orFlags (l : List Byte) : Byte := l.foldl (· ||| ·) 0

/-- A move's read of s.fflg: the OR of the scalar copy and the cores' copies (R53). -/
def Ctx.readFlags (c : Ctx) : Byte := c.fflg ||| orFlags (c.cores.map (·.fflg))

/-- The part of the result of sys.flg read in core `k`'s cycle: that core's copy, and with core 0's the scalar plane's
(R225). -/
def Ctx.flagCopy (c : Ctx) (k : Nat) : W64 :=
  BitVec.ofNat 64 ((nth c.cores k .fresh).fflg.toNat * 2 ^ (8 * k) + (if k = 0 then c.fflg.toNat * 2 ^ 32 else 0))

/-- A write of s.fflg: the value goes to all five copies; flags that landed on a core in this very cycle are ORed in
after it (R52). -/
def Ctx.writeFlags (c : Ctx) (now : Nat) (v : Byte) : Ctx :=
  { c with fflg := v
           cores := c.cores.map (fun k => { k with fflg := if k.landAt = now then v ||| k.landFlags else v }) }

/-- Flags landing on a core's copy in a cycle (R52). -/
def CoreCtx.landFlag (k : CoreCtx) (now : Nat) (f : Byte) : CoreCtx :=
  { k with fflg := k.fflg ||| f
           landAt := now
           landFlags := if k.landAt = now then k.landFlags ||| f else f }

end Sys2Proof.Machine
end

