-- ==== Sys2Proof/Machine/Ops.lean ====
section
/-! DEFINITION. The named operations over memory, its check code, translation, counters, and taking a trap. -/

namespace Sys2Proof.Machine

/-! ### Memory: one list of cells in canonical form -/

/-- The byte at an address; an unlisted byte reads as 0, as the scrubs of R92 and R420 leave it. -/
def memGet : List Host.Cell → Nat → Byte
  | [], _ => 0
  | (k, v) :: r, a => if k = a then v else memGet r a

/-- The cells that list some bytes from an address up; no zero is listed. -/
def cellsOf (a : Nat) : List Byte → List Host.Cell
  | [] => []
  | b :: r => if b = 0 then cellsOf (a + 1) r else (a, b) :: cellsOf (a + 1) r

/-- Write bytes from an address up: the cells below them, theirs, the cells above them. -/
def memWrite (m : List Host.Cell) (a : Nat) (bs : List Byte) : List Host.Cell :=
  m.filter (fun c => decide (c.1 < a)) ++ cellsOf a bs ++ m.filter (fun c => decide (a + bs.length ≤ c.1))

/-- Clear bytes from an address up. -/
def memClear (m : List Host.Cell) (a n : Nat) : List Host.Cell :=
  m.filter (fun c => decide (c.1 < a) || decide (a + n ≤ c.1))

/-- Every listed address is above `lo`, addresses rise, no listed byte is 0. -/
def memWfFrom (lo : Nat) : List Host.Cell → Bool
  | [] => true
  | (k, v) :: r => decide (lo ≤ k) && v != 0 && memWfFrom (k + 1) r

/-- The canonical form of memory. -/
def Memory.wf (m : List Host.Cell) : Bool := memWfFrom 0 m

/-- Bytes from an address up. -/
def State.readN (s : State) (a n : Nat) : List Byte :=
  let m := s.mem.filter (fun c => decide (a ≤ c.1) && decide (c.1 < a + n))
  (List.range n).map (fun i => memGet m (a + i))

/-- Write bytes at a home. -/
def State.writeN (s : State) (a : Nat) (bs : List Byte) : State := { s with mem := memWrite s.mem a bs }

/-- Scrub bytes to zero with clean check codes: what an allocation does (R92, R378). `a` and `n` are whole sectors. -/
def State.scrub (s : State) (a n : Nat) : State :=
  { s with mem := memClear s.mem a n
           syn := s.syn.filter (fun e => decide (32 * e.1 < a) || decide (a + n ≤ 32 * e.1)) }

/-! ### The physical map (R85, R364) -/

/-- A physical address in the LPDDR of an archive die, channels left out excepted (R364, R420). -/
def State.inLpddr (s : State) (pa : Nat) : Bool :=
  decide (pa < 2 ^ 41) && decide (pa % 2 ^ 37 < 96 * 2 ^ 30) &&
    !((s.archive (pa / 2 ^ 37)).leftOut.contains (pa % 2 ^ 37 / 256 % 12))

/-- Every byte of a range lies in LPDDR; the channels of an archive die interleave by 256 bytes (R85, R364, R420). -/
def State.inLpddrN (s : State) (pa n : Nat) : Bool :=
  s.inLpddr pa && s.inLpddr (pa + n - 1) &&
    (List.range (min 12 ((pa + n - 1) / 256 - pa / 256 + 1))).all (fun i => s.inLpddr ((pa / 256 + i) * 256))

/-- A physical address in a Tirel window (R364, R401). -/
def inWindow (pa : Nat) : Bool := decide (2 ^ 47 ≤ pa) && decide (pa < 2 ^ 48)

/-- The frame of an LPDDR address is retired (R387). -/
def State.retiredAt (s : State) (a : Nat) : Bool :=
  decide (a < 2 ^ 48) && (s.archive (a / 2 ^ 37)).retired.contains (a / 2 ^ 16)

/-! ### Check code (R376 to R378) -/

/-- Number of one bits of a byte value. -/
def weight8 (v : Nat) : Nat := ((List.range 8).filter (fun i => v.testBit i)).length

/-- Syndrome columns H(0) to H(63) (R376). -/
def hColumns : List Nat :=
  ((List.range 256).filter (fun v => weight8 v % 2 == 1 && decide (3 ≤ weight8 v))).take 64

/-- Syndrome byte of dword `i`. -/
def synByte (v : BitVec 32) (i : Nat) : Nat := (v.extractLsb' (8 * i) 8).toNat

/-- At least three of the four syndromes are 0xFF (R377). -/
def synPoisoned (v : BitVec 32) : Bool :=
  decide (3 ≤ ((List.range 4).filter (fun i => synByte v i == 0xFF)).length)

/-- A syndrome of one bit in error, in the data or in the check byte (R377). -/
def synSingle (x : Nat) : Bool := hColumns.contains x || [1, 2, 4, 8, 16, 32, 64, 128].contains x

/-- What a read finds in a sector: the dwords corrected, and those that cannot be (R377). -/
structure Decoded where
  fixed : List Nat
  bad : List Nat
  deriving DecidableEq, Repr

/-- Decode a sector dword by dword, unless it is poisoned (R377). -/
def decodeSyn (v : BitVec 32) : Decoded :=
  if synPoisoned v then { fixed := [], bad := [] }
  else
    let wrong := (List.range 4).filter (fun i => synByte v i != 0)
    { fixed := wrong.filter (fun i => synSingle (synByte v i)), bad := wrong.filter (fun i => !synSingle (synByte v i)) }

/-- Correct the data bit that a syndrome of dword `i` of a sector names, if it names one (R376, R377). -/
def fixBit (sec syn i : Nat) (m : List Host.Cell) : List Host.Cell :=
  match hColumns.idxOf? syn with
  | some n =>
    let a := 32 * sec + 8 * i + n / 8
    memWrite m a [memGet m a ^^^ BitVec.ofNat 8 (2 ^ (n % 8))]
  | none => m

/-- Decode a sector: single-bit errors are corrected in place, and a sector with another error is poisoned, so that all its
four dwords show 0xFF (R377, R378). -/
def State.decodeSector (s : State) (sec : Nat) : State × Decoded :=
  let v := NMap.getD s.syn sec 0
  let d := decodeSyn v
  if d.fixed.isEmpty && d.bad.isEmpty then (s, d)
  else
    ({ s with mem := d.fixed.foldl (fun m i => fixBit sec (synByte v i) i m) s.mem
              syn := if d.bad.isEmpty then NMap.erase s.syn sec else NMap.set s.syn sec 0xFFFFFFFF }, d)

/-- Poison a sector (R378). -/
def State.poisonSector (s : State) (sec : Nat) : State :=
  { s with syn := NMap.modify s.syn sec 0 (fun v => v ^^^ 0xFFFFFFFF) }

/-- Sectors that bytes a .. a+n-1 touch. -/
def sectorsOf (a n : Nat) : List Nat := if n = 0 then [] else (List.range ((a + n - 1) / 32 - a / 32 + 1)).map (· + a / 32)

/-- Some touched sector is poisoned, or lies in a retired frame (R378, R387). -/
def State.poisonedAt (s : State) (a n : Nat) : Bool :=
  (sectorsOf a n).any (fun x => synPoisoned (NMap.getD s.syn x 0) || s.retiredAt (32 * x))

/-- Write bytes in one access at their home: dropped where the frame is retired, clearing the check code of every
sector the access covers whole (R205, R378, R387). -/
def State.storeAt (s : State) (a : Nat) (bs : List Byte) : State :=
  if s.retiredAt a then s.logCat (homeStop a) 3 (homeSrc a) 0 0 a 0 0
  else
    let s := s.writeN a bs
    { s with syn := s.syn.filter (fun e => !(decide (a ≤ 32 * e.1) && decide (32 * e.1 + 32 ≤ a + bs.length))) }

/-! ### Translation (R364 to R368) -/

/-- A leaf found by a walk: physical address, leaf entry, whether it is a block. -/
structure Xlat where
  pa : Nat
  leaf : W64
  block : Bool
  deriving DecidableEq, Repr

/-- A table of 64 KiB lies in LPDDR (R365). -/
def State.tableOk (s : State) (pa : Nat) : Bool := decide (pa < 2 ^ 41) && decide (pa % 2 ^ 37 < 96 * 2 ^ 30) && s.inLpddr pa

/-- Reserved fields of a table entry are zero (R367). -/
def entryReservedOk (e : W64) : Bool := wbits e 50 48 == 0 && wbits e 15 2 == 0

/-- A valid entry that points to a table (R367). -/
def State.tableEntry (s : State) (e : W64) : Option Nat :=
  if e.getLsbD 0 && !e.getLsbD 1 && entryReservedOk e && wbits e 63 51 == 0 && s.tableOk (wbits e 47 16 * 2 ^ 16) then
    some (wbits e 47 16 * 2 ^ 16)
  else none

/-- A valid leaf for the page or block of `va` (R367). -/
def State.leafEntry (s : State) (e : W64) (block : Bool) (va : Nat) : Option Xlat :=
  let base := wbits e 47 16 * 2 ^ 16
  let pa := if block then base + va % 2 ^ 29 else base + va % 2 ^ 16
  let lpddr := decide (base < 2 ^ 41) && decide (base % 2 ^ 37 < 96 * 2 ^ 30) && s.inLpddr pa
  if e.getLsbD 0 && e.getLsbD 1 && entryReservedOk e && (!block || wbits e 28 16 == 0) && wbits e 56 55 != 3 &&
      !(e.getLsbD 57 && e.getLsbD 59) && (inWindow base || (lpddr && wbits e 63 60 == base / 2 ^ 37)) then
    some { pa := pa, leaf := e, block := block }
  else none

/-- Address of a domain's entry in the translation directory (R365). -/
def State.dirAddr (s : State) (dom : BitVec 8) : Nat := s.port.dirpa.toNat + 8 * dom.toNat

/-- The directory entry of a domain as the device has it: once read, a change in memory takes effect only when the copy is
removed (R374). -/
def State.dirEntry (s : State) (dom : BitVec 8) : W64 :=
  (NMap.get? s.dirs dom.toNat).getD (leDword (s.readN (s.dirAddr dom) 8))

/-- Addresses of the entries a walk reads, in order, and what it finds (R365 to R367). -/
def State.walk (s : State) (dom : BitVec 8) (va : Nat) : List Nat × Option Xlat :=
  let dir := s.dirEntry dom
  let root := wbits dir 47 16 * 2 ^ 16
  if !(dir.getLsbD 0 && wbits dir 63 48 == 0 && wbits dir 15 1 == 0 && s.tableOk root) then ([], none)
  else
    let a0 := root + 8 * bits va 51 42
    match s.tableEntry (leDword (s.readN a0 8)) with
    | none => ([a0], none)
    | some t1 =>
      let a1 := t1 + 8 * bits va 41 29
      let e1 := leDword (s.readN a1 8)
      if e1.getLsbD 0 && e1.getLsbD 1 then ([a0, a1], s.leafEntry e1 true va)
      else match s.tableEntry e1 with
        | none => ([a0, a1], none)
        | some t2 =>
          let a2 := t2 + 8 * bits va 28 16
          ([a0, a1, a2], s.leafEntry (leDword (s.readN a2 8)) false va)

/-- Addresses whose poison ends a walk: the entries it reads, and the directory's where no copy of it is held (R380). -/
def State.walkReads (s : State) (dom : BitVec 8) (va : Nat) : List Nat :=
  (if (NMap.get? s.dirs dom.toNat).isSome then [] else [s.dirAddr dom]) ++ (s.walk dom va).1

/-- What a walk finds; a poisoned entry counts as no translation (R380). -/
def State.walkLeaf (s : State) (dom : BitVec 8) (va : Nat) : Option Xlat :=
  if (s.walkReads dom va).any (fun a => s.poisonedAt a 8) then none else (s.walk dom va).2

/-- The device takes its copy of a directory entry that it has read without meeting poison (R374). -/
def State.takeDir (s : State) (dom : BitVec 8) : State :=
  if (NMap.get? s.dirs dom.toNat).isSome || s.poisonedAt (s.dirAddr dom) 8 then s
  else { s with dirs := NMap.set s.dirs dom.toNat (s.dirEntry dom) }

/-! ### Translation lookaside buffers (R369) -/

/-- An entry maps an address of a domain (R369). -/
def TlbEntry.maps (e : TlbEntry) (d : BitVec 8) (va : Nat) : Bool :=
  e.dom == d && (if e.block then e.vpn / 2 ^ 13 == va / 2 ^ 29 else e.vpn == va / 2 ^ 16)

/-- Physical address an entry gives (R367). -/
def TlbEntry.pa (e : TlbEntry) (va : Nat) : Nat :=
  wbits e.leaf 47 16 * 2 ^ 16 + (if e.block then va % 2 ^ 29 else va % 2 ^ 16)

/-- Entry for a leaf found for an address. -/
def Xlat.entry (x : Xlat) (d : BitVec 8) (va : Nat) : TlbEntry :=
  { dom := d, vpn := if x.block then va / 2 ^ 29 * 2 ^ 13 else va / 2 ^ 16, block := x.block, leaf := x.leaf }

/-- Look an address up in one buffer. -/
def tlbFind (l : List TlbEntry) (d : BitVec 8) (va : Nat) : Option TlbEntry := l.find? (·.maps d va)

/-- Put an entry into a buffer of `cap` entries; the oldest goes (R369: replacement affects timing only). -/
def tlbAdd (cap : Nat) (l : List TlbEntry) (e : TlbEntry) : List TlbEntry :=
  (e :: l.filter (fun x => !(x.dom == e.dom && x.vpn == e.vpn && x.block == e.block))).take cap

/-- Entries of a first-level buffer: 128 of a cluster TLB, 64 of the others (R369). -/
def tlbCap (i : Nat) : Nat := if i = 0 then 128 else 64

/-- Second-level buffer of a frond die, or of the port die, number 64 (R369). -/
def State.tlb2 (s : State) (die : Nat) : List TlbEntry := if die < 64 then (s.frond die).tlb2 else s.port.tlb2

/-- Fill a second-level buffer. -/
def State.fillTlb2 (s : State) (die : Nat) (e : TlbEntry) : State :=
  if die < 64 then s.modFrond die (fun f => { f with tlb2 := tlbAdd 8192 f.tlb2 e })
  else s.modPort (fun p => { p with tlb2 := tlbAdd 8192 p.tlb2 e })

/-- Translate an address for an agent that looks up some buffers, and walks on a miss (R369). -/
def State.translate (s : State) (l : List TlbEntry) (dom : BitVec 8) (va : Nat) : Option Xlat :=
  match tlbFind l dom va with
  | some e => some { pa := e.pa va, leaf := e.leaf, block := e.block }
  | none => s.walkLeaf dom va

/-- R of a leaf (R367). -/
def leafR (e : W64) : Bool := e.getLsbD 51
/-- W of a leaf. -/
def leafW (e : W64) : Bool := e.getLsbD 52
/-- P of a leaf. -/
def leafP (e : W64) : Bool := e.getLsbD 53
/-- U of a leaf. -/
def leafU (e : W64) : Bool := e.getLsbD 54
/-- C of a leaf: counter page. -/
def leafC (e : W64) : Bool := e.getLsbD 57
/-- SC of a leaf: staged-commit page. -/
def leafSC (e : W64) : Bool := e.getLsbD 59
/-- SO class (R93). -/
def leafSO (e : W64) : Bool := wbits e 56 55 == 1
/-- UN class (R93). -/
def leafUN (e : W64) : Bool := wbits e 56 55 == 2
/-- HOME of a leaf. -/
def leafHome (e : W64) : Nat := wbits e 63 60

/-! ### Counters (R111) -/

/-- Half of an answer's round trip between a home stop and a cluster (R87). -/
def answerDelay (home cl : Nat) : Nat := 22 + 3 * hops home (clusterStop cl)

/-- Complete the waiters of a counter that a new value meets; ctr.wait and ctr.arw alike (R218). -/
def State.completeWaiters (s : State) (pa : Nat) (v : Nat) : State :=
  let hit (w : Waiter) : Bool := w.pa == pa && decide (w.thr.toNat ≤ v)
  let s' := { s with waiters := s.waiters.filter (fun w => !hit w) }
  (s.waiters.filter hit).foldl (fun s w =>
    s.post (s.now + answerDelay (homeStop pa) w.who.cl) .responseAtSlot
      { EvArg.zero with who := w.who, id := w.accId, status := 0, value := BitVec.ofNat 128 v }) s'

/-- An add at the counter's home: saturating, noted in the catalogue when it saturates (R111, R216). -/
def State.counterAdd (s : State) (pa amount : Nat) (dom : BitVec 8) (inc : BitVec 10) : Nat × State :=
  let old := leNat (s.readN pa 8)
  let new := min (old + amount) (2 ^ 64 - 1)
  let s := if old + amount > 2 ^ 64 - 1 then s.logCat (homeStop pa) 9 8 dom inc pa 0 0 else s
  (new, (s.storeAt pa (leBytes 8 new)).completeWaiters pa new)

/-- An add the device makes for itself in a domain, at system scope: translated, on a writable counter page (R31, R341,
R347, R386). False when the address does not serve. -/
def State.addThrough (s : State) (l : List TlbEntry) (dom : BitVec 8) (va : W64) (amount : Nat) : Bool × State :=
  if wbits va 63 52 != 0 || va.toNat % 8 != 0 then (false, s)
  else match s.translate l dom va.toNat with
    | none => (false, s)
    | some x =>
      let inc := entryCur (NMap.getD s.port.doms dom.toNat 0)
      if leafW x.leaf && leafC x.leaf then
        (true, if inWindow x.pa then
            s.post s.now .windowAccessSend
              { EvArg.zero with n := 2, v := BitVec.ofNat 64 x.pa, w := BitVec.ofNat 64 amount, who := { Who.zero with dom := dom, inc := inc } }
          else (s.counterAdd x.pa amount dom inc).2)
      else (false, s)

/-- An alert: 1 to the memory alert counter of domain 0 (R386). -/
def State.alert (s : State) : State := (s.addThrough [] 0 s.port.alertva 1).2

/-! ### Error sources (R385) -/

/-- Count one error of a source at its die; the fourth in a window declares the source lasting (R385). -/
def State.countError (s : State) (t : Nat) (src : Source) (code addr : Nat) : State × Nat :=
  let st := s.stop t
  let cur := (st.sources.find? (fun e => e.source == src)).getD { source := src, count := 0, lasting := false }
  let n := cur.count + 1
  let now4 := decide (4 ≤ n) && !cur.lasting
  let e : SourceCount := { source := src, count := n, lasting := cur.lasting || now4 }
  let s := s.modStop t (fun st => { st with
    sources := e :: st.sources.filter (fun x => x.source != src)
    lasting := if now4 then st.lasting + 1 else st.lasting })
  let s := if s.agenda.any (fun p => p.ev == .errorWindowStart && p.arg.n == t) then s
    else s.post (s.now + 2 ^ 26 - s.dieCycle t % 2 ^ 26) .errorWindowStart { EvArg.zero with n := t }
  if !now4 then (s, n)
  else
    let s := (s.logCat t 6 code 0 0 addr n 0).alert
    let s := match src with
      | .unit sl u => s.post s.now .stagingUnitWithdraw { EvArg.zero with n := sl, m := u }
      | .frame _ => s
      | .link a b k => { s with strands := (a, b, k) :: s.strands }
      | _ => s.post s.now .spareSubstitution { EvArg.zero with source := src }
    (s, n)

/-- Errors of a source in the current window (R385, R389). -/
def State.errorsOf (s : State) (t : Nat) (src : Source) : Nat :=
  ((s.stop t).sources.find? (fun e => e.source == src)).elim 0 (·.count)

/-- ADDR of the catalogue for a key: the physical address; the program address of a byte of staging or of a scratchpad
(R78, R389). -/
def keyAddr (a : Nat) : Nat :=
  if a < 2 ^ 48 then a else if a < 2 ^ 49 then 3 * 2 ^ 62 + (a - 2 ^ 48) else 2 * 2 ^ 62 + (a - 2 ^ 49)

/-- Count one error of the source of a key (R377, R385). -/
def State.countErrorAt (s : State) (a : Nat) : State × Nat :=
  s.countError (homeStop a) (homeSource a) (homeSrc a) (keyAddr a)

/-- Decode a sector that is read: every correction is counted for its dword's source; an uncorrectable sector is poisoned,
counted once and noted once (R377, R378, R391). -/
def State.settleSector (s : State) (sec : Nat) : State :=
  let syn := (NMap.getD s.syn sec 0).toNat
  let r := s.decodeSector sec
  let s := r.2.fixed.foldl (fun (s : State) i => (s.countErrorAt (32 * sec + 8 * i)).1) r.1
  match r.2.bad with
  | [] => s
  | i :: _ =>
    let x := s.countErrorAt (32 * sec + 8 * i)
    x.1.logCat (homeStop (32 * sec)) 2 (homeSrc (32 * sec)) 0 0 (keyAddr (32 * sec)) x.2 syn

/-- Decode the sectors of a range as they stand (R377). -/
def State.decodeRange (s : State) (a n : Nat) : State := (sectorsOf a n).foldl State.settleSector s

/-- Change a task that still exists. -/
def State.modTask (s : State) (uid : Nat) (f : Task → Task) : State :=
  match NMap.get? s.tasks uid with
  | some t => { s with tasks := NMap.set s.tasks uid (f t) }
  | none => s

/-- A consumption of poison at a key is noted at a stop (R380, R389). -/
def State.notePoisonAt (s : State) (t a : Nat) (d : BitVec 8) (i : BitVec 10) : State :=
  s.logCat t 3 (homeSrc a) d i (keyAddr a) (s.errorsOf (homeStop a) (homeSource a)) 0

/-- A consumption of poison by an access is noted at its home (R380). -/
def State.notePoison (s : State) (a : Nat) (d : BitVec 8) (i : BitVec 10) : State := s.notePoisonAt (homeStop a) a d i

/-- A task has consumed poison (R388). -/
def State.poisonTask (s : State) (uid : Nat) : State := s.modTask uid (fun t => { t with poisoned := true })

/-! ### Rows of V-slot accesses (R98, R232 to R234, R247, R249) -/

/-- Every row of an access has moved before a cycle (R233). -/
def RowJob.over (j : RowJob) (now : Nat) : Bool := decide (j.time + j.left ≤ now)

/-- The next row is due: a write is performed in the cycle it moves, a read takes what that cycle's writes leave (R233). -/
def RowJob.due (j : RowJob) (now : Nat) : Bool :=
  decide (0 < j.left) && (if j.write then decide (j.time ≤ now) else decide (j.time < now))

/-- Write a row's active lanes at a key; a sector that is written whole loses its poison (R247, R249, R378). -/
def State.writeRow (s : State) (key : Nat) (lanes : List W32) (m : BitVec 64) : State :=
  (List.range 8).foldl (fun s j =>
    let on := (List.range 8).filter (fun l => m.getLsbD (8 * j + l))
    let word (l : Nat) : List Byte := bytesOfWord (nth lanes (8 * j + l) 0)
    if on.length = 8 then s.storeAt (key + 32 * j) (on.flatMap word)
    else if on.isEmpty then s
    else on.foldl (fun s l => s.storeAt (key + 32 * j + 4 * l) (word l)) (s.decodeRange (key + 32 * j) 32)) s

/-- Read a row: its bytes, 0 for every poisoned sector, and whether there was one (R249, R377, R380). -/
def State.readRow (s : State) (key : Nat) (d : BitVec 8) (i : BitVec 10) : State × List Byte × Bool :=
  (List.range 8).foldl (fun r j =>
    let a := key + 32 * j
    let s := r.1.decodeRange a 32
    if s.poisonedAt a 32 then (s.notePoison a d i, r.2.1 ++ List.replicate 32 0, true)
    else (s, r.2.1 ++ s.readN a 32, r.2.2)) (s, [], false)

/-- Row `r` of a register replaced. -/
def VReg.setRow (v : VReg) (r : Nat) (ws : List W32) : VReg :=
  { lanes := v.lanes.take (64 * r) ++ ws ++ v.lanes.drop (64 * r + 64) }

/-- A row that has been read goes into the result it belongs to, on its core. -/
def Landing.fillRow (l : Landing) (tok core r : Nat) (ws : List W32) : Landing :=
  if l.tok = tok then { l with vec := l.vec.modify core (fun v => v.setRow r ws) } else l

/-- Move the next row of an access; true where it met poison. -/
def State.moveRow (s : State) (cl : Nat) (j : RowJob) : State × Bool :=
  if j.write then (s.writeRow j.at_ (j.data.headD []) (j.marks.headD 0), false)
  else
    let r := s.readRow j.at_ j.who.dom j.who.inc
    let fill (l : Landing) : Landing := l.fillRow j.id j.core j.row (wordsOf r.2.1)
    (r.1.modCtx cl j.cx (fun c => { c with inflight := c.inflight.map fill, snap := c.snap.map fill }), r.2.2)

/-- What remains of an access after its next row. -/
def RowJob.next (j : RowJob) : RowJob :=
  { j with at_ := j.at_ + 256, time := j.time + 1, left := j.left - 1, row := j.row + 1, data := j.data.tail, marks := j.marks.tail }

/-- Move the rows of an access that are due in a cycle, at most as many as the first number; what remains, and the cycle in
which it first met poison. -/
def State.moveRows (s : State) (cl now : Nat) : Nat → RowJob → Option Nat → State × RowJob × Option Nat
  | 0, j, bad => (s, j, bad)
  | f + 1, j, bad =>
    if !j.due now then (s, j, bad)
    else
      let r := s.moveRow cl j
      r.1.moveRows cl now f j.next (bad.or (if r.2 then some j.time else none))

/-- Rows of V-slot accesses whose incarnation has passed do not move: each access is dropped once on each core (R355; DESIGN
CHOICE, log 94). -/
def State.dropRows (s : State) (cl : Nat) : State :=
  let t := clusterStop cl
  let stale (j : RowJob) : Bool := decide (0 < j.left) && !s.current t j.who.dom j.who.inc
  ((s.cluster cl).rows.filter stale).foldl (fun (s : State) j => s.dropStale t j.who.dom j.who.inc (keyAddr j.at_))
    (s.modCluster cl (fun k => { k with rows := k.rows.filter (fun j => !stale j) }))

/-- Move the rows of a cluster's V-slot accesses that are due, each access up to a cycle of its own; poison raises POISON once
for an operation, after the first read that met it (R233, R249). -/
def State.settleRowsTo (s : State) (cl : Nat) (until_ : RowJob → Nat) : State :=
  let r := (s.cluster cl).rows.foldl (fun (x : State × List RowJob) j =>
    let m := x.1.moveRows cl (until_ j) j.left j none
    let known := j.told || x.2.any (fun y => y.id == j.id && y.told)
    match m.2.2, known with
    | some t, false =>
      (m.1.post (t + 1) .contextStop
        { EvArg.at cl j.cx j.id with n := 6, m := 5 * 16 + 2, w := j.va, who := j.who, value := j.bpc.setWidth 128 },
        x.2 ++ [{ m.2.1 with told := true }])
    | _, _ => (m.1, x.2 ++ [{ m.2.1 with told := known }])) (s, [])
  let told := (r.2.filter (·.told)).map (·.id)
  let left := (r.2.map (fun j => { j with told := told.contains j.id })).filter (fun j => decide (0 < j.left))
  r.1.modCluster cl (fun k => { k with rows := left })

/-- Move the rows that are due in the present cycle. -/
def State.settleRows (s : State) (cl : Nat) : State :=
  if (s.cluster cl).rows.isEmpty then s else (s.dropRows cl).settleRowsTo cl (fun _ => s.now)

/-- Move the rows of the cycles before the present one, in which an update of a domain takes effect (R353). -/
def State.settleBefore (s : State) (cl : Nat) : State :=
  if (s.cluster cl).rows.isEmpty then s
  else s.settleRowsTo cl (fun j => if j.write then s.now - 1 else s.now)

/-- Move the rows that are due, and every row of the access that a result belongs to: the result lands (R233; log 14). -/
def State.forceRows (s : State) (cl tok : Nat) : State :=
  if (s.cluster cl).rows.isEmpty then s
  else (s.dropRows cl).settleRowsTo cl (fun j => if j.id = tok then j.time + j.left else s.now)

/-- Identifiers of the earlier accesses of a context, and of its V-slot accesses whose rows still move (R98, R104, R117). -/
def State.earlier (s : State) (cl cx : Nat) : List Nat :=
  (s.ctx cl cx).accs.map (·.id) ++
    ((s.cluster cl).rows.filter (fun j => j.cx == cx && !j.over s.now)).map (·.id)

/-- Accesses with some identifiers are performed, wherever their stage now stands; a prefetch is not waited for (R117). -/
def State.coversDone (s : State) (cl : Nat) (ids : List Nat) : Bool :=
  !(List.range 8 ++ s.shadows cl).any (fun x =>
      (s.ctx cl x).accs.any (fun a => ids.contains a.id && !a.performed && a.kind != .pf)) &&
    !(s.cluster cl).rows.any (fun j => ids.contains j.id && !j.over s.now)

/-- Rows of a context's V-slot accesses still move. -/
def State.rowsLeft (s : State) (cl cx : Nat) : Bool := (s.cluster cl).rows.any (fun j => j.cx == cx && !j.over s.now)

/-! ### Reads at a home -/

/-- Decode the sectors an access touches; in a scratchpad, rows that are due have moved (R233, R377). -/
def State.settle (s : State) (a n : Nat) : State :=
  (if 2 ^ 49 ≤ a then s.settleRows ((a - 2 ^ 49) / 2 ^ 23) else s).decodeRange a n

/-- Read bytes at their home: none when a sector is poisoned, which is noted (R377, R380). -/
def State.readHome (s : State) (a n : Nat) (d : BitVec 8) (i : BitVec 10) : State × Option (List Byte) :=
  let s := s.settle a n
  if s.poisonedAt a n then (s.notePoison a d i, none) else (s, some (s.readN a n))

/-- Read bytes at their home for a task, which consumes the poison it meets (R380, R388). -/
def State.readFor (s : State) (a n : Nat) (w : Who) (task : Nat) : State × Option (List Byte) :=
  match s.readHome a n w.dom w.inc with
  | (s, none) => (s.poisonTask task, none)
  | r => r

/-- Read bytes for an agent that consumes them at a stop of its own, which notes poison (R377, R380, log 73). -/
def State.readAgent (s : State) (t a n : Nat) (d : BitVec 8) (i : BitVec 10) : State × Option (List Byte) :=
  let s := s.settle a n
  if s.poisonedAt a n then (s.notePoisonAt t a d i, none) else (s, some (s.readN a n))

/-! ### Translation by the device's own agents (R366, R369, R380) -/

/-- What a walk finds at its end: what it reads is decoded, and a poisoned entry counts as no translation and is noted
(R366, R367, R377, R380). -/
def State.walkEnd (s : State) (d : BitVec 8) (i : BitVec 10) (va : Nat) : Option Xlat × State :=
  let s := (s.walkReads d va).foldl (fun s a => s.settle a 8) s
  let s := match (s.walkReads d va).find? (fun a => s.poisonedAt a 8) with
    | some a => s.notePoison a d i
    | none => s
  (s.walkLeaf d va, s.takeDir d)

/-- An agent of a die has looked an address up: on a miss the entries are read, and a leaf found fills the die's
second-level buffer (R369, R380). -/
def State.touch (s : State) (die : Nat) (dom : BitVec 8) (va : Nat) : State :=
  match tlbFind (s.tlb2 die) dom va with
  | some _ => s
  | none =>
    match s.walkEnd dom (entryCur (NMap.getD s.port.doms dom.toNat 0)) va with
    | (some x, s) => s.fillTlb2 die (x.entry dom va)
    | (none, s) => s

/-- An add the device makes for itself from a die, through the die's second-level buffer (R31, R341, R347, R369). -/
def State.deviceAdd (s : State) (die : Nat) (dom : BitVec 8) (va : W64) (amount : Nat) : Bool × State :=
  let s := s.touch die dom va.toNat
  let s := match s.translate (s.tlb2 die) dom va.toNat with
    | some x => if inWindow x.pa then s else s.settle x.pa 8
    | none => s
  s.addThrough (s.tlb2 die) dom va amount

/-! ### Taking a trap (R329 to R341) -/

/-- A result of the scalar plane, which drains and is never captured (R191, R329). -/
def Dest.scalar : Dest → Bool
  | .vreg _ | .mask _ | .bypass => false
  | _ => true

/-- Next-issue point of a stop (R329). -/
def Ctx.nextPoint (c : Ctx) : Nat := c.tLast + 1 + c.stallLast

/-- Cycle up to which the context is charged when it gives up the sequencer now: through the STALL cycles of its last
bundle, but for a yield bundle whose STALL cycles stay owed (R22, R199). -/
def Ctx.holdEnd (c : Ctx) (now : Nat) : Nat := if c.owed ≠ 0 then max now (c.tLast + 1) else max now c.nextPoint

/-- `nextIssue` of a context that holds the sequencer in a fetch wait: no cycle at all (R141). -/
def fetchWait : Nat := 2 ^ 128

/-- The context waits for its line; such cycles are not counted in its segment (R22, R141). -/
def Ctx.fetching (c : Ctx) : Bool := decide (fetchWait ≤ c.nextIssue)

/-- End a fetch wait: counting goes on from here (R141). -/
def Ctx.endFetch (c : Ctx) (now : Nat) : Ctx := if c.fetching then { c with nextIssue := now, segAt := now } else c

/-- Charge the cycles the context has held the sequencer to its segment count; STALL cycles of a yield bundle that have
not passed stay owed (R22, R199). -/
def Ctx.chargeHold (c : Ctx) (now : Nat) : Ctx :=
  let c := c.endFetch now
  let e := c.holdEnd now
  { c with seg := { c.seg with count := c.seg.count + (e - c.segAt) }, segAt := max c.segAt e
           owed := Min.min c.owed (c.nextIssue - e) }

/-- Stop a context at its bundle boundary: results landing after the next-issue point are captured with their remaining
cycles, those of a replay again; scalar results drain (R329 to R333). -/
def Ctx.stop (c : Ctx) : Ctx :=
  let n := c.nextPoint
  let cap (l : Landing) : Bool := !l.dest.scalar && decide (n < l.time)
  { c with
    parked := true
    snap := (if c.replaying then [] else c.snap) ++ (c.inflight.filter cap).map (fun l => { l with time := l.time - n })
    replaying := false
    inflight := c.inflight.filter (fun l => !cap l) }

/-- Cycle by which capture and scalar drain of a stop are complete (R191, R329, R341). -/
def Ctx.drained (c : Ctx) (now : Nat) : Nat :=
  let scalar := c.inflight.foldl (fun m l => max m l.time) now
  c.snap.foldl (fun m l => max m (c.nextPoint + l.time + 6)) scalar

/-- Give up the sequencer and let the arbiter decide, after the cycle of the last issue (R23). -/
def State.releaseSeq (s : State) (cl cx : Nat) : State :=
  if (s.cluster cl).run = some cx then
    let s := s.modCtx cl cx (fun c => c.chargeHold s.now)
    let s := s.modCluster cl (fun k => { k with run := none, deciding := true })
    s.post (max s.now ((s.ctx cl cx).tLast + 1)) .arbiterDecide (EvArg.at cl 0 0)
  else s

/-- Stop and park a context. -/
def State.stopCtx (s : State) (cl cx : Nat) : State :=
  if (s.ctx cl cx).parked then s else (s.releaseSeq cl cx).modCtx cl cx Ctx.stop

/-- Put a record among those that wait, in the issue order of the operations that caused them (R341). -/
def insertRec (r : TrapRec) : List TrapRec → List TrapRec
  | [] => [r]
  | q :: l => if r.ord < q.ord then r :: q :: l else q :: insertRec r l

/-- Take a trap: the record waits for delivery, the context stops and is parked, and the record is delivered when
capture and drain are complete (R330, R339, R341). -/
def State.takeTrap (s : State) (cl cx : Nat) (r : TrapRec) : State :=
  let s := s.modCtx cl cx (fun c => { c with pend := insertRec r c.pend })
  let s := s.stopCtx cl cx
  s.post ((s.ctx cl cx).drained s.now) .trapDelivery (EvArg.at cl cx 0)

/-- Region of a context's task. -/
def State.regionOf (s : State) (c : Ctx) : Nat := ((s.taskOf c).map (·.region)).getD 0

/-- The fields of its region that a context's task was placed with (R314, R328). -/
def State.fieldsOf (s : State) (c : Ctx) : Option Region := (s.taskOf c).bind (·.rg)

/-- A record of a class for a context, other fields zero (R340); its cause is the latest operation, unless its taker names
an earlier one (R341). -/
def State.record (s : State) (c : Ctx) (cls slot : Nat) (bpc npc : BitVec 30) : TrapRec :=
  { ord := s.uid, ctxw := c.sctx, cls := cls, slot := slot, engine := 0, bpc := bpc, npc := npc, cidx := 0, esw := 0
    addr := 0, rg := s.fieldsOf c }

/-- The 64 bytes of a record with its number (R340). -/
def TrapRec.bytes (r : TrapRec) (n : Nat) : List Byte :=
  leBytes 8 n ++ leBytes 8 r.ctxw.toNat ++
    leBytes 8 (r.cls * 2 ^ 32 + r.slot * 2 ^ 28 + r.engine * 2 ^ 24) ++ leBytes 8 r.bpc.toNat ++
    leBytes 8 r.npc.toNat ++ leBytes 8 r.cidx.toNat ++ leBytes 8 r.esw.toNat ++ leBytes 8 r.addr.toNat

/-- Write a record into the trap area of its task's region and add 1 to the trap counter, through the buffer of the frond die
at the stop (R341, R369). A counter or an area that does not serve leaves a catalogue entry instead. -/
def State.deliverRecord (s : State) (r : TrapRec) (die : Nat) : State :=
  let at_ := frondStop die
  match r.rg with
  | none => s.logRefused at_ 8 0 0 0 1
  | some rg =>
    let inc := entryCur (NMap.getD s.port.doms rg.dom.toNat 0)
    let s := (s.touch die rg.dom rg.trapc.toNat).touch die rg.dom rg.trapa.toNat
    match s.translate (s.tlb2 die) rg.dom rg.trapc.toNat, s.translate (s.tlb2 die) rg.dom rg.trapa.toNat with
    | some xc, some xa =>
      if leafW xc.leaf && leafC xc.leaf && leafW xa.leaf && !leafC xa.leaf && !inWindow xc.pa && !inWindow xa.pa &&
          rg.trapc.toNat % 8 == 0 then
        let s := s.settle xc.pa 8
        let n := leNat (s.readN xc.pa 8)
        let s := (s.settle (xa.pa + 64 * (n % 64)) 64).storeAt (xa.pa + 64 * (n % 64)) (r.bytes n)
        (s.counterAdd xc.pa 1 rg.dom inc).2
      else s.logRefused at_ 8 rg.dom inc rg.trapc.toNat 1
    | _, _ => s.logRefused at_ 8 rg.dom inc rg.trapc.toNat 1

/-- A command stopped by a fault goes on from its cursor and tests its condition again (R262). -/
def CoreCtx.retry (x : CoreCtx) : CoreCtx :=
  { x with cmds := x.cmds.map (fun c => if c.cur.state = 2 then { c with cur := { c.cur with state := 1, cause := 0 } } else c) }

/-- Return from a trap: a parked context is no longer parked; it is ready, or blocked until its wait ends, and its
stream commands go on; a hold restored from an image issues its bundle again (R262, R335, R346, R434). -/
def State.resumeCtx (s : State) (cl cx : Nat) : State :=
  let c := s.ctx cl cx
  if !c.parked then s
  else
    let c := match c.held with
      | some h =>
        if h.g.isEmpty && h.lq == 0 && !h.mul then { c with held := none, heldEnd := 3 + (h.budget - (s.now - h.since)) } else c
      | none => c
    let s := s.setCtx cl cx { c with parked := false, readyAt := s.now, cores := c.cores.map CoreCtx.retry }
    let s := (List.range 4).foldl (fun (s : State) k =>
      s.post s.now .streamChunk { EvArg.zero with cl := cl, id := k, n := 1 }) s
    s.post s.now .arbiterDecide (EvArg.at cl 0 0)

end Sys2Proof.Machine
end

