-- ==== Sys2Proof/Machine/Operands.lean ====
section
/-! DEFINITION. Operand forms: move sources (R149, R128, R129, R158, R159), operands of wide slots (R153, R159, R164),
vector registers, masks and elements (R161, R227 to R230). -/

namespace Sys2Proof.Machine

/-! ### Move sources -/

/-- Value of a special register (R17). -/
def Ctx.readSpr (c : Ctx) (now n : Nat) : W64 :=
  match n with
  | 0 => c.ccy now
  | 1 => c.stat.setWidth 64
  | 2 => c.readFlags.setWidth 64
  | 3 => c.sl.setWidth 64
  | 4 => c.seed.setWidth 64
  | 5 => c.mdl.setWidth 64
  | 6 => c.rrb.setWidth 64
  | 7 => (nth ((nth c.cores 0 .fresh).bypass) 0 0).setWidth 64
  | 8 => c.sctx
  | 9 => c.grid
  | 10 => c.arg
  | 11 => c.scc
  | _ => 0

/-- A division of the context is outstanding: mul.q and mul.qh are empty (R157). -/
def Ctx.dividing (c : Ctx) : Bool := c.inflight.any (fun l => l.dest == .mul true)

/-- What a source offers: a value with the status it gives s.stat, nothing yet, or a trap of a class with an engine
status word. -/
inductive SrcState where
  | value (v : W64) (stat : Option Byte) (esc : Bool)
  | pending
  | trap (cls : Nat) (esw : W64) (engine : Nat)
  deriving DecidableEq, Repr

/-- A result latch or the scalar plane's queue as a source in which an error may stand (R379). -/
def Ctx.sound (c : Ctx) (x : ErrPlace) (v : SrcState) : SrcState := if c.badAt x then .trap 6 0 0 else v

/-- A g register as a move source (R159, R379). -/
def Ctx.gSource (c : Ctx) (n : Nat) (w : Bool) : SrcState :=
  if c.badAt (.g n) then .trap 6 0 0
  else if !c.full.getLsbD n then (if w then .pending else .trap 3 0 0)
  else if c.expd.getLsbD n then (if w then .value 0 (some 1) false else .trap 3 0 0)
  else .value (nth c.g n 0) none false

/-- A load-queue entry as a move source (R128). -/
def lqSource (e : Option LqEntry) (w : Bool) : SrcState :=
  match e with
  | none => .trap 3 0 1
  | some e =>
    match e.state with
    | .waiting => if w then .pending else .trap 3 0 1
    | .arrived => .value e.value (some 0) false
    | .expired => if w then .value 0 (some 1) e.esc else .trap 3 1 1
    | .poisoned => if w then .value 0 (some 4) false else .trap 6 0 1
    | .denied => if w then .value 0 (some 7) false else .trap 5 0 1

/-- The source a FROM field names; `j` entries of the load queue are popped by earlier moves of the bundle (R149, R158). -/
def Ctx.source (c : Ctx) (now : Nat) (x : Option W32) (j : Nat) (m : MoveSrc) : SrcState :=
  let f := m.src.toNat
  let w := m.w == 1
  if f < 0x40 then c.gSource f w
  else if f < 0x48 then .value (if Ctx.pred c.p (f - 0x40) then 1 else 0) none false
  else if f < 0x4E then .value (nth c.lx (f - 0x48) 0) none false
  else if f = 0x50 then c.sound (.latch f) (.value c.alu0.q none false)
  else if f = 0x51 then c.sound (.latch f) (.value c.alu1.q none false)
  else if f = 0x52 then (if c.dividing then (if w then .pending else .trap 3 0 0) else c.sound (.latch f) (.value c.mul.q none false))
  else if f = 0x53 then (if c.dividing then (if w then .pending else .trap 3 0 0) else c.sound (.latch f) (.value c.mul.qh none false))
  else if f = 0x54 then c.sound .lq (lqSource c.lq[j]? w)
  else if f = 0x55 then c.sound (.latch f) (.value c.prd.q none false)
  else if f = 0x56 then .value ((x.getD 0).signExtend 64) none false
  else if f = 0x57 then .value ((x.getD 0).setWidth 64 <<< 32) none false
  else if 0x80 ≤ f ∧ f < 0x100 then .value (c.readSpr now (f - 0x80)) none false
  else if 0x200 ≤ f then .value ((m.src.setWidth 9).signExtend 64) none false
  else .trap 1 0 0

/-- A guard holds (R152). -/
def guardOn (p : BitVec 8) (m : MoveSrc) : Bool := Ctx.pred p m.gp.toNat != (m.gi == 1)

end Sys2Proof.Machine

namespace Sys2Proof

open Sys2Proof.Machine

/-- The move fields of a slot word, if it is a move. -/
def Instr.moveSrc? : Instr → Option MoveSrc
  | .moveToRf m _ | .moveToPreg m _ | .moveToSpr m _ | .moveToOperandPort m _ _ | .lsuDl m | .lsuSc m | .lsuCmp m
  | .lsuHi m => some m
  | .add m _ _ | .sub m _ _ | .and m _ _ | .or m _ _ | .xor m _ _ | .andn m _ _ | .shl m _ _ | .shr m _ _ | .sra m _ _
  | .rol m _ _ | .min m _ _ | .max m _ _ | .minn m _ _ | .maxn m _ _ | .clz m _ _ | .ctz m _ _ | .popc m _ _
  | .sext m _ _ | .zext m _ _ | .bfx m _ _ | .bfi m _ _ | .lea m _ _ | .sel m _ _ | .pass m _ _ | .bswap m _ _
  | .abs m _ _ => some m
  | .cmpeq m _ | .cmpne m _ | .cmplt m _ | .cmple m _ | .cmpltn m _ | .cmplen m _ | .tbit m _ | .mul m _ | .mulh m _
  | .mulhn m _ | .madd m _ | .div m _ | .divn m _ | .rem m _ | .remn m _ => some m
  | .pand m | .por m | .pxor m | .pnot m | .pmov m | .pf m => some m
  | .ldI8 m _ | .ldN8 m _ | .ldI16 m _ | .ldN16 m _ | .ldI32 m _ | .ldN32 m _ | .ld64 m _ | .ld128 m _ | .st8 m _
  | .st16 m _ | .st32 m _ | .st64 m _ | .st128 m _ => some m
  | .aAdd32 m _ | .aAnd32 m _ | .aOr32 m _ | .aXor32 m _ | .aMin32 m _ | .aMax32 m _ | .aMinn32 m _ | .aMaxn32 m _
  | .aSwap32 m _ | .aCas32 m _ | .aAdd64 m _ | .aAnd64 m _ | .aOr64 m _ | .aXor64 m _ | .aMin64 m _ | .aMax64 m _
  | .aMinn64 m _ | .aMaxn64 m _ | .aSwap64 m _ | .aCas64 m _ => some m
  | .redAdd32 m _ | .redAnd32 m _ | .redOr32 m _ | .redXor32 m _ | .redMin32 m _ | .redMax32 m _ | .redMinn32 m _
  | .redMaxn32 m _ | .redAdd64 m _ | .redAnd64 m _ | .redOr64 m _ | .redXor64 m _ | .redMin64 m _ | .redMax64 m _
  | .redMinn64 m _ | .redMaxn64 m _ => some m
  | _ => none

end Sys2Proof

namespace Sys2Proof.Machine

/-- A performed source of a bundle: its slot number of R340, its FROM, what it offers. -/
structure Src where
  slot : Nat
  from_ : Nat
  state : SrcState
  deriving DecidableEq, Repr

/-- The sources of the performed moves of a bundle, in slot order (R152, R158). -/
def Ctx.sources (c : Ctx) (now : Nat) (x : Option W32) : Nat → List (Nat × Instr) → List Src
  | _, [] => []
  | j, (n, i) :: r =>
    match i.moveSrc? with
    | none => c.sources now x j r
    | some m =>
      if guardOn c.p m then
        { slot := n, from_ := m.src.toNat, state := c.source now x j m } ::
          c.sources now x (if m.src.toNat = 0x54 then j + 1 else j) r
      else c.sources now x j r

/-! ### Operands of wide slots -/

end Sys2Proof.Machine

namespace Sys2Proof

open Sys2Proof.Machine

/-- g registers a V, S, K or C slot or an IND header reads, four for a descriptor (R164). -/
def Instr.gsrcs : Instr → List Nat
  | .ind _ _ _ g => [g.toNat]
  | .loopg g _ _ => [g.toNat]
  | .vshl _ _ _ c _ _ m | .vshr _ _ _ c _ _ m | .vsra _ _ _ c _ _ m => if m = 1 then [c.toNat] else []
  | .vsplat _ c _ _ | .vbcc _ _ c _ _ | .vrotc _ _ c _ _ | .vld _ c | .vst _ c _ | .vldr _ c _ | .vstr _ c _ _ =>
    [c.toNat]
  | .strSetl a _ | .strSeed a => [a.toNat]
  | .wld a b _ _ | .sqLd a b _ | .sq4 a b _ _ _ _ | .sq8 a b _ _ _ => [a.toNat, b.toNat]
  | .arun a _ _ _ _ | .arunBt a _ _ _ _ | .chk a _ _ _ | .cpyStart a _ | .ctrArw a _ _ _ =>
    [a.toNat, a.toNat + 1, a.toNat + 2, a.toNat + 3]
  | .stopCfg a b c | .fclr a b c | .drain a b c _ _ _ | .fld a b c _ | .fst a b c _ | .ctxEvict a b c | .ctxLoad a b c
  | .launch a b c _ | .ctrWait a b c _ _ | .tlbInv a b c _ _ _ => [a.toNat, b.toNat, c.toNat]
  | .snapRead a b _ => [a.toNat, b.toNat]
  | .cpyWpwait a c _ _ _ | .fence a c _ _ _ | .qsend a c _ _ | .reclaim a c _ => [a.toNat, c.toNat]
  | .ctrRead a _ c _ => [a.toNat, c.toNat]
  | .qrecv _ c _ _ => [c.toNat]
  | .ctrAdd a b _ _ _ | .ctrMax a b _ _ _ | .rngKey a b | .rngCtr a b | .rngSkip a b | .rcbBind a b | .ctrReset a b
  | .domSet a b | .pwrCfg a b => [a.toNat, b.toNat]
  | .ctxPark a | .ctxResume a | .incAdv a _ | .frameRetire a | .errRead a _ | .errClr a => [a.toNat]
  | _ => []

end Sys2Proof

namespace Sys2Proof.Machine

/-- A g operand as read at issue (R153). -/
def State.opG (s : State) (n : BitVec 6) : W64 := nth s.issue.g n.toNat 0

/-! ### Vector registers, masks, elements -/

/-- Physical register of a V or S operand under a rotation base (R161). -/
def physV (rrb : BitVec 3) (n : Nat) : Nat := if n < 8 then n else 8 + (n - 8 + rrb.toNat) % 8

/-- Register of a core by physical number. -/
def CoreCtx.vreg (k : CoreCtx) (n : Nat) : VReg := nth k.v n .zero

/-- Mask register of a core; k0 reads as all ones (R228). -/
def CoreCtx.mask (k : CoreCtx) (n : Nat) : BitVec 1024 :=
  if n = 0 then BitVec.allOnes 1024 else nth k.k (n - 1) 0

/-- Element width of a type (R39). -/
def elemW (t : BitVec 3) : Nat := 32 / elems t

/-- Element `j` of a lane, as an unsigned number of the element's width (R39). -/
def laneElem (w : Nat) (lane : W32) (j : Nat) : Nat := lane.toNat / 2 ^ (w * j) % 2 ^ w

/-- A lane from its elements, lowest first. -/
def laneOf (w : Nat) : List Nat → Nat
  | [] => 0
  | e :: r => e % 2 ^ w + 2 ^ w * laneOf w r

/-- Element `i` of row `r` (R227). -/
def VReg.elem (v : VReg) (t : BitVec 3) (r i : Nat) : Nat :=
  laneElem (elemW t) (nth v.lanes (64 * r + i / elems t) 0) (i % elems t)

/-- Elements in a row (R227). -/
def rowElems (t : BitVec 3) : Nat := 64 * elems t

/-- A signed type (R39). -/
def isSigned (t : BitVec 3) : Bool := t == 0 || t == 2 || t == 4

/-- Value of an integer element (R39). -/
def elemInt (t : BitVec 3) (e : Nat) : Int := if isSigned t then sextNat (elemW t) e else (e : Int)

/-- Least value of an integer type (R35). -/
def typeMin (t : BitVec 3) : Int := if isSigned t then -(2 ^ (elemW t - 1) : Nat) else 0

/-- Greatest value of an integer type (R35). -/
def typeMax (t : BitVec 3) : Int :=
  if isSigned t then (2 ^ (elemW t - 1) : Nat) - 1 else (2 ^ elemW t : Nat) - 1

/-- Saturate to a range (R10). -/
def satInt (x lo hi : Int) : Int := if x < lo then lo else if hi < x then hi else x

/-- An integer modulo 2^w. -/
def wrapInt (w : Nat) (x : Int) : Nat := (x % (2 ^ w : Nat)).toNat

end Sys2Proof.Machine
end

