-- ==== Sys2Proof/Machine/Checks.lean ====
section
/-! DEFINITION. The conditions checked at a bundle's issue, before any slot takes effect: addresses (R79, R80, R82, R94,
R114, R248, R260), stacks and counts (R144, R145, R196), and operands of K operations (R163 step 5). -/

namespace Sys2Proof.Machine

/-- A task that holds nothing, for a slot without a task. -/
def Task.none : Task :=
  { uid := 0, pkt := 0, index := 0, cluster := 0, region := 0, dom := 0, inc := 0, running := false, holds := false
    done := false, nstg := 0,
    ended := [], evicted := [], code := 0, fail := [], spbase := 0, tsp := 0, frow := 0, tfr := 0, shelf := 0, nsh := 0,
    sbase := 0, tstg := 0, csb := 0, queues := [], staged := [], reruns := 0, poisoned := false, pri := 0,
    ymax := 0, rg := .none, cunits := [], kchans := [] }

/-- Task of a context, or none held. -/
def State.task (s : State) (c : Ctx) : Task := (s.taskOf c).getD .none

/-- Space of an address (R78). -/
def space (a : W64) : Nat := wbits a 63 62
/-- Reserved bits of an address are zero (R78). -/
def addrReservedOk (a : W64) : Bool :=
  match space a with
  | 0 => wbits a 61 52 == 0
  | 1 => wbits a 61 23 == 0
  | 2 => wbits a 61 30 == 0
  | _ => wbits a 61 31 == 0
/-- CL field of an aperture address. -/
def addrCl (a : W64) : Nat := wbits a 29 23
/-- CORE field of a scratchpad address. -/
def addrCore (a : W64) : Nat := wbits a 22 21
/-- OFF field of a scratchpad address. -/
def addrOff (a : W64) : Nat := wbits a 20 0

/-- Bytes a kind of access touches at its address. -/
def AccKind.size : AccKind → Nat → Nat
  | .load n _, _ => n
  | .pf, _ => 1
  | _, n => n

/-- Returning atomics and reductions (R114). -/
def AccKind.rmw : AccKind → Bool
  | .atomic _ | .red _ => true
  | _ => false

/-- Counter operations (R94). -/
def AccKind.counter : AccKind → Bool
  | .ctrAdd | .ctrMax | .ctrRead | .ctrWait | .ctrArw | .ctrReset => true
  | _ => false

/-- Trap class an LSU access meets at issue, none when it may go on (R79, R80, R82, R114). Where a reserved bit is not zero and
another check fails too, the spec gives no order for an LSU access: DESIGN CHOICE, XLATE comes first, as in R80's list (log 83). -/
def lsuFault (t : Task) (cl : Nat) (k : AccKind) (n : Nat) (a : W64) : Option Nat :=
  let isLoad := match k with | .load _ _ => true | _ => false
  if k == .pf then none
  else if !addrReservedOk a then some 4
  else match space a with
    | 0 => if k.rmw && decide (32 < a.toNat % 32 + n) then some 5 else none
    | 1 =>
      if decide (t.tsp ≤ wbits a 20 14) || decide (0x1FFFFF < addrOff a + n - 1) ||
          decide (t.tsp * 16384 < addrOff a + n) || (k.rmw && decide (32 < a.toNat % 32 + n)) then some 5 else none
    | 2 =>
      if (isLoad && addrCl a != cl) || decide (0x1FFFFF < addrOff a + n - 1) ||
          (k.rmw && decide (32 < a.toNat % 32 + n)) then some 5 else none
    | _ =>
      let lin := wbits a 30 0
      if decide (2 ^ 24 < lin % 2 ^ 24 + n) || decide (lin < t.sbase) || decide (t.sbase + t.tstg * 65536 < lin + n) ||
          (k.rmw && decide (32 < a.toNat % 32 + n)) then some 5 else none

/-- Trap class a counter address meets at issue (R80, R94). Where it has a reserved bit and also lies outside space 00 or is
misaligned, the spec gives no order: DESIGN CHOICE, PERM comes first (log 83). -/
def counterFault (a : W64) : Option Nat :=
  if space a != 0 || a.toNat % 8 != 0 then some 5 else if !addrReservedOk a then some 4 else none

/-- Physical scratchpad offset of a space-01 or own space-10 address (R79, R82). -/
def physOff (t : Task) (a : W64) : Nat := if space a = 1 then addrOff a + t.spbase * 16384 else addrOff a

/-- A byte range lies in the task's pages: space 01 task-relative, space 10 physical (R79, R82). -/
def inPages (t : Task) (a : W64) (n : Nat) : Bool :=
  if space a = 1 then decide (addrOff a + n ≤ t.tsp * 16384)
  else decide (t.spbase * 16384 ≤ addrOff a) && decide (addrOff a + n ≤ (t.spbase + t.tsp) * 16384)

/-- The space serves V and S operands: 01, or 10 naming the issuing cluster (R79). -/
def ownSpace (cl : Nat) (a : W64) : Bool := space a == 1 || (space a == 2 && addrCl a == cl)

/-- Trap class of a V-slot access (R248); `busy` says its port cycles are taken (R232). -/
def vectorFault (t : Task) (cl : Nat) (a : W64) (n : Nat) (busy : Bool) : Option Nat :=
  if !ownSpace cl a then some 5
  else if a.toNat % 256 != 0 then some 1
  else if !addrReservedOk a then some 4
  else if decide (0x200000 < addrOff a + n) || !inPages t a n then some 5
  else if busy then some 1 else none

/-- What a stream command needs of the task (R260): scratchpad ranges with their alignment, folio rows, shelves, and
whether its counts and fields are in their limits. -/
structure StreamNeeds where
  ranges : List (W64 × Nat × Nat)
  folio : Option (Nat × Nat)
  shelves : List Nat
  limits : Bool
  deriving DecidableEq, Repr

/-- Fields of an activation descriptor (R270). -/
structure ActDesc where
  act : W64
  nvec : Nat
  frow : Nat
  shelf : Nat
  nrow : Nat
  tab : W64
  rec_ : W64
  reservedOk : Bool
  deriving DecidableEq, Repr

/-- The descriptor in four registers (R270). -/
def actDesc (d0 d1 d2 d3 : W64) : ActDesc :=
  { act := d0, nvec := wbits d1 47 32, frow := wbits d1 24 16, shelf := wbits d1 11 9, nrow := wbits d1 8 0, tab := d2,
    rec_ := d3, reservedOk := wbits d1 63 48 == 0 && wbits d1 31 25 == 0 && wbits d1 15 12 == 0 }

/-- Bytes of an activation vector in a mode (R270). -/
def vecBytes (mode : Nat) : Nat := if mode = 2 then 256 else 128

/-- Needs of an S operation with its captured operands (R260, R264 to R283). Of g[gb] of sq4 and sq8 bits 7:0 are read: DESIGN
CHOICE, R280 does not say what the others must be (log 75). -/
def streamNeeds (i : Instr) (ops : List W64) : StreamNeeds :=
  let o (n : Nat) : W64 := nth ops n 0
  let d := actDesc (o 0) (o 1) (o 2) (o 3)
  let actOk := d.reservedOk && decide (1 ≤ d.nvec) && decide (1 ≤ d.nrow) && decide (d.nrow ≤ 256)
  let cnt (n : Nat) : Bool := decide (1 ≤ (o n).toNat) && decide ((o n).toNat ≤ 512)
  match i with
  | .strSetl _ _ => { ranges := [], folio := none, shelves := [], limits := decide (3 ≤ (o 0).toNat) && decide ((o 0).toNat ≤ 16) }
  | .wld _ _ _ n => { ranges := [(o 0, 65536, 256), (o 1, 1024, 256)], folio := none, shelves := [n.toNat], limits := true }
  | .arun _ _ m st _ =>
    { ranges := (d.act, d.nvec * vecBytes m.toNat, vecBytes m.toNat) ::
        (if st = 1 ∧ d.rec_ ≠ 0 then [(d.rec_, 8, 8)] else [])
      folio := some (d.frow, d.nvec), shelves := [d.shelf]
      limits := actOk && (st == 0 || d.nvec == 1) && d.tab == 0 && (st == 1 || d.rec_ == 0) }
  | .arunBt _ _ m st _ =>
    { ranges := [(d.tab, 4 * d.nvec, 4), (d.act, 1, vecBytes m.toNat)], folio := none, shelves := []
      limits := actOk && st == 0 && d.shelf == 0 && d.rec_ == 0 }
  | .chk _ _ m _ =>
    { ranges := [(d.act, vecBytes m.toNat, vecBytes m.toNat)], folio := none, shelves := [d.shelf]
      limits := actOk && d.nvec == 1 && d.frow == 0 && wbits d.tab 63 8 == 0 && d.rec_ == 0 }
  | .fclr _ _ _ => { ranges := [], folio := some ((o 0).toNat, (o 1).toNat), shelves := [], limits := cnt 1 }
  | .drain _ _ _ _ f _ =>
    { ranges := [(o 1, (o 2).toNat * (if f = 0 then 1024 else 512), 256)], folio := some ((o 0).toNat, (o 2).toNat)
      shelves := [], limits := cnt 2 }
  | .fld _ _ _ _ =>
    { ranges := [(o 0, (o 2).toNat * 3136, 64)], folio := some ((o 1).toNat, (o 2).toNat), shelves := [], limits := cnt 2 }
  | .fst _ _ _ _ =>
    { ranges := [(o 1, (o 2).toNat * 3136, 64)], folio := some ((o 0).toNat, (o 2).toNat), shelves := [], limits := cnt 2 }
  | .sq4 _ _ _ _ _ _ =>
    { ranges := [(o 0, (wbits (o 1) 7 4 + 1) * 32, 32)], folio := none, shelves := []
      limits := decide (wbits (o 1) 3 0 + wbits (o 1) 7 4 + 1 ≤ 16) }
  | .sq8 _ _ _ _ _ =>
    { ranges := [(o 0, (wbits (o 1) 7 4 + 1) * 64, 64)], folio := none, shelves := []
      limits := decide (wbits (o 1) 3 0 + wbits (o 1) 7 4 + 1 ≤ 16) }
  | .sqLd _ _ _ =>
    { ranges := if (o 1).toNat = 0 then [] else [(o 0, (o 1).toNat, 1)], folio := none, shelves := []
      limits := decide ((o 1).toNat ≤ 64) }
  | _ => { ranges := [], folio := none, shelves := [], limits := true }

/-- Trap class of a stream command at issue, in the order of the table of R260, with the address that faults: that of the
first operand range which meets the condition, 0 for a condition on no address (R80, R340). -/
def streamFault (t : Task) (claims : Byte) (cl : Nat) (n : StreamNeeds) : Option (Nat × W64) :=
  let at_ (cls : Nat) (bad : W64 × Nat × Nat → Bool) : Option (Nat × W64) := (n.ranges.find? bad).map (fun r => (cls, r.1))
  (at_ 5 (fun r => !ownSpace cl r.1)).or <|
  (at_ 4 (fun r => !addrReservedOk r.1)).or <|
  (at_ 5 (fun r => decide (0x200000 < addrOff r.1 + r.2.1) || !inPages t r.1 r.2.1)).or <|
  (at_ 1 (fun r => r.1.toNat % r.2.2 != 0)).or <|
  if (match n.folio with | some (f, c) => decide (t.tfr < f + c) | none => false) then some (5, 0)
  else if n.shelves.any (fun x => decide (t.nsh ≤ x) || !claims.getLsbD x) then some (5, 0)
  else if !n.limits then some (1, 0) else none

end Sys2Proof.Machine

namespace Sys2Proof

open Sys2Proof.Machine

/-- The LSU access a trigger makes: kind, bytes, order (R170, R202 to R208). -/
def Instr.lsuKind : Instr → Option (AccKind × Nat × BitVec 2)
  | .ldI8 _ o => some (.load 1 true, 1, o.setWidth 2) | .ldN8 _ o => some (.load 1 false, 1, o.setWidth 2)
  | .ldI16 _ o => some (.load 2 true, 2, o.setWidth 2) | .ldN16 _ o => some (.load 2 false, 2, o.setWidth 2)
  | .ldI32 _ o => some (.load 4 true, 4, o.setWidth 2) | .ldN32 _ o => some (.load 4 false, 4, o.setWidth 2)
  | .ld64 _ o => some (.load 8 false, 8, o.setWidth 2) | .ld128 _ o => some (.load 16 false, 16, o.setWidth 2)
  | .st8 _ o => some (.store, 1, o.setWidth 2 <<< 1) | .st16 _ o => some (.store, 2, o.setWidth 2 <<< 1)
  | .st32 _ o => some (.store, 4, o.setWidth 2 <<< 1) | .st64 _ o => some (.store, 8, o.setWidth 2 <<< 1)
  | .st128 _ o => some (.store, 16, o.setWidth 2 <<< 1) | .pf _ => some (.pf, 1, 0)
  | .aAdd32 _ o => some (.atomic .add, 4, o) | .aAnd32 _ o => some (.atomic .and, 4, o)
  | .aOr32 _ o => some (.atomic .or, 4, o) | .aXor32 _ o => some (.atomic .xor, 4, o)
  | .aMin32 _ o => some (.atomic .min, 4, o) | .aMax32 _ o => some (.atomic .max, 4, o)
  | .aMinn32 _ o => some (.atomic .minn, 4, o) | .aMaxn32 _ o => some (.atomic .maxn, 4, o)
  | .aSwap32 _ o => some (.atomic .swap, 4, o) | .aCas32 _ o => some (.atomic .cas, 4, o)
  | .aAdd64 _ o => some (.atomic .add, 8, o) | .aAnd64 _ o => some (.atomic .and, 8, o)
  | .aOr64 _ o => some (.atomic .or, 8, o) | .aXor64 _ o => some (.atomic .xor, 8, o)
  | .aMin64 _ o => some (.atomic .min, 8, o) | .aMax64 _ o => some (.atomic .max, 8, o)
  | .aMinn64 _ o => some (.atomic .minn, 8, o) | .aMaxn64 _ o => some (.atomic .maxn, 8, o)
  | .aSwap64 _ o => some (.atomic .swap, 8, o) | .aCas64 _ o => some (.atomic .cas, 8, o)
  | .redAdd32 _ o => some (.red .add, 4, o.setWidth 2 <<< 1) | .redAnd32 _ o => some (.red .and, 4, o.setWidth 2 <<< 1)
  | .redOr32 _ o => some (.red .or, 4, o.setWidth 2 <<< 1) | .redXor32 _ o => some (.red .xor, 4, o.setWidth 2 <<< 1)
  | .redMin32 _ o => some (.red .min, 4, o.setWidth 2 <<< 1) | .redMax32 _ o => some (.red .max, 4, o.setWidth 2 <<< 1)
  | .redMinn32 _ o => some (.red .minn, 4, o.setWidth 2 <<< 1) | .redMaxn32 _ o => some (.red .maxn, 4, o.setWidth 2 <<< 1)
  | .redAdd64 _ o => some (.red .add, 8, o.setWidth 2 <<< 1) | .redAnd64 _ o => some (.red .and, 8, o.setWidth 2 <<< 1)
  | .redOr64 _ o => some (.red .or, 8, o.setWidth 2 <<< 1) | .redXor64 _ o => some (.red .xor, 8, o.setWidth 2 <<< 1)
  | .redMin64 _ o => some (.red .min, 8, o.setWidth 2 <<< 1) | .redMax64 _ o => some (.red .max, 8, o.setWidth 2 <<< 1)
  | .redMinn64 _ o => some (.red .minn, 8, o.setWidth 2 <<< 1) | .redMaxn64 _ o => some (.red .maxn, 8, o.setWidth 2 <<< 1)
  | _ => none

end Sys2Proof

namespace Sys2Proof

/-- Vector registers that a slot reads by their numbers in the slot, and the mask register that governs it (R228, R230, R280). -/
def Instr.vreads : Instr → List (BitVec 4) × BitVec 2
  | .vadd _ a b _ k | .vsub _ a b _ k | .vmul _ a b _ k | .vadds _ a b _ k | .vsubs _ a b _ k | .vmin _ a b _ k
  | .vmax _ a b _ k | .vminn _ a b _ k | .vmaxn _ a b _ k | .vand _ a b _ k | .vor _ a b _ k | .vxor _ a b _ k
  | .vcmpeq _ a b _ k | .vcmplt _ a b _ k | .vcmple _ a b _ k | .vsel _ a b _ k | .vpack _ a b _ k _ => ([a, b], k)
  | .vfma d a b _ k => ([d, a, b], k)
  | .vabs _ a _ k | .vneg _ a _ k | .vmov _ a _ k | .vbcr _ a _ _ k | .vrotr _ a _ _ k | .vredr _ a _ _ k _
  | .vbcc _ a _ _ k | .vrotc _ a _ _ k | .vredc _ a _ _ k _ | .vunpk _ a _ k _ _ | .vst a _ k | .vstr a _ k _
  | .vqmax a _ k _ => ([a], k)
  | .vshl _ a b _ _ k m | .vshr _ a b _ _ k m | .vsra _ a b _ _ k m => (if m = 1 then [a] else [a, b], k)
  | .vcvt d a _ k _ e => (if e = 2 then [d, a] else [a], k)
  | .vexp2 _ a _ k _ | .vlog2 _ a _ k _ | .vrcp _ a _ k _ | .vrsq _ a _ k _ | .vsqrt _ a _ k _ | .vtanh _ a _ k _
  | .vsigm _ a _ k _ | .vsin _ a _ k _ | .vcos _ a _ k _ => ([a], k)
  | .vsplat _ _ _ k => ([], k)
  | .sq4 _ _ _ _ _ v | .sq8 _ _ _ _ v => ([v], 0)
  | _ => ([], 0)

end Sys2Proof

namespace Sys2Proof.Machine

/-- Order of a 2-bit code (R170). -/
def orderOf (o : BitVec 2) : Order :=
  if o = 1 then .acquire else if o = 2 then .release else if o = 3 then .acqRel else .plain

/-- Load-queue entries an access takes (R158). -/
def AccKind.entries : AccKind → Nat
  | .load n _ => if n = 16 then 2 else 1
  | .atomic _ => 1
  | _ => 0

/-- What a stage may do with queue `q` of its task (R21): the queue exists and the stage is on the right side. -/
def queueOk (t : Task) (stage q : Nat) (send : Bool) : Bool :=
  match t.queues[q]? with
  | none => false
  | some k => if send then k.producer == stage else k.consumer == stage

/-- Space-00 address with zero reserved bits. -/
def globalOk (a : W64) : Bool := space a == 0 && addrReservedOk a

/-- A trap found at issue: class, engine, address, engine status word, copy channel (R340), and for POISON the place of the
context's state in which the error stands (R379). -/
structure Found where
  cls : Nat
  engine : Nat
  addr : W64
  esw : W64
  cidx : W64 := 0
  place : Option ErrPlace := none
  deriving DecidableEq, Repr

/-- A class with nothing beside it. -/
def Found.of (c : Nat) : Found := { cls := c, engine := 0, addr := 0, esw := 0 }

/-! ### Check codes of a context's state (R379) -/

/-- Places of vector state that a slot reads, on the four cores. -/
def Ctx.vplaces (c : Ctx) (i : Instr) : List ErrPlace :=
  let r := i.vreads
  let codes := match i with | .sq4 _ _ _ _ _ _ | .sq8 _ _ _ _ _ => true | _ => false
  (List.range 4).flatMap (fun k =>
    r.1.map (fun n => .vreg k (physV c.rrb n.toNat)) ++ (if r.2 = 0 then [] else [.mask k r.2.toNat]) ++
      (if codes then [.bypass k] else []))

/-- A slot reads vector state in which an uncorrectable error stands (R379). -/
def Ctx.vectorPoison (c : Ctx) (i : Instr) : Option Found :=
  ((c.vplaces i).find? c.badAt).map (fun p => { cls := 6, engine := 2, addr := 0, esw := 0, place := some p })

/-- An uncorrectable error in what every issue reads: scalar state that no operand names, and the snapshot buffer when its
results begin to replay (R333, R379, log 86). -/
def Ctx.unsound (c : Ctx) : Option Found :=
  if c.errs.isEmpty then none
  else if c.badAt .scalar then some { cls := 6, engine := 0, addr := 0, esw := 0, place := some .scalar }
  else if c.snap.isEmpty || c.replaying then none
  else ((List.range 4).find? (fun k => c.badAt (.snap k))).map
    (fun k => { cls := 6, engine := 2, addr := 0, esw := 0, place := some (.snap k) })

/-- Error source and SRC code of a place, where R385 counts one, else the code of other register state (R385, R389). -/
def ErrPlace.source (cl : Nat) : ErrPlace → Option Source × Nat
  | .vreg k _ | .mask k _ | .bypass k => (some (.vregs cl k), 5)
  | .folio n => (some (.folioGroup cl (n / 512 % 4) (n % 512 / 64)), 3)
  | .shelf n => (some (.shelf cl (n / 8 % 4) (n % 8)), 4)
  | _ => (none, 5)

/-- Count an error found in protected state at the cluster's stop (R379, R385). -/
def State.countPlace (s : State) (cl : Nat) (p : ErrPlace) : State × Nat :=
  match (p.source cl).1 with
  | some x => s.countError (clusterStop cl) x (p.source cl).2 0
  | none => (s, 0)

/-- A consumption of poison that stood in protected state: its error is counted, and the consumption noted (R379, R380). -/
def State.notePlace (s : State) (cl : Nat) (c : Ctx) (p : ErrPlace) : State :=
  let r := s.countPlace cl p
  r.1.logCat (clusterStop cl) 3 (p.source cl).2 c.dom c.inc 0 r.2 0

/-- What is read is corrected where one bit of it is in error (R379). -/
def State.correctPlaces (s : State) (cl cx : Nat) (ps : List ErrPlace) : State :=
  let c := s.ctx cl cx
  let hit (e : StoredErr) : Bool := e.single && ps.contains e.place
  if c.errs.any hit then
    (c.errs.filter hit).foldl (fun s e => (s.countPlace cl e.place).1)
      (s.setCtx cl cx { c with errs := c.errs.filter (fun e => !hit e) })
  else s

/-- Channel `n` of a cluster, if it has a command. -/
def Cluster.chan (k : Cluster) (n : Nat) : Option Channel := k.chans[n]?.filter (fun c => c.state != 0)

/-- A channel is busy: its command runs, is suspended, or has not sent its completion (R211). -/
def Channel.busy (c : Channel) : Bool := c.state == 1 || c.state == 2 || !c.unanswered.isEmpty

/-- The tile or row access would overlap the port reservation held (R232). -/
def portBusy (k : Cluster) (now : Nat) : Bool := decide (now + 1 < k.portTo)

/-- Issue-time condition of one slot on its operand values: `g` the g registers and `lsu` the LSU ports as the slot will
see them, `t` the moved value of a trigger (R163 step 5, R196, R80, R158, R248, R260, and each K operation's own). -/
def slotFault (s : State) (cl cx : Nat) (g : List W64) (lsu : LsuPorts) (t : W64) (i : Instr) : Option Found :=
  let c := s.ctx cl cx
  let tk := s.task c
  let r (n : BitVec 6) : W64 := nth g n.toNat 0
  let ilbIf (b : Bool) (a : W64) : Option Found := if b then some { cls := 1, engine := 5, addr := a, esw := 0 } else none
  let stream (ops : List W64) : Option Found :=
    (streamFault tk c.claims cl (streamNeeds i ops)).map (fun x => { cls := x.1, engine := 3, addr := x.2, esw := 0 })
  let vec (n : BitVec 4) (len : Nat) : Option Found :=
    let a := nth g n.toNat 0
    match vectorFault tk cl a len false with
    | some x => some { cls := x, engine := 2, addr := a, esw := 0 }
    | none => if portBusy (s.cluster cl) s.now then some { cls := 1, engine := 2, addr := 0, esw := 0 } else none
  let ctr (a : W64) : Option Found := (counterFault a).map (fun x => { cls := x, engine := 5, addr := a, esw := 0 })
  let desc (a : BitVec 6) : List W64 := (List.range 4).map (fun j => nth g (a.toNat + j) 0)
  match i with
  | .loopi _ => if c.loops.length = 6 then some (.of 1) else none
  | .loopg n m _ =>
    let v := r n
    if v ≠ 0 ∧ m.toNat < v.toNat then
      some { cls := 11, engine := 0, addr := 0, esw := BitVec.ofNat 64 (min v.toNat 0xFFFFFFFF) }
    else if v ≠ 0 ∧ c.loops.length = 6 then some (.of 1) else none
  | .lpop => if c.loops.isEmpty then some (.of 1) else none
  | .loop _ _ _ => if c.loops.isEmpty then some (.of 1) else none
  | .call _ _ _ _ => if c.links.length = 8 then some (.of 1) else none
  | .ret _ _ _ => if c.links.isEmpty then some (.of 1) else none
  | .ind _ _ _ n => if wbits (r n) 63 30 ≠ 0 ∨ wbits (r n) 1 0 ≠ 0 then some (.of 1) else none
  | .vld _ n => vec n 4096
  | .vst _ n _ => vec n 4096
  | .vldr _ n _ => vec n 256
  | .vstr _ n _ _ => vec n 256
  | .strSetl a _ => stream [r a]
  | .wld a b _ _ => stream [r a, r b]
  | .arun a _ _ _ _ => stream (desc a)
  | .arunBt a _ _ _ _ => stream (desc a)
  | .chk a _ _ _ => stream (desc a)
  | .fclr a b c => stream [r a, r b, r c]
  | .drain a b c _ _ _ => stream [r a, r b, r c]
  | .fld a b c _ => stream [r a, r b, r c]
  | .fst a b c _ => stream [r a, r b, r c]
  | .sq4 a b _ _ _ _ => stream [r a, r b]
  | .sq8 a b _ _ _ => stream [r a, r b]
  | .sqLd a b _ => stream [r a, r b]
  | .cpyStart a h =>
    if wbits (nth g (a.toNat + 2) 0) 63 34 ≠ 0 then some { cls := 1, engine := 4, addr := 0, esw := 0 }
    else match (s.cluster cl).chan h.toNat with
      | some k => if k.busy then some { cls := 13, engine := 4, addr := 0, esw := 0, cidx := h.setWidth 64 } else none
      | none => none
  | .ctrAdd a _ _ _ _ => ctr (r a)
  | .ctrMax a _ _ _ _ => ctr (r a)
  | .ctrRead a _ _ _ => ctr (r a)
  | .ctrWait a _ _ _ _ => ctr (r a)
  | .ctrArw a _ _ _ => ctr (r a)
  | .ctrReset a _ => ctr (r a)
  | .fence a _ _ _ _ => ilbIf (wbits (r a) 63 20 != 0) 0
  | .qsend _ _ _ q => if queueOk tk c.stage q.toNat true then none else some { cls := 5, engine := 5, addr := 0, esw := 0 }
  | .qrecv _ _ _ q => if queueOk tk c.stage q.toNat false then none else some { cls := 5, engine := 5, addr := 0, esw := 0 }
  | .rcbBind _ b => ilbIf (wbits (r b) 63 12 != 0) 0
  | .incAdv a _ => ilbIf (wbits (r a) 63 8 != 0) 0
  | .reclaim a _ _ => ilbIf (wbits (r a) 63 8 != 0) 0
  | .domSet a _ => ilbIf (wbits (r a) 63 8 != 0) 0
  | .tlbInv a b _ _ l _ => ilbIf (wbits (r a) 55 52 != 0 || (l == 0 && r b == 0)) 0
  | .errRead a _ => ilbIf (wbits (r a) 63 24 != 0 || ((r a).getLsbD 16 && wbits (r a) 1 0 != 0)) 0
  | .errClr a => ilbIf (wbits (r a) 63 24 != 0 || wbits (r a) 1 0 != 0) 0
  | .pwrCfg a _ => ilbIf (wbits (r a) 63 16 != 0) 0
  | i =>
    match i.lsuKind with
    | none => none
    | some (k, n, _) =>
      let ea := lsu.o + t
      if 32 < c.lq.length + c.ghosts.length + k.entries then some { cls := 1, engine := 1, addr := 0, esw := 0 }
      else (lsuFault tk cl k n ea).map (fun x => { cls := x, engine := 1, addr := ea, esw := 0 })

end Sys2Proof.Machine
end

