-- ==== Sys2Proof/Machine/Issue.lean ====
section
/-! DEFINITION. Readying the slots of a bundle for issue: privilege, sources, holds, issue-time faults, pops and their
statuses (R163 steps 4 and 5, R128, R129, R134, R158, R159), for a whole bundle and for one slot word by itself. -/

namespace Sys2Proof

/-- Slot number of R340 for a slot word by itself: a move stands in M0. -/
def Instr.slotNo (i : Instr) : Nat :=
  match i with
  | .seq _ _ _ | .jump _ _ _ _ | .br _ _ _ _ _ | .loop _ _ _ | .call _ _ _ _ | .ret _ _ _ | .ind _ _ _ _
  | .endStage _ _ _ => 0
  | .loopi _ | .loopg _ _ _ | .yield _ _ | .far _ | .lpop | .trapi _ => 1
  | .vadd _ _ _ _ _ | .vsub _ _ _ _ _ | .vmul _ _ _ _ _ | .vfma _ _ _ _ _ | .vadds _ _ _ _ _ | .vsubs _ _ _ _ _
  | .vmin _ _ _ _ _ | .vmax _ _ _ _ _ | .vminn _ _ _ _ _ | .vmaxn _ _ _ _ _ | .vabs _ _ _ _ | .vneg _ _ _ _
  | .vand _ _ _ _ _ | .vor _ _ _ _ _ | .vxor _ _ _ _ _ | .vshl _ _ _ _ _ _ _ | .vshr _ _ _ _ _ _ _
  | .vsra _ _ _ _ _ _ _ | .vcmpeq _ _ _ _ _ | .vcmplt _ _ _ _ _ | .vcmple _ _ _ _ _ | .vsel _ _ _ _ _
  | .vmov _ _ _ _ | .vsplat _ _ _ _ | .vbcr _ _ _ _ _ | .vrotr _ _ _ _ _ | .vredr _ _ _ _ _ _ | .vbcc _ _ _ _ _
  | .vrotc _ _ _ _ _ | .vredc _ _ _ _ _ _ | .vcvt _ _ _ _ _ _ | .vpack _ _ _ _ _ _ | .vunpk _ _ _ _ _ _
  | .vld _ _ | .vst _ _ _ | .vldr _ _ _ | .vstr _ _ _ _ | .vexp2 _ _ _ _ _ | .vlog2 _ _ _ _ _ | .vrcp _ _ _ _ _
  | .vrsq _ _ _ _ _ | .vsqrt _ _ _ _ _ | .vtanh _ _ _ _ _ | .vsigm _ _ _ _ _ | .vsin _ _ _ _ _ | .vcos _ _ _ _ _
  | .vqmax _ _ _ _ | .rngDraw _ _ _ | .vcore _ => 5
  | .strSetl _ _ | .strSeed _ | .shfClaim _ _ | .shfRel _ | .wld _ _ _ _ | .arun _ _ _ _ _ | .arunBt _ _ _ _ _
  | .stopCfg _ _ _ | .fclr _ _ _ | .drain _ _ _ _ _ _ | .fld _ _ _ _ | .fst _ _ _ _ | .sq4 _ _ _ _ _ _
  | .sq8 _ _ _ _ _ | .sqLd _ _ _ | .sqClr | .chk _ _ _ _ | .strStat _ => 6
  | i => if i.moveSrc?.isSome then 2 else 7

end Sys2Proof

namespace Sys2Proof.Machine

/-! ### Expiries (R134) -/

/-- Count one expiry against the streak limit and window of the region; true when the limit is passed, the count
being cleared (R134). -/
def Ctx.expiry (c : Ctx) (slim win now : Nat) : Ctx × Bool :=
  let n := if c.streak ≠ 0 ∧ (c.ccy now - c.streakAt).toNat ≤ win then c.streak + 1 else 1
  let c := { c with streak := n, streakAt := if n = 1 then c.ccy now else c.streakAt }
  if slim ≠ 0 ∧ slim < n then ({ c with streak := 0 }, true) else (c, false)

/-- Streak limit and window of a context's task (R134, R311, R314). -/
def State.streakOf (s : State) (c : Ctx) : Nat × Nat :=
  match s.fieldsOf c with
  | some r => (r.slim, r.win)
  | none => (0, 0)

/-- Count an expiry of a context. -/
def State.noteExpiry (s : State) (cl cx : Nat) : State × Bool :=
  let c := s.ctx cl cx
  let r := c.expiry (s.streakOf c).1 (s.streakOf c).2 s.now
  (s.setCtx cl cx r.1, r.2)

/-! ### Sources of a whole bundle -/

/-- A g register as an operand of a V, S, K or C slot or of an IND header: it has no W bit and is held on while empty
(R144, R145, R159). An expired register traps at once: R159's table gives that, and R230 says of a register that vc names that
it holds the bundle under R159 first; DESIGN CHOICE, the table holds for vc too (log 84). -/
def Ctx.wideSource (c : Ctx) (n : Nat) : SrcState := if !c.badAt (.g n) && !c.full.getLsbD n then .pending else c.gSource n false

/-- One source of a bundle: slot number of R340, whether a wide operand, its FROM or register, its state. -/
structure Read where
  slot : Nat
  wide : Bool
  from_ : Nat
  state : SrcState
  deriving DecidableEq, Repr

/-- Every source of a bundle in the order of R163: header, then the slots. A C slot or a header that names an empty
register traps at once; the V, S and K slots hold (R144, R145, R159). -/
def Ctx.reads (c : Ctx) (now : Nat) (x : Option W32) (slots : List (Nat × Instr)) : List Read :=
  let moves := (c.sources now x 0 slots).map (fun m => { slot := m.slot, wide := false, from_ := m.from_, state := m.state : Read })
  let wide := slots.flatMap (fun e => e.2.gsrcs.map (fun r =>
    { slot := e.1, wide := true, from_ := r,
      state := if e.1 ≤ 1 then c.gSource r false else c.wideSource r : Read }))
  wide.filter (fun r => decide (r.slot ≤ 1)) ++ moves ++ wide.filter (fun r => decide (1 < r.slot))

/-- What the issue of a bundle comes to: it issues with the move values and tells whether an expiry among its sources
escalates (R133, R134); a trap was taken; or it is held. -/
inductive Prep where
  | go (s : State) (vals : List W64) (esc : Bool)
  | trap (s : State)
  | hold (h : Held)
  deriving DecidableEq, Repr

/-- A trap found before the bundle issues: the bundle is repeated on resume (R339, R340). -/
def State.issueTrap (s : State) (cl cx slot : Nat) (f : Found) : State :=
  let c := s.ctx cl cx
  let s := match f.place with
    | some p => s.notePlace cl c p
    | none => s
  s.takeTrap cl cx { s.record c f.cls slot c.pc c.pc with engine := f.engine, addr := f.addr, esw := f.esw, cidx := f.cidx }

/-- Place of the context's state that a source reads (R379). -/
def Read.place (r : Read) : ErrPlace :=
  if r.wide || decide (r.from_ < 0x40) then .g r.from_ else if r.from_ = 0x54 then .lq else .latch r.from_

/-- A pending source is a wide operand. -/
def anyWide (rs : List Read) : Bool := rs.any (fun r => r.wide && r.state == .pending)

/-- What a held bundle waits for, and its bound (R129, R159). -/
def heldOf (rs : List Read) (now budget : Nat) : Held :=
  let p := rs.filter (fun r => r.state == .pending)
  { since := now, budget := budget
    g := (p.filter (fun r => r.wide || decide (r.from_ < 0x40))).map (·.from_)
    lq := if p.any (fun r => !r.wide && r.from_ == 0x54) then
            (rs.filter (fun r => !r.wide && r.from_ == 0x54)).length else 0
    mul := p.any (fun r => !r.wide && (r.from_ == 0x52 || r.from_ == 0x53))
    wide := anyWide rs }

/-- Value of a source at issue; one still pending when its bound has passed reads as 0 with TIMEOUT (R129). -/
def SrcState.final (st : SrcState) : W64 × Option Byte × Bool :=
  match st with
  | .value v f e => (v, f, e)
  | _ => (0, some 1, false)

/-- Greatest of the statuses of a bundle's sources; a bundle that was held has at least OK (R129, R158). -/
def worstStat (held : Bool) (l : List (Option Byte)) : Option Byte :=
  l.foldl (fun m x => match m, x with
    | some a, some b => some (if a.toNat < b.toNat then b else a)
    | none, x => x
    | m, none => m) (if held then some 0 else none)

/-- The faults of the slots with the values their triggers carry; header first, then slot order (R163). -/
def State.firstFault (s : State) (cl cx : Nat) (g : List W64) (lsu : LsuPorts) :
    List (Nat × Instr) → List W64 → Option (Nat × Found)
  | [], _ => none
  | (n, i) :: r, vs =>
    let on := match i.moveSrc? with
      | some m => guardOn (s.ctx cl cx).p m
      | none => true
    let v := if i.moveSrc?.isSome && on then vs.headD 0 else 0
    let vs := if i.moveSrc?.isSome && on then vs.tail else vs
    match (if on then (slotFault s cl cx g lsu v i).or ((s.ctx cl cx).vectorPoison i) else none) with
    | some f => some (n, f)
    | none => s.firstFault cl cx g lsu r vs

/-- The LSU ports as the triggers of a bundle see them: moves to O, O2 and CFG take effect first (R153). -/
def lsuAfter (p : BitVec 8) : LsuPorts → List (Nat × Instr) → List W64 → LsuPorts
  | l, [], _ => l
  | l, (_, i) :: r, vs =>
    match i.moveSrc? with
    | none => lsuAfter p l r vs
    | some m =>
      if guardOn p m then
        let v := vs.headD 0
        let l := match i with
          | .moveToOperandPort _ u x => if u = 6 then (if x = 0 then { l with o := v } else { l with o2 := v }) else l
          | .lsuDl _ => { l with dl := v }
          | .lsuSc _ => { l with sc := v }
          | .lsuCmp _ => { l with cmp := v }
          | .lsuHi _ => { l with hi := v }
          | _ => l
        lsuAfter p l r vs.tail
      else lsuAfter p l r vs

/-- A source that is there. -/
def SrcState.there (st : SrcState) : Bool :=
  match st with
  | .value _ _ _ => true
  | _ => false

/-- A context whose bundle has popped `n` load-queue entries; one that has not arrived keeps its place (R128, R129). -/
def Ctx.popped (c : Ctx) (n : Nat) : Ctx :=
  { c with lq := c.lq.drop n, ghosts := c.ghosts ++ ((c.lq.take n).filter (fun e => e.state == .waiting)).map (·.id) }

/-- Ready the slots of a bundle of context `cx` of cluster `cl`; `slots` lists the header under 0 and the present slots
under their numbers. `force` stands for a bound that has passed. Of the faults found, the first in slot order is taken
(R163). A bundle that
trapped after its s.mdl bound is repeated with the bound still passed: DESIGN CHOICE, R159 gives a repeated bundle no fresh
bound (log 85). -/
def State.prepare (s : State) (cl cx : Nat) (x : Option W32) (slots : List (Nat × Instr)) (force : Bool) : Prep :=
  let c := s.ctx cl cx
  match slots.find? (fun e => e.2.privileged && !c.super) with
  | some e => .trap (s.issueTrap cl cx e.1 (.of 2))
  | none =>
    match c.unsound with
    | some f => .trap (s.issueTrap cl cx 0 f)
    | none =>
    let rs := c.reads s.now x slots
    let moves := rs.filter (fun r => !r.wide)
    let vals := moves.map (fun r => r.state.final.1)
    let after := s.setCtx cl cx (c.popped (moves.filter (fun r => r.from_ == 0x54)).length)
    let fault (l : List (Nat × Instr)) : Option (Nat × Found) :=
      after.firstFault cl cx c.g (lsuAfter c.p c.lsu slots vals) l vals
    let trapOf (r : Read) : Option (Nat × Found) :=
      match r.state with
      | .trap k esw eng =>
        some (r.slot, { cls := k, engine := eng, addr := 0, esw := esw
                        place := if k = 6 ∧ eng = 0 then some r.place else none })
      | _ => none
    match rs.findSome? trapOf with
    | some f =>
      let early := slots.filter (fun e => decide (e.1 < f.1) && (decide (e.1 ≤ 1) || moves.all (fun r => r.state.there)))
      let f := (fault early).getD f
      .trap (s.issueTrap cl cx f.1 f.2)
    | none =>
      match fault (slots.filter (fun e => decide (e.1 ≤ 1))) with
      | some f => .trap (s.issueTrap cl cx f.1 f.2)
      | none =>
        let pend := rs.any (fun r => r.state == .pending)
        if pend && !(force || c.heldEnd == 2) then .hold (heldOf rs s.now (if 3 ≤ c.heldEnd then c.heldEnd - 3 else c.mdl.toNat))
        else match rs.find? (fun r => r.wide && r.state == .pending) with
          | some r => .trap (s.issueTrap cl cx r.slot (.of 3))
          | none =>
            match fault slots with
            | some f => .trap (s.issueTrap cl cx f.1 f.2)
            | none =>
              let fin := moves.map (fun r => r.state.final)
              let stat := worstStat (c.heldEnd != 0) (fin.map (·.2.1))
              let s := after.modCtx cl cx (fun c => { c with held := none, heldEnd := 0, stat := stat.getD c.stat })
              let s := s.correctPlaces cl cx
                (.scalar :: rs.map Read.place ++ slots.flatMap (fun e => c.vplaces e.2))
              if fin.any (fun f => f.2.1 == some 1) then
                .go (s.noteExpiry cl cx).1 vals (fin.any (·.2.2) || (s.noteExpiry cl cx).2)
              else .go s vals false

/-- ESCALATE through a pop: after the popping bundle (R133, R134, R339). -/
def State.escalatePop (s : State) (cl cx : Nat) : State :=
  let c := s.ctx cl cx
  s.takeTrap cl cx { s.record c 12 0 c.bpc c.pc with esw := c.stat.setWidth 64 }

/-! ### A slot word by itself -/

/-- Give the effect of a slot word. Inside a bundle everything has been readied. Outside one, the word is readied
against the live context first, as a bundle that holds nothing else, a pending source reading as when its bound has
passed; a trap leaves no effect. -/
def State.asBundle (s : State) (i : Instr) (f : State → State) : State :=
  if !s.issue.live then f s
  else
    let u := s.issue
    match s.prepare u.cl u.cx u.x [(i.slotNo, i)] true with
    | .trap s' => s'
    | .hold _ => s
    | .go s' vals esc =>
      let c := s'.ctx u.cl u.cx
      let s1 := f { s' with issue := { u with live := false, pc := c.pc, srcs := vals, slot := BitVec.ofNat 4 i.slotNo,
                                              p := c.p, g := c.g, rrb := c.rrb } }
      let s2 := { s1 with issue := { u with succ := s1.issue.succ, far := s1.issue.far } }
      if esc then s2.escalatePop u.cl u.cx else s2

/-- Change the context the bundle in issue belongs to. -/
def State.modIssue (s : State) (f : Ctx → Ctx) : State := s.modCtx s.issue.cl s.issue.cx f

/-- The context the bundle in issue belongs to. -/
def State.issueCtx (s : State) : Ctx := s.ctx s.issue.cl s.issue.cx

/-- Perform a move: its guard is the one read at issue, and it takes the next source value (R152, R153). -/
def State.move (s : State) (m : MoveSrc) (f : W64 → State → State) : State :=
  if guardOn s.issue.p m then f (s.issue.srcs.headD 0) { s with issue := { s.issue with srcs := s.issue.srcs.tail } }
  else s

end Sys2Proof.Machine
end

