-- ==== Sys2Proof/Machine/Scalar.lean ====
section
/-! DEFINITION. Moves and the scalar units: RF, PREG, SPR and port moves (R153 to R155), ALU0 and ALU1 (R185, R186),
PRD (R187, R188), MUL and the divider (R189, R190), and the landing of results (R11, R52, R156, R333). -/

namespace Sys2Proof.Machine

/-! ### Results in flight -/

/-- A scalar result in flight. -/
def Landing.scalarAt (t : Nat) (d : Dest) (lo hi : W64) : Landing :=
  { time := t, dest := d, lo := lo, hi := hi, vec := [], lmask := [], masks := [], codes := [], target := 0, flags := [], part := none, tok := 0 }

/-- Put a result of the bundle in issue in flight (R11, R156). -/
def State.send (s : State) (l : Landing) : State :=
  (s.modIssue (fun c => { c with inflight := c.inflight ++ [l] })).post l.time .resultLand
    (EvArg.at s.issue.cl s.issue.cx 0)

/-! ### Moves -/

/-- Write a special register; the read-only ones take nothing (R17, R154). -/
def Ctx.writeSpr (c : Ctx) (now n : Nat) (v : W64) : Ctx :=
  match n with
  | 1 => { c with stat := v.setWidth 8 }
  | 2 => c.writeFlags now (v.setWidth 8)
  | 5 => { c with mdl := v.setWidth 32 }
  | 6 => { c with rrb := v.setWidth 3 }
  | _ => c

/-- Write a predicate: true when the value is not zero; p0 takes nothing (R154). -/
def Ctx.setPred (c : Ctx) (n : Nat) (v : Bool) : Ctx :=
  if n = 0 then c
  else { c with p := if v then c.p ||| BitVec.ofNat 8 (2 ^ n) else c.p &&& ~~~(BitVec.ofNat 8 (2 ^ n)) }

/-- Write an O (`x` = 0) or O2 port of a unit (R150, R155). -/
def Ctx.setPort (c : Ctx) (u : Nat) (x : BitVec 1) (v : W64) : Ctx :=
  let put (p : Ports) : Ports := if x = 0 then { p with o := v } else { p with o2 := v }
  match u with
  | 2 => { c with alu0 := put c.alu0 }
  | 3 => { c with alu1 := put c.alu1 }
  | 4 => { c with prd := put c.prd }
  | 5 => { c with mul := put c.mul }
  | 6 => { c with lsu := if x = 0 then { c.lsu with o := v } else { c.lsu with o2 := v } }
  | _ => c

/-- Effect of a move to a g register (R154). -/
def moveRf (m : MoveSrc) (g : BitVec 6) (s : State) : State :=
  s.move m (fun v s => s.modIssue (fun c => c.setG g.toNat v))

/-- Effect of a move to a predicate (R154). -/
def movePreg (m : MoveSrc) (q : BitVec 3) (s : State) : State :=
  s.move m (fun v s => s.modIssue (fun c => c.setPred q.toNat (v != 0)))

/-- Effect of a move to a special register (R154). -/
def moveSpr (m : MoveSrc) (n : BitVec 7) (s : State) : State :=
  s.move m (fun v s => s.modIssue (fun c => c.writeSpr s.now n.toNat v))

/-- Effect of a move to an operand port (R155). -/
def movePort (m : MoveSrc) (u : BitVec 5) (x : BitVec 1) (s : State) : State :=
  s.move m (fun v s => s.modIssue (fun c => c.setPort u.toNat x v))

/-- Effect of a move to an LSU CFG selector (R151). -/
def moveCfg (m : MoveSrc) (f : LsuPorts → W64 → LsuPorts) (s : State) : State :=
  s.move m (fun v s => s.modIssue (fun c => { c with lsu := f c.lsu v }))

/-- MOVE_TO_RF (R154). -/
def execMoveToRf (m : MoveSrc) (g : BitVec 6) (s : State) : Host.Outcome State Fault Refusal :=
  .next (s.asBundle (.moveToRf m g) (moveRf m g))

/-- MOVE_TO_PREG (R154). -/
def execMoveToPreg (m : MoveSrc) (q : BitVec 3) (s : State) : Host.Outcome State Fault Refusal :=
  .next (s.asBundle (.moveToPreg m q) (movePreg m q))

/-- MOVE_TO_SPR (R154). -/
def execMoveToSpr (m : MoveSrc) (n : BitVec 7) (s : State) : Host.Outcome State Fault Refusal :=
  .next (s.asBundle (.moveToSpr m n) (moveSpr m n))

/-- MOVE_TO_OPERAND_PORT (R155). -/
def execMoveToOperandPort (m : MoveSrc) (u : BitVec 5) (x : BitVec 1) (s : State) : Host.Outcome State Fault Refusal :=
  .next (s.asBundle (.moveToOperandPort m u x) (movePort m u x))

/-- LSU_DL (R151). -/
def execLsuDl (m : MoveSrc) (s : State) : Host.Outcome State Fault Refusal :=
  .next (s.asBundle (.lsuDl m) (moveCfg m (fun l v => { l with dl := v })))

/-- LSU_SC (R151). -/
def execLsuSc (m : MoveSrc) (s : State) : Host.Outcome State Fault Refusal :=
  .next (s.asBundle (.lsuSc m) (moveCfg m (fun l v => { l with sc := v })))

/-- LSU_CMP (R151). -/
def execLsuCmp (m : MoveSrc) (s : State) : Host.Outcome State Fault Refusal :=
  .next (s.asBundle (.lsuCmp m) (moveCfg m (fun l v => { l with cmp := v })))

/-- LSU_HI (R151). -/
def execLsuHi (m : MoveSrc) (s : State) : Host.Outcome State Fault Refusal :=
  .next (s.asBundle (.lsuHi m) (moveCfg m (fun l v => { l with hi := v })))

/-! ### ALU0 and ALU1 (R184 to R186)

Each operation takes the width and the full O, T and O2 values; its result is taken modulo 2^w. -/

/-- Width of a WID field (R148, R184). -/
def widOf (s : BitVec 2) : Nat := 64 / 2 ^ s.toNat

/-- Low `w` bits. -/
def low (w v : Nat) : Nat := v % 2 ^ w

/-- Number of leading zero bits of a `w`-bit value; `w` for zero (R185). -/
def clzN (w v : Nat) : Nat := if v = 0 then w else w - 1 - Nat.log2 v

/-- Number of trailing zero bits of a `w`-bit value; `w` for zero (R185). -/
def ctzN (w v : Nat) : Nat := ((List.range w).find? (fun i => v.testBit i)).getD w

/-- Number of one bits of a `w`-bit value (R185). -/
def popcN (w v : Nat) : Nat := ((List.range w).filter (fun i => v.testBit i)).length

/-- Arithmetic shift right with R48's amounts. -/
def sraN (w v n : Nat) : Nat := wrapInt w (sextNat w v / (2 ^ (Min.min n w) : Nat))

/-- Left shift by R48's amounts. -/
def shlN (w v n : Nat) : Nat := if n < w then low w (v * 2 ^ n) else 0

/-- Logical right shift by R48's amounts. -/
def shrN (w v n : Nat) : Nat := if n < w then low w v / 2 ^ n else 0

/-- Rotate left by n mod w (R48). -/
def rolN (w v n : Nat) : Nat := low w (low w v * 2 ^ (n % w)) ||| (low w v / 2 ^ (w - n % w))

/-- Sign extension of the low `n` bits to `w` (R186). -/
def sextField (w v n : Nat) : Nat := if n = 0 then 0 else if w ≤ n then low w v else wrapInt w (sextNat n v)

/-- Field of `n` bits at `p`, clamped to the width (R186). -/
def bfxN (w v p n : Nat) : Nat := if w ≤ p ∨ n = 0 then 0 else low (Min.min n (w - p)) (low w v / 2 ^ p)

/-- `v` with the field of `n` bits at `p` replaced (R186). -/
def bfiN (w v p n x : Nat) : Nat :=
  if w ≤ p ∨ n = 0 then low w v
  else
    let n := Min.min n (w - p)
    let v := low w v
    v % 2 ^ p + low n x * 2 ^ p + v / 2 ^ (p + n) * 2 ^ (p + n)

/-- Bytes of a `w`-bit value in reverse order (R185). -/
def bswapN (w v : Nat) : Nat := leNat (leBytes (w / 8) (low w v)).reverse

/-- An ALU operation: width, O, T, O2 to result. -/
abbrev AluOp := Nat → Nat → Nat → Nat → Nat

/-- Start an operation of ALU0 (`u` = 0) or ALU1: latency 1 (R185). -/
def aluStart (m : MoveSrc) (u : BitVec 1) (sz : BitVec 2) (f : AluOp) (s : State) : State :=
  s.move m (fun t s =>
    let p := if u = 0 then s.issueCtx.alu0 else s.issueCtx.alu1
    let w := widOf sz
    s.send (.scalarAt (s.now + 1) (if u = 0 then .alu0 else .alu1)
      (BitVec.ofNat 64 (low w (f w p.o.toNat t.toNat p.o2.toNat))) 0))

/-- a + b modulo 2^w (R185). -/
def aluAdd : AluOp := fun w o t _ => low w o + low w t

/-- ADD (R185). -/
def execAdd (m : MoveSrc) (u : BitVec 1) (sz : BitVec 2) (s : State) : Host.Outcome State Fault Refusal :=
  .next (s.asBundle (.add m u sz) (aluStart m u sz aluAdd))

/-- a − b modulo 2^w (R185). -/
def aluSub : AluOp := fun w o t _ => low w o + (2 ^ w - low w t)

/-- SUB (R185). -/
def execSub (m : MoveSrc) (u : BitVec 1) (sz : BitVec 2) (s : State) : Host.Outcome State Fault Refusal :=
  .next (s.asBundle (.sub m u sz) (aluStart m u sz aluSub))

/-- a and b (R185). -/
def aluAnd : AluOp := fun w o t _ => low w o &&& low w t

/-- AND (R185). -/
def execAnd (m : MoveSrc) (u : BitVec 1) (sz : BitVec 2) (s : State) : Host.Outcome State Fault Refusal :=
  .next (s.asBundle (.and m u sz) (aluStart m u sz aluAnd))

/-- a or b (R185). -/
def aluOr : AluOp := fun w o t _ => low w o ||| low w t

/-- OR (R185). -/
def execOr (m : MoveSrc) (u : BitVec 1) (sz : BitVec 2) (s : State) : Host.Outcome State Fault Refusal :=
  .next (s.asBundle (.or m u sz) (aluStart m u sz aluOr))

/-- a xor b (R185). -/
def aluXor : AluOp := fun w o t _ => low w o ^^^ low w t

/-- XOR (R185). -/
def execXor (m : MoveSrc) (u : BitVec 1) (sz : BitVec 2) (s : State) : Host.Outcome State Fault Refusal :=
  .next (s.asBundle (.xor m u sz) (aluStart m u sz aluXor))

/-- a and not b (R185). -/
def aluAndn : AluOp := fun w o t _ => low w o &&& (2 ^ w - 1 - low w t)

/-- ANDN (R185). -/
def execAndn (m : MoveSrc) (u : BitVec 1) (sz : BitVec 2) (s : State) : Host.Outcome State Fault Refusal :=
  .next (s.asBundle (.andn m u sz) (aluStart m u sz aluAndn))

/-- a << T[7:0] by R48 (R185). -/
def aluShl : AluOp := fun w o t _ => shlN w o (t % 256)

/-- SHL (R185). -/
def execShl (m : MoveSrc) (u : BitVec 1) (sz : BitVec 2) (s : State) : Host.Outcome State Fault Refusal :=
  .next (s.asBundle (.shl m u sz) (aluStart m u sz aluShl))

/-- logical a >> T[7:0] by R48 (R185). -/
def aluShr : AluOp := fun w o t _ => shrN w o (t % 256)

/-- SHR (R185). -/
def execShr (m : MoveSrc) (u : BitVec 1) (sz : BitVec 2) (s : State) : Host.Outcome State Fault Refusal :=
  .next (s.asBundle (.shr m u sz) (aluStart m u sz aluShr))

/-- arithmetic a >> T[7:0] by R48 (R185). -/
def aluSra : AluOp := fun w o t _ => sraN w o (t % 256)

/-- SRA (R185). -/
def execSra (m : MoveSrc) (u : BitVec 1) (sz : BitVec 2) (s : State) : Host.Outcome State Fault Refusal :=
  .next (s.asBundle (.sra m u sz) (aluStart m u sz aluSra))

/-- a rotated left by T[7:0] mod w (R185). -/
def aluRol : AluOp := fun w o t _ => rolN w o (t % 256)

/-- ROL (R185). -/
def execRol (m : MoveSrc) (u : BitVec 1) (sz : BitVec 2) (s : State) : Host.Outcome State Fault Refusal :=
  .next (s.asBundle (.rol m u sz) (aluStart m u sz aluRol))

/-- the smaller as signed values (R185). -/
def aluMin : AluOp := fun w o t _ => if sextNat w t < sextNat w o then t else o

/-- MIN (R185). -/
def execMin (m : MoveSrc) (u : BitVec 1) (sz : BitVec 2) (s : State) : Host.Outcome State Fault Refusal :=
  .next (s.asBundle (.min m u sz) (aluStart m u sz aluMin))

/-- the larger as signed values (R185). -/
def aluMax : AluOp := fun w o t _ => if sextNat w o < sextNat w t then t else o

/-- MAX (R185). -/
def execMax (m : MoveSrc) (u : BitVec 1) (sz : BitVec 2) (s : State) : Host.Outcome State Fault Refusal :=
  .next (s.asBundle (.max m u sz) (aluStart m u sz aluMax))

/-- the smaller as unsigned values (R185). -/
def aluMinn : AluOp := fun w o t _ => Min.min (low w o) (low w t)

/-- MINN (R185). -/
def execMinn (m : MoveSrc) (u : BitVec 1) (sz : BitVec 2) (s : State) : Host.Outcome State Fault Refusal :=
  .next (s.asBundle (.minn m u sz) (aluStart m u sz aluMinn))

/-- the larger as unsigned values (R185). -/
def aluMaxn : AluOp := fun w o t _ => Max.max (low w o) (low w t)

/-- MAXN (R185). -/
def execMaxn (m : MoveSrc) (u : BitVec 1) (sz : BitVec 2) (s : State) : Host.Outcome State Fault Refusal :=
  .next (s.asBundle (.maxn m u sz) (aluStart m u sz aluMaxn))

/-- leading zero bits of b (R185). -/
def aluClz : AluOp := fun w _ t _ => clzN w (low w t)

/-- CLZ (R185). -/
def execClz (m : MoveSrc) (u : BitVec 1) (sz : BitVec 2) (s : State) : Host.Outcome State Fault Refusal :=
  .next (s.asBundle (.clz m u sz) (aluStart m u sz aluClz))

/-- trailing zero bits of b (R185). -/
def aluCtz : AluOp := fun w _ t _ => ctzN w (low w t)

/-- CTZ (R185). -/
def execCtz (m : MoveSrc) (u : BitVec 1) (sz : BitVec 2) (s : State) : Host.Outcome State Fault Refusal :=
  .next (s.asBundle (.ctz m u sz) (aluStart m u sz aluCtz))

/-- one bits of b (R185). -/
def aluPopc : AluOp := fun w _ t _ => popcN w (low w t)

/-- POPC (R185). -/
def execPopc (m : MoveSrc) (u : BitVec 1) (sz : BitVec 2) (s : State) : Host.Outcome State Fault Refusal :=
  .next (s.asBundle (.popc m u sz) (aluStart m u sz aluPopc))

/-- a[n−1:0] sign-extended, n = T[7:0] (R186). -/
def aluSext : AluOp := fun w o t _ => sextField w o (t % 256)

/-- SEXT (R186). -/
def execSext (m : MoveSrc) (u : BitVec 1) (sz : BitVec 2) (s : State) : Host.Outcome State Fault Refusal :=
  .next (s.asBundle (.sext m u sz) (aluStart m u sz aluSext))

/-- a[n−1:0] zero-extended, n = T[7:0] (R186). -/
def aluZext : AluOp := fun w o t _ => low (Min.min (t % 256) w) o

/-- ZEXT (R186). -/
def execZext (m : MoveSrc) (u : BitVec 1) (sz : BitVec 2) (s : State) : Host.Outcome State Fault Refusal :=
  .next (s.asBundle (.zext m u sz) (aluStart m u sz aluZext))

/-- field of a at T[7:0] of length T[15:8] (R186). -/
def aluBfx : AluOp := fun w o t _ => bfxN w o (t % 256) (t / 256 % 256)

/-- BFX (R186). -/
def execBfx (m : MoveSrc) (u : BitVec 1) (sz : BitVec 2) (s : State) : Host.Outcome State Fault Refusal :=
  .next (s.asBundle (.bfx m u sz) (aluStart m u sz aluBfx))

/-- a with the field at T[7:0] of length T[15:8] replaced by O2 (R186). -/
def aluBfi : AluOp := fun w o t c => bfiN w o (t % 256) (t / 256 % 256) c

/-- BFI (R186). -/
def execBfi (m : MoveSrc) (u : BitVec 1) (sz : BitVec 2) (s : State) : Host.Outcome State Fault Refusal :=
  .next (s.asBundle (.bfi m u sz) (aluStart m u sz aluBfi))

/-- a + (b << O2[2:0]) (R185). -/
def aluLea : AluOp := fun w o t c => low w o + low w t * 2 ^ (c % 8)

/-- LEA (R185). -/
def execLea (m : MoveSrc) (u : BitVec 1) (sz : BitVec 2) (s : State) : Host.Outcome State Fault Refusal :=
  .next (s.asBundle (.lea m u sz) (aluStart m u sz aluLea))

/-- a if O2 is not 0, otherwise b (R185). -/
def aluSel : AluOp := fun _ o t c => if c ≠ 0 then o else t

/-- SEL (R185). -/
def execSel (m : MoveSrc) (u : BitVec 1) (sz : BitVec 2) (s : State) : Host.Outcome State Fault Refusal :=
  .next (s.asBundle (.sel m u sz) (aluStart m u sz aluSel))

/-- b (R185). -/
def aluPass : AluOp := fun _ _ t _ => t

/-- PASS (R185). -/
def execPass (m : MoveSrc) (u : BitVec 1) (sz : BitVec 2) (s : State) : Host.Outcome State Fault Refusal :=
  .next (s.asBundle (.pass m u sz) (aluStart m u sz aluPass))

/-- b with its bytes in reverse order (R185). -/
def aluBswap : AluOp := fun w _ t _ => bswapN w t

/-- BSWAP (R185). -/
def execBswap (m : MoveSrc) (u : BitVec 1) (sz : BitVec 2) (s : State) : Host.Outcome State Fault Refusal :=
  .next (s.asBundle (.bswap m u sz) (aluStart m u sz aluBswap))

/-- |b| as a signed value, modulo 2^w (R185). -/
def aluAbs : AluOp := fun w _ t _ => (sextNat w t).natAbs

/-- ABS (R185). -/
def execAbs (m : MoveSrc) (u : BitVec 1) (sz : BitVec 2) (s : State) : Host.Outcome State Fault Refusal :=
  .next (s.asBundle (.abs m u sz) (aluStart m u sz aluAbs))

/-! ### PRD (R187, R188) -/

/-- Start an operation of PRD: the latch takes 1 or 0 at latency 1. -/
def prdStart (m : MoveSrc) (f : Nat → Nat → Bool) (s : State) : State :=
  s.move m (fun t s => s.send (.scalarAt (s.now + 1) .prd (if f s.issueCtx.prd.o.toNat t.toNat then 1 else 0) 0))

/-- a = b (R187). -/
def prdCmpeq (w o t : Nat) : Bool := low w o == low w t

/-- CMPEQ (R187). -/
def execCmpeq (m : MoveSrc) (sz : BitVec 2) (s : State) : Host.Outcome State Fault Refusal :=
  .next (s.asBundle (.cmpeq m sz) (prdStart m (prdCmpeq (widOf sz))))

/-- a ≠ b (R187). -/
def prdCmpne (w o t : Nat) : Bool := low w o != low w t

/-- CMPNE (R187). -/
def execCmpne (m : MoveSrc) (sz : BitVec 2) (s : State) : Host.Outcome State Fault Refusal :=
  .next (s.asBundle (.cmpne m sz) (prdStart m (prdCmpne (widOf sz))))

/-- a < b, signed (R187). -/
def prdCmplt (w o t : Nat) : Bool := decide (sextNat w o < sextNat w t)

/-- CMPLT (R187). -/
def execCmplt (m : MoveSrc) (sz : BitVec 2) (s : State) : Host.Outcome State Fault Refusal :=
  .next (s.asBundle (.cmplt m sz) (prdStart m (prdCmplt (widOf sz))))

/-- a ≤ b, signed (R187). -/
def prdCmple (w o t : Nat) : Bool := decide (sextNat w o ≤ sextNat w t)

/-- CMPLE (R187). -/
def execCmple (m : MoveSrc) (sz : BitVec 2) (s : State) : Host.Outcome State Fault Refusal :=
  .next (s.asBundle (.cmple m sz) (prdStart m (prdCmple (widOf sz))))

/-- a < b, unsigned (R187). -/
def prdCmpltn (w o t : Nat) : Bool := decide (low w o < low w t)

/-- CMPLTN (R187). -/
def execCmpltn (m : MoveSrc) (sz : BitVec 2) (s : State) : Host.Outcome State Fault Refusal :=
  .next (s.asBundle (.cmpltn m sz) (prdStart m (prdCmpltn (widOf sz))))

/-- a ≤ b, unsigned (R187). -/
def prdCmplen (w o t : Nat) : Bool := decide (low w o ≤ low w t)

/-- CMPLEN (R187). -/
def execCmplen (m : MoveSrc) (sz : BitVec 2) (s : State) : Host.Outcome State Fault Refusal :=
  .next (s.asBundle (.cmplen m sz) (prdStart m (prdCmplen (widOf sz))))

/-- bit T[7:0] of a; 0 at or beyond w (R187). -/
def prdTbit (w o t : Nat) : Bool := decide (t % 256 < w) && o.testBit (t % 256)

/-- TBIT (R187). -/
def execTbit (m : MoveSrc) (sz : BitVec 2) (s : State) : Host.Outcome State Fault Refusal :=
  .next (s.asBundle (.tbit m sz) (prdStart m (prdTbit (widOf sz))))

/-- both true; an operand is true when it is not zero (R188, log 3). -/
def prdPand (o t : Nat) : Bool := o != 0 && t != 0

/-- PAND (R188). -/
def execPand (m : MoveSrc) (s : State) : Host.Outcome State Fault Refusal :=
  .next (s.asBundle (.pand m) (prdStart m prdPand))

/-- either true; an operand is true when it is not zero (R188, log 3). -/
def prdPor (o t : Nat) : Bool := o != 0 || t != 0

/-- POR (R188). -/
def execPor (m : MoveSrc) (s : State) : Host.Outcome State Fault Refusal :=
  .next (s.asBundle (.por m) (prdStart m prdPor))

/-- just one true; an operand is true when it is not zero (R188, log 3). -/
def prdPxor (o t : Nat) : Bool := (o != 0) != (t != 0)

/-- PXOR (R188). -/
def execPxor (m : MoveSrc) (s : State) : Host.Outcome State Fault Refusal :=
  .next (s.asBundle (.pxor m) (prdStart m prdPxor))

/-- T is zero; an operand is true when it is not zero (R188, log 3). -/
def prdPnot (_ t : Nat) : Bool := t == 0

/-- PNOT (R188). -/
def execPnot (m : MoveSrc) (s : State) : Host.Outcome State Fault Refusal :=
  .next (s.asBundle (.pnot m) (prdStart m prdPnot))

/-- T is not zero; an operand is true when it is not zero (R188, log 3). -/
def prdPmov (_ t : Nat) : Bool := t != 0

/-- PMOV (R188). -/
def execPmov (m : MoveSrc) (s : State) : Host.Outcome State Fault Refusal :=
  .next (s.asBundle (.pmov m) (prdStart m prdPmov))

/-! ### MUL (R189, R190, R50) -/

/-- Start an operation of MUL: both latches land together, after `lat` cycles (R156). -/
def mulStart (m : MoveSrc) (sz : BitVec 2) (division : Bool) (lat : Nat → Nat → Nat) (f : Nat → Nat → Nat → Nat → Nat × Nat)
    (s : State) : State :=
  s.move m (fun t s =>
    let p := s.issueCtx.mul
    let w := widOf sz
    let r := f w p.o.toNat t.toNat p.o2.toNat
    s.send (.scalarAt (s.now + lat w p.o.toNat) (.mul division) (BitVec.ofNat 64 (low w r.1)) (BitVec.ofNat 64 (low w r.2))))

/-- Latency of a multiply (R189). -/
def mulLatency (_ _ : Nat) : Nat := 3

/-- Significant bits of a number. -/
def sigBits (n : Nat) : Nat := if n = 0 then 0 else Nat.log2 n + 1

/-- Latency of an unsigned division (R190). -/
def divnLatency (w o : Nat) : Nat := 10 + 2 * ((sigBits (low w o) + 3) / 4)

/-- Latency of a signed division (R190). -/
def divLatency (w o : Nat) : Nat := 10 + 2 * ((sigBits (sextNat w o).natAbs + 3) / 4)

/-- Low and signed high half of a·b (R189). -/
def mulSigned (w o t _c : Nat) : Nat × Nat :=
  let p := wrapInt (2 * w) (sextNat w o * sextNat w t)
  (p % 2 ^ w, p / 2 ^ w)

/-- Low and unsigned high half of a·b (R189). -/
def mulUnsigned (w o t _c : Nat) : Nat × Nat := (low w o * low w t % 2 ^ w, low w o * low w t / 2 ^ w)

/-- Low and high half of a·b + c, signed (R189). -/
def mulAdd (w o t c : Nat) : Nat × Nat :=
  let p := wrapInt (2 * w) (sextNat w o * sextNat w t + sextNat w c)
  (p % 2 ^ w, p / 2 ^ w)

/-- Unsigned quotient and remainder (R50). -/
def divUnsigned (w o t _c : Nat) : Nat × Nat :=
  if low w t = 0 then (2 ^ w - 1, low w o) else (low w o / low w t, low w o % low w t)

/-- Signed quotient and remainder, toward zero (R50). -/
def divSigned (w o t _c : Nat) : Nat × Nat :=
  if low w t = 0 then (2 ^ w - 1, low w o)
  else (wrapInt w (Int.tdiv (sextNat w o) (sextNat w t)), wrapInt w (Int.tmod (sextNat w o) (sextNat w t)))

/-- The two results the other way about. -/
def swapped (f : Nat → Nat → Nat → Nat → Nat × Nat) (w o t c : Nat) : Nat × Nat := ((f w o t c).2, (f w o t c).1)

/-- MUL (R189). -/
def execMul (m : MoveSrc) (sz : BitVec 2) (s : State) : Host.Outcome State Fault Refusal :=
  .next (s.asBundle (.mul m sz) (mulStart m sz false mulLatency mulSigned))

/-- MULH (R189). -/
def execMulh (m : MoveSrc) (sz : BitVec 2) (s : State) : Host.Outcome State Fault Refusal :=
  .next (s.asBundle (.mulh m sz) (mulStart m sz false mulLatency (swapped mulSigned)))

/-- MULHN (R189). -/
def execMulhn (m : MoveSrc) (sz : BitVec 2) (s : State) : Host.Outcome State Fault Refusal :=
  .next (s.asBundle (.mulhn m sz) (mulStart m sz false mulLatency (swapped mulUnsigned)))

/-- MADD (R189). -/
def execMadd (m : MoveSrc) (sz : BitVec 2) (s : State) : Host.Outcome State Fault Refusal :=
  .next (s.asBundle (.madd m sz) (mulStart m sz false mulLatency mulAdd))

/-- DIV (R190). -/
def execDiv (m : MoveSrc) (sz : BitVec 2) (s : State) : Host.Outcome State Fault Refusal :=
  .next (s.asBundle (.div m sz) (mulStart m sz true divLatency divSigned))

/-- DIVN (R190). -/
def execDivn (m : MoveSrc) (sz : BitVec 2) (s : State) : Host.Outcome State Fault Refusal :=
  .next (s.asBundle (.divn m sz) (mulStart m sz true divnLatency divUnsigned))

/-- REM (R190). -/
def execRem (m : MoveSrc) (sz : BitVec 2) (s : State) : Host.Outcome State Fault Refusal :=
  .next (s.asBundle (.rem m sz) (mulStart m sz true divLatency (swapped divSigned)))

/-- REMN (R190). -/
def execRemn (m : MoveSrc) (sz : BitVec 2) (s : State) : Host.Outcome State Fault Refusal :=
  .next (s.asBundle (.remn m sz) (mulStart m sz true divnLatency (swapped divUnsigned)))

end Sys2Proof.Machine
end

