-- ==== Sys2Proof/Machine/Control.lean ====
section
/-! DEFINITION. Headers and C slots: the successor of a bundle, loop and link stacks, segments, yields, system calls and
the end of a stage (R22, R28, R29, R142 to R147, R193 to R201, R382). -/

namespace Sys2Proof.Machine

/-! ### Checked segments (R382) -/

/-- One step of CRC-16 with polynomial 0x1021, most significant bit first. -/
def crcStep (c : BitVec 16) : BitVec 16 := if c.getLsbD 15 then (c <<< 1) ^^^ 0x1021 else c <<< 1

/-- Feed one byte (R382). -/
def crcByte (c : BitVec 16) (b : Byte) : BitVec 16 :=
  (List.range 8).foldl (fun c _ => crcStep c) (c ^^^ (b.setWidth 16 <<< 8))

/-- Feed a header as its four bytes, lowest first (R382). -/
def crcHeader (c : BitVec 16) (w : W32) : BitVec 16 := (bytesOfWord w).foldl crcByte c

/-! ### Successors -/

/-- Signed displacement in words from the bundle start (R143). -/
def dispTarget (pc : BitVec 30) (n : Nat) (d : BitVec n) : BitVec 30 := pc + (d.signExtend 30 <<< 2)

/-- The bundle that follows in memory (R139). -/
def Issue.fall (u : Issue) : BitVec 30 := u.pc + BitVec.ofNat 30 u.size

/-- Target of a JUMP, BR or CALL: FAR's if the bundle has one (R143). -/
def Issue.target (u : Issue) (d : BitVec 12) : BitVec 30 := u.far.getD (dispTarget u.pc 12 d)

/-- Close the issue of the bundle: the successor, the cycles it is charged, the segment's CRC; a context that now waits
gives up the sequencer (R23, R141, R193). -/
def State.close (s : State) (stall : BitVec 3) (succ : BitVec 30) : State :=
  let u := s.issue
  let s := s.modIssue (fun c =>
    { c with pc := succ, bpc := u.pc, tLast := s.now, stallLast := stall.toNat, nextIssue := s.now + 1 + stall.toNat
             owed := 0, seg := { c.seg with crc := crcHeader c.seg.crc u.hdr } })
  let s := { s with issue := { u with succ := none, far := none } }
  if (s.ctx u.cl u.cx).blocked then s.releaseSeq u.cl u.cx else s

/-- SEQ: PC + size, or the exit that a LOOPG with count zero chose (R142, R196). -/
def seqEffect (st : BitVec 3) (s : State) : State := s.close st (s.issue.succ.getD s.issue.fall)

/-- SEQ (R194). -/
def execSeq (st : BitVec 3) (y : BitVec 1) (p : BitVec 8) (s : State) : Host.Outcome State Fault Refusal :=
  .next (s.asBundle (.seq st y p) (seqEffect st))

/-- JUMP (R143). -/
def execJump (st : BitVec 3) (y : BitVec 1) (p : BitVec 8) (d : BitVec 12) (s : State) :
    Host.Outcome State Fault Refusal :=
  .next (s.asBundle (.jump st y p d) (fun s => s.close st (s.issue.target d)))

/-- A branch is taken: p[COND[14:12]] xor COND[15], as read at issue (R142). -/
def branchTaken (p : BitVec 8) (c : BitVec 4) : Bool := Ctx.pred p (c.extractLsb' 0 3).toNat != c.getLsbD 3

/-- BR (R142). -/
def execBr (st : BitVec 3) (y : BitVec 1) (p : BitVec 8) (c : BitVec 4) (d : BitVec 12) (s : State) :
    Host.Outcome State Fault Refusal :=
  .next (s.asBundle (.br st y p c d) (fun s =>
    s.close st (if branchTaken s.issue.p c then s.issue.target d else s.issue.fall)))

/-- LOOP: go round again, rotating the vector file, or pop and fall through (R144). -/
def loopEffect (st : BitVec 3) (s : State) : State :=
  let c := s.issueCtx
  match c.loops.getLast? with
  | none => s.close st s.issue.fall
  | some e =>
    let d := c.loops.length - 1
    if 1 < e.rem then
      (s.modIssue (fun c => { c with
        loops := c.loops.dropLast ++ [{ e with rem := e.rem - 1 }]
        lx := c.lx.set d (nth c.lx d 0 + 1)
        rrb := c.rrb - 1 })).close st e.start
    else (s.modIssue (fun c => { c with loops := c.loops.dropLast })).close st s.issue.fall

/-- LOOP (R144). -/
def execLoop (st : BitVec 3) (y : BitVec 1) (p : BitVec 8) (s : State) : Host.Outcome State Fault Refusal :=
  .next (s.asBundle (.loop st y p) (loopEffect st))

/-- CALL (R145). -/
def execCall (st : BitVec 3) (y : BitVec 1) (p : BitVec 8) (d : BitVec 12) (s : State) :
    Host.Outcome State Fault Refusal :=
  .next (s.asBundle (.call st y p d) (fun s =>
    (s.modIssue (fun c => { c with links := s.issue.fall :: c.links })).close st (s.issue.target d)))

/-- RET (R145). -/
def execRet (st : BitVec 3) (y : BitVec 1) (p : BitVec 8) (s : State) : Host.Outcome State Fault Refusal :=
  .next (s.asBundle (.ret st y p) (fun s =>
    (s.modIssue (fun c => { c with links := c.links.tail })).close st (s.issueCtx.links.headD s.issue.fall)))

/-- IND (R145). -/
def execInd (st : BitVec 3) (y : BitVec 1) (p : BitVec 8) (g : BitVec 6) (s : State) :
    Host.Outcome State Fault Refusal :=
  .next (s.asBundle (.ind st y p g) (fun s => s.close st ((s.opG g).setWidth 30)))

/-! ### The end of a stage (R28, R29) -/

/-- A stage of a task has ended with a code: tokens of the queues it consumes are discarded (R28, R29). -/
def Task.endStage (t : Task) (stage code : Nat) : Task :=
  { t with ended := if t.ended.contains stage then t.ended else stage :: t.ended, code := Max.max t.code code
           queues := t.queues.map (fun q => if q.consumer = stage then { q with tokens := [] } else q) }

/-- K-slot operations that act outside their context, so that they go on when the stage has ended (R28, R162). -/
def WaitKind.outward : WaitKind → Bool
  | .ctrArw | .qsend | .launch => true
  | .wpwait | .ctrRead | .ctrWait | .fence | .qrecv | .reclaim | .tlbInv => false

/-- What is left of a context whose stage has ended: a wait in the END bundle's own K slot goes on where it acts outside the
context; one that would only deliver to it is over; its shelves are free to others (R28, R162, R267). -/
def Ctx.ended (c : Ctx) : Ctx :=
  { c with
    occ := .ended
    claims := 0
    wait := c.wait.filter (fun w => w.kind.outward)
    accs := c.accs.filter (fun a => !((a.kind == .ctrRead || a.kind == .ctrWait) && c.wait.any (fun w => w.id == a.id)))
    held := none }

/-- END: the stage ends, its context goes to the arbiter, and its outstanding work is completed (R28). -/
def endEffect (st : BitVec 3) (e : BitVec 12) (s : State) : State :=
  let u := s.issue
  let c := s.issueCtx
  let s := s.close st u.fall
  let s := s.releaseSeq u.cl u.cx
  let s := s.modCtx u.cl u.cx Ctx.ended
  let s := s.modTask c.task (fun t => t.endStage c.stage e.toNat)
  s.post (s.now + 1) .taskEnd (EvArg.at u.cl u.cx c.task)

/-- END (R28). -/
def execEndStage (st : BitVec 3) (p : BitVec 8) (e : BitVec 12) (s : State) : Host.Outcome State Fault Refusal :=
  .next (s.asBundle (.endStage st p e) (endEffect st e))

/-! ### C slots (R144, R195 to R201) -/

/-- Push a loop entry and clear its index (R144). -/
def Ctx.pushLoop (c : Ctx) (start : BitVec 30) (n mt : Nat) : Ctx :=
  { c with loops := c.loops ++ [{ start := start, rem := n, max := mt }], lx := c.lx.set c.loops.length 0 }

/-- LOOPI (R195). -/
def execLoopi (n : BitVec 24) (s : State) : Host.Outcome State Fault Refusal :=
  .next (s.asBundle (.loopi n) (fun s => s.modIssue (fun c => c.pushLoop s.issue.fall n.toNat n.toNat)))

/-- LOOPG: a count of zero goes to the exit and pushes nothing (R196). -/
def loopgEffect (g : BitVec 6) (m : BitVec 12) (e : BitVec 10) (s : State) : State :=
  let n := (s.opG g).toNat
  if n = 0 then { s with issue := { s.issue with succ := some (dispTarget s.issue.pc 10 e) } }
  else s.modIssue (fun c => c.pushLoop s.issue.fall n m.toNat)

/-- LOOPG (R196). -/
def execLoopg (g : BitVec 6) (m : BitVec 12) (e : BitVec 10) (s : State) : Host.Outcome State Fault Refusal :=
  .next (s.asBundle (.loopg g m e) (loopgEffect g m e))

/-- LPOP (R198). -/
def execLpop (s : State) : Host.Outcome State Fault Refusal :=
  .next (s.asBundle .lpop (fun s => s.modIssue (fun c => { c with loops := c.loops.dropLast })))

/-- FAR (R200). -/
def execFar (t : BitVec 28) (s : State) : Host.Outcome State Fault Refusal :=
  .next (s.asBundle (.far t) (fun s => { s with issue := { s.issue with far := some (t ++ 0#2) } }))

/-- The segment a yield opens (R22, R147, R199, R382). -/
def yieldSegment (b : BitVec 16) (k : BitVec 1) (ymax : Nat) (x : Option W32) (hdr : W32) : Segment :=
  { count := 0, bound := Min.min b.toNat ymax, rb := b.toNat, chk := k == 1, sig := if k = 1 then (x.getD 0).setWidth 16 else 0
    crc := crcHeader 0xFFFF hdr, tested := false }

/-- YIELD: opens a segment, whose first cycles are the yield bundle's own, and offers the sequencer; its STALL cycles
are owed (R147, R199). It runs in the cycle of the bundle and is ready from the next one on (R324, log 21). -/
def yieldEffect (b : BitVec 16) (k : BitVec 1) (s : State) : State :=
  let u := s.issue
  let ymax := (s.task s.issueCtx).ymax
  let s := s.modIssue (fun c =>
    ({ c with
      seg := yieldSegment b k ymax u.x u.hdr, segAt := s.now, owed := c.stallLast, yielded := !c.blocked
      readyAt := s.now + 1 } : Ctx).chargeHold s.now)
  s.releaseSeq u.cl u.cx

/-- YIELD (R199). -/
def execYield (b : BitVec 16) (k : BitVec 1) (s : State) : Host.Outcome State Fault Refusal :=
  .next (s.asBundle (.yield b k) (yieldEffect b k))

/-- TRAPI: SYSCALL, with the code in the record's address field; the context goes on at the successor (R201). -/
def trapiEffect (code : BitVec 16) (s : State) : State :=
  let u := s.issue
  let c := s.issueCtx
  s.takeTrap u.cl u.cx { s.record c 15 1 c.bpc c.pc with addr := code.setWidth 64 }

/-- TRAPI (R201). -/
def execTrapi (code : BitVec 16) (s : State) : Host.Outcome State Fault Refusal :=
  .next (s.asBundle (.trapi code) (trapiEffect code))

end Sys2Proof.Machine
end

