-- ==== Sys2Proof/Machine/Translate.lean ====
section
/-! DEFINITION. Translation lookaside buffers and table walks (R368 to R371, R374, R375). -/

namespace Sys2Proof.Machine

/-- Fill first-level buffer `i` of a cluster. -/
def State.fillTlb1 (s : State) (cl i : Nat) (e : TlbEntry) : State :=
  s.modCluster cl (fun k => { k with tlbs := k.tlbs.modify i (fun l => tlbAdd (tlbCap i) l e) })

/-- Look an address up for first-level buffer `i` of a cluster: the entry, the cycles of a second-level hit, and the
state with the first level filled (R369, R371). -/
def State.lookup (s : State) (cl i : Nat) (d : BitVec 8) (va : Nat) : Option (TlbEntry × Nat) × State :=
  match tlbFind (nth (s.cluster cl).tlbs i []) d va with
  | some e => (some (e, 0), s)
  | none =>
    match tlbFind (s.frond (cl / 2)).tlb2 d va with
    | some e => (some (e, 20), s.fillTlb1 cl i e)
    | none => (none, s)

/-- Cycles of a walk from a die's stop: 20, and for each entry read the latency of a global read (R371). -/
def State.walkCost (s : State) (t : Nat) (d : BitVec 8) (va : Nat) : Nat :=
  20 + ((s.walk d va).1.map (fun a =>
    (if (s.archive (a / 2 ^ 37)).prefetch.contains (a / 32) then 44 else 284) + 6 * hops t (homeStop a))).foldl (· + ·) 0

/-- Two walks are one: of a die, a domain, an incarnation and a page, both untouched by an invalidation or both met by it
(R370, R373, R375). -/
def EvArg.sameWalk (a b : EvArg) : Bool :=
  a.cl / 2 == b.cl / 2 && a.who.dom == b.who.dom && a.who.inc == b.who.inc && a.m == b.m &&
    a.v.toNat / 2 ^ 16 == b.v.toNat / 2 ^ 16

/-- Two misses at one first-level buffer lie in one block (R370). -/
def EvArg.sameBlock (a b : EvArg) : Bool :=
  a.cl == b.cl && a.n == b.n && a.who.dom == b.who.dom && a.who.inc == b.who.inc && a.m == b.m &&
    a.v.toNat / 2 ^ 29 == b.v.toNat / 2 ^ 29

/-- Cycle in which a new walk of a die can begin: at most 64 run at once, and others wait in arrival order (R370). A walk's
own step carries 1 in `status`, those of the misses it serves besides carry 0. -/
def State.walkFrom (s : State) (die : Nat) : Nat :=
  let ends := (s.agenda.filter (fun p => p.ev == .tableWalk && p.arg.cl / 2 == die && p.arg.status == 1)).map (·.time)
  if ends.length < 64 then s.now else Max.max s.now (nth ends (ends.length - 64) 0)

/-- Post a walk for a requester (`id` and `back` come back to it). A miss to a page that the die already walks, or to the block
that a walk for the same buffer is going to find, ends with that walk (R370, R371). -/
def State.startWalk (s : State) (cl i : Nat) (w : Who) (va : Nat) (k : Walker) (id : Nat) (back : W64) : State :=
  let a : EvArg :=
    { EvArg.zero with cl := cl, n := i, who := w, dom := w.dom, v := BitVec.ofNat 64 va, walker := k, id := id, w := back }
  let block := ((s.walkLeaf w.dom va).map (·.block)).getD false
  match s.agenda.find? (fun p => p.ev == .tableWalk && (p.arg.sameWalk a || (block && p.arg.sameBlock a))) with
  | some p => s.post p.time .tableWalk a
  | none =>
    s.post (s.walkFrom (cl / 2) + s.walkCost (frondStop (cl / 2)) w.dom va) .tableWalk { a with status := 1 }

end Sys2Proof.Machine
end

