-- ==== Sys2Proof/Machine/Waits.lean ====
section
/-! DEFINITION. The beginning and the ends of waits, and the waking of a bundle held on its sources (R122 to R135,
R159, R210). -/

namespace Sys2Proof.Machine

/-- A fault domain's request of a requester is current at a stop (R354). -/
def State.currentWho (s : State) (t : Nat) (w : Who) : Bool := s.current t w.dom w.inc

/-- Count an answer that met no matching tag, by what holds its slot (R356). -/
def State.countUnmatched (s : State) (w : Who) : State :=
  if (s.ctx w.cl (w.cx % 8)).occ = .free ∧ !s.currentWho (clusterStop w.cl) w then s.countStale (clusterStop w.cl) w.dom
  else s.countOrphan (clusterStop w.cl) w.dom

/-- An answer that met no matching tag. Where the slot is free, what holds it is judged at the end of the cycle, in which a
stage may still start there (R356, R363). -/
def State.unmatched (s : State) (c : Ctx) (w : Who) : State :=
  if c.occ = .free then s.post s.now .responseAtSlot { EvArg.zero with n := 9, who := w } else s.countUnmatched w

/-- Everything a held bundle waits for is there (R129, R157, R159). -/
def Ctx.heldReady (c : Ctx) (h : Held) : Bool :=
  h.g.all (fun n => c.full.getLsbD n) && ((c.lq.take h.lq).all (fun e => e.state != .waiting)) &&
    (!h.mul || !c.dividing)

/-- Let a bundle whose sources are all ready go on (R129). -/
def State.wake (s : State) (cl cx : Nat) : State :=
  let c := s.ctx cl cx
  match c.held with
  | none => s
  | some h =>
    if c.heldReady h then
      let s := s.setCtx cl cx { c with held := none, heldEnd := 1, readyAt := s.now }
      if c.parked then s else s.post s.now .arbiterDecide (EvArg.at cl 0 0)
    else s

/-- Fill a register of a context that awaits a result, and wake its bundle (R159). -/
def State.fillReg (s : State) (cl cx n tok : Nat) (v : W64) : State :=
  (s.modCtx cl cx (fun c => c.fillG n tok v)).wake cl cx

/-- End a register's result without a value, and wake its bundle (R129). -/
def State.expireReg (s : State) (cl cx n tok : Nat) : State :=
  (s.modCtx cl cx (fun c => c.expireG n tok)).wake cl cx

/-- Status dword (R127). -/
def statusDword (elapsed detail : Nat) (st : Byte) : W64 :=
  BitVec.ofNat 64 (Min.min elapsed 0xFFFFFFFF * 2 ^ 32 + detail % 2 ^ 20 * 2 ^ 8 + st.toNat)

/-- Statuses that count as an expiry (R126). -/
def isExpiry (st : Byte) : Bool := st == 1 || st == 5 || st == 8 || st == 9

/-- The operation number of a K-slot word (R173). -/
def kop (w : W32) : Nat := (w.extractLsb' 26 6).toNat

/-- Begin a wait for the bundle in issue: destinations are marked empty, the context is blocked, and the deadline is set
(R15, R123, R210). `d` = 0 and the answer-only forms have the allowance of 4,096 cycles. The classes that a fence reports are
read in its deadline cycle (R131). -/
def State.startWait (s : State) (kind : WaitKind) (kword : W32) (gc : BitVec 6) (gval : Option Nat) (d : Nat)
    (ops : List W64) (esc : Bool) (scope : BitVec 2) : State :=
  let u := s.issue
  let c := s.issueCtx
  let id := s.uid
  let w : Wait :=
    { id := id, kind := kind, kword := kword, s0 := (c.ccy s.now).toNat, d := d, gc := gc.toNat, gval := gval
      tokC := id, tokV := id + 1, ops := ops, esc := esc, scope := scope, bpc := u.pc
      covers := s.earlier u.cl u.cx, upto := c.scc, cancelSent := false, reset := false, arr := 0, rstat := none
      rval := 0, mask := none
      deadline := s.now + (if d = 0 then 4096 else d), sent := false }
  let s := { s with uid := id + 2 }
  let s := s.modIssue (fun c =>
    let c := { (c.emptyG gc.toNat id) with wait := some w }
    match gval with
    | some r => c.emptyG r (id + 1)
    | none => c)
  let s := if kind = .fence then s.post w.deadline .waitDeadlineExpire { EvArg.at u.cl u.cx id with n := 1 } else s
  s.post (w.deadline + 1) .waitDeadlineExpire (EvArg.at u.cl u.cx id)

/-- Send the request of a tlb.inv to its cluster's buffers at cycle 6; it says whether its condition is evaluated only once (R123,
R210, R372). -/
def State.sendTlbInv (s : State) (cl cx : Nat) (w : Wait) (who : Who) : State :=
  s.post (s.now + 6) .tlbInvAtTlb
    { EvArg.at cl cx w.id with
      who := who, v := nth w.ops 0 0, w := nth w.ops 1 0, m := (w.kword.extractLsb' 0 3).toNat, value := w.bpc.setWidth 128
      target := { who := who, target := if w.d = 0 then 1 else 0, image := 0, cctr := 0, after := w.covers } }

/-- What remains of the access of a wait that has ended: the add of a ctr.arw whose performing was never learnt is still
outstanding, as a posted add (R108, R130). -/
def Access.leave (a : Access) (st : Byte) : Option Access :=
  if st = 6 ∧ a.kind = .ctrArw ∧ !a.performed then some { a with kind := .ctrAdd } else none

/-- The accesses of a context without that of a wait. -/
def Ctx.accsAfter (c : Ctx) (id : Nat) (st : Byte) : List Access :=
  c.accs.filterMap (fun a => if a.id = id then a.leave st else some a)

/-- End the wait of a context with a status: the status dword, s.stat, the value register, the expiry count and the
escalation (R125, R127, R129, R133, R134). A parked context stays parked; a context under eviction keeps an OK, a RESET or an
INDETERMINATE for its restore, and whether its ctr.arw had arrived (R135, log 52); a stage that has issued END takes no status
(R28). -/
def State.endWait (s : State) (cl cx : Nat) (st : Byte) (detail : Nat) (val : W64) : State :=
  let c := s.ctx cl cx
  match c.wait with
  | none => s
  | some w =>
    if c.occ = .ended then s.setCtx cl cx { c with wait := none, accs := c.accsAfter w.id st }
    else if c.occ = .evicting then
      s.setCtx cl cx { c with
        accs := if st = 6 then c.accs.filter (fun a => a.id != w.id) else c.accs
        wait := some { w with
          rstat := if (st = 0 ∨ st = 2 ∨ st = 6) ∧ w.kind ≠ .ctrRead then some st else w.rstat
          rval := if st = 0 then val else w.rval
          arr := if st = 8 then 1 else if st = 9 then 2 else w.arr } }
    else
      let elapsed := (c.ccy s.now).toNat - w.s0
      let c := { c with
        wait := none, stat := st, accs := c.accsAfter w.id st, nextIssue := Max.max c.nextIssue (s.now + 1), readyAt := s.now }
      let c := c.fillG w.gc w.tokC (statusDword elapsed detail st)
      let c := match w.gval with
        | some r => if st = 0 then c.fillG r w.tokV val else c.expireG r w.tokV
        | none => c
      let s := s.setCtx cl cx c
      let r := if isExpiry st then s.noteExpiry cl cx else (s, false)
      if isExpiry st && (w.esc || r.2) then
        let c := r.1.ctx cl cx
        r.1.takeTrap cl cx { r.1.record c 12 7 w.bpc c.pc with ord := w.id, engine := 5, esw := st.setWidth 64 }
      else if c.parked then r.1
      else r.1.post s.now .arbiterDecide (EvArg.at cl 0 0)

/-- MDL_EXPIRE: the s.mdl bound of a held bundle has passed, so it issues at once, or raises EMPTY where a wide operand
is missing (R129, R159). The bound runs while the context is parked, as a wait's does, and not while it is evicted (R330,
R334). -/
def mdlExpireEffect (s : State) : State :=
  let cl := s.ev.cl
  let cx := s.ev.cx
  let c := s.ctx cl cx
  match c.held with
  | some h =>
    if c.occ = .resident ∧ h.since + h.budget < s.now then
      let s := s.setCtx cl cx { c with held := none, heldEnd := 2, readyAt := s.now }
      if c.parked then s else s.post s.now .arbiterDecide (EvArg.at cl 0 0)
    else s
  | none => s

/-- MDL_EXPIRE (R129). -/
def execMdlExpire (s : State) : Host.Outcome State Fault Refusal := .next (mdlExpireEffect s)

end Sys2Proof.Machine
end

