-- ==== Sys2Proof/Machine/Lsu.lean ====
section
/-! DEFINITION. The LSU: triggers, the way of an access to its home point and back, loads that expire, deferred faults,
table walks (R86, R87, R97 to R107, R114, R128, R202 to R209, R321, R355, R356, R370, R375). -/

namespace Sys2Proof.Machine

/-! ### Triggers (R202 to R208) -/

/-- Byte range of an access without translation: scratchpad and staging keys; none in space 00 (R78, R82). -/
def localPiece (t : Task) (cl : Nat) (a : W64) (n : Nat) : List Piece :=
  match space a with
  | 0 => []
  | 1 => [{ pa := scratchKey cl (addrCore a) (physOff t a), len := n, leaf := 0 }]
  | 2 => [{ pa := scratchKey (addrCl a) (addrCore a) (addrOff a), len := n, leaf := 0 }]
  | _ => [{ pa := stagingKey (wbits a 30 24) (wbits a 23 0), len := n, leaf := 0 }]

/-- Add an access to the context in issue and send it on its way at a cycle. -/
def State.addAccess (s : State) (a : Access) (t : Nat) : State :=
  (s.modIssue (fun c => { c with accs := c.accs ++ [a] })).post t .requestLeavesCluster
    (EvArg.at s.issue.cl s.issue.cx a.id)

/-- Trigger the LSU on the values of its ports: loads and returning atomics take load-queue entries and a deadline
(R158, R202, R203); a pf outside space 00 does nothing (R79). -/
def lsuTrigger (m : MoveSrc) (k : AccKind) (n : Nat) (o : Order) (s : State) : State :=
  s.move m (fun t s =>
    let u := s.issue
    let c := s.issueCtx
    let ea := c.lsu.o + t
    if k = .pf ∧ (space ea ≠ 0 ∨ !addrReservedOk ea) then s
    else
      let id := s.uid
      let d := wbits c.lsu.dl 31 0
      let dl := if d = 0 then 4096 else d
      let a : Access :=
        { id := id, kind := k, order := o, scope := c.lsu.sc.setWidth 2, va := ea, size := n
          data := if n = 16 ∧ k = .store then c.lsu.hi ++ c.lsu.o2 else c.lsu.o2.setWidth 128
          cmp := c.lsu.cmp, who := c.who u.cl u.cx, task := c.task, bpc := u.pc, slot := u.slot, s0 := s.now
          dl := s.now + dl, esc := c.lsu.dl.getLsbD 32, token := none
          pieces := localPiece (s.task c) u.cl ea n, left := false, performed := false, answered := false }
      let entry (h : Nat) : LqEntry := { id := id, half := h, state := .waiting, value := 0, esc := a.esc }
      let s := { s with uid := id + 1 }
      let s := s.modIssue (fun c => { c with lq := c.lq ++ (List.range k.entries).map entry })
      let s := s.addAccess a s.now
      if k.entries = 0 then s else s.post (s.now + dl + 1) .loadExpire (EvArg.at u.cl u.cx id))

/-- LD_I8 (R204). -/
def execLdI8 (m : MoveSrc) (o : BitVec 1) (s : State) : Host.Outcome State Fault Refusal :=
  .next (s.asBundle (.ldI8 m o) (lsuTrigger m (.load 1 true) 1 (if o = 1 then .acquire else .plain)))

/-- LD_N8 (R204). -/
def execLdN8 (m : MoveSrc) (o : BitVec 1) (s : State) : Host.Outcome State Fault Refusal :=
  .next (s.asBundle (.ldN8 m o) (lsuTrigger m (.load 1 false) 1 (if o = 1 then .acquire else .plain)))

/-- LD_I16 (R204). -/
def execLdI16 (m : MoveSrc) (o : BitVec 1) (s : State) : Host.Outcome State Fault Refusal :=
  .next (s.asBundle (.ldI16 m o) (lsuTrigger m (.load 2 true) 2 (if o = 1 then .acquire else .plain)))

/-- LD_N16 (R204). -/
def execLdN16 (m : MoveSrc) (o : BitVec 1) (s : State) : Host.Outcome State Fault Refusal :=
  .next (s.asBundle (.ldN16 m o) (lsuTrigger m (.load 2 false) 2 (if o = 1 then .acquire else .plain)))

/-- LD_I32 (R204). -/
def execLdI32 (m : MoveSrc) (o : BitVec 1) (s : State) : Host.Outcome State Fault Refusal :=
  .next (s.asBundle (.ldI32 m o) (lsuTrigger m (.load 4 true) 4 (if o = 1 then .acquire else .plain)))

/-- LD_N32 (R204). -/
def execLdN32 (m : MoveSrc) (o : BitVec 1) (s : State) : Host.Outcome State Fault Refusal :=
  .next (s.asBundle (.ldN32 m o) (lsuTrigger m (.load 4 false) 4 (if o = 1 then .acquire else .plain)))

/-- LD_64 (R204). -/
def execLd64 (m : MoveSrc) (o : BitVec 1) (s : State) : Host.Outcome State Fault Refusal :=
  .next (s.asBundle (.ld64 m o) (lsuTrigger m (.load 8 false) 8 (if o = 1 then .acquire else .plain)))

/-- LD_128 (R204). -/
def execLd128 (m : MoveSrc) (o : BitVec 1) (s : State) : Host.Outcome State Fault Refusal :=
  .next (s.asBundle (.ld128 m o) (lsuTrigger m (.load 16 false) 16 (if o = 1 then .acquire else .plain)))

/-- ST_8 (R205). -/
def execSt8 (m : MoveSrc) (o : BitVec 1) (s : State) : Host.Outcome State Fault Refusal :=
  .next (s.asBundle (.st8 m o) (lsuTrigger m .store 1 (if o = 1 then .release else .plain)))

/-- ST_16 (R205). -/
def execSt16 (m : MoveSrc) (o : BitVec 1) (s : State) : Host.Outcome State Fault Refusal :=
  .next (s.asBundle (.st16 m o) (lsuTrigger m .store 2 (if o = 1 then .release else .plain)))

/-- ST_32 (R205). -/
def execSt32 (m : MoveSrc) (o : BitVec 1) (s : State) : Host.Outcome State Fault Refusal :=
  .next (s.asBundle (.st32 m o) (lsuTrigger m .store 4 (if o = 1 then .release else .plain)))

/-- ST_64 (R205). -/
def execSt64 (m : MoveSrc) (o : BitVec 1) (s : State) : Host.Outcome State Fault Refusal :=
  .next (s.asBundle (.st64 m o) (lsuTrigger m .store 8 (if o = 1 then .release else .plain)))

/-- ST_128 (R205). -/
def execSt128 (m : MoveSrc) (o : BitVec 1) (s : State) : Host.Outcome State Fault Refusal :=
  .next (s.asBundle (.st128 m o) (lsuTrigger m .store 16 (if o = 1 then .release else .plain)))

/-- PF (R208). -/
def execPf (m : MoveSrc) (s : State) : Host.Outcome State Fault Refusal :=
  .next (s.asBundle (.pf m) (lsuTrigger m .pf 1 .plain))

/-- A_ADD_32 (R206). -/
def execAAdd32 (m : MoveSrc) (o : BitVec 2) (s : State) : Host.Outcome State Fault Refusal :=
  .next (s.asBundle (.aAdd32 m o) (lsuTrigger m (.atomic .add) 4 (orderOf o)))

/-- A_AND_32 (R206). -/
def execAAnd32 (m : MoveSrc) (o : BitVec 2) (s : State) : Host.Outcome State Fault Refusal :=
  .next (s.asBundle (.aAnd32 m o) (lsuTrigger m (.atomic .and) 4 (orderOf o)))

/-- A_OR_32 (R206). -/
def execAOr32 (m : MoveSrc) (o : BitVec 2) (s : State) : Host.Outcome State Fault Refusal :=
  .next (s.asBundle (.aOr32 m o) (lsuTrigger m (.atomic .or) 4 (orderOf o)))

/-- A_XOR_32 (R206). -/
def execAXor32 (m : MoveSrc) (o : BitVec 2) (s : State) : Host.Outcome State Fault Refusal :=
  .next (s.asBundle (.aXor32 m o) (lsuTrigger m (.atomic .xor) 4 (orderOf o)))

/-- A_MIN_32 (R206). -/
def execAMin32 (m : MoveSrc) (o : BitVec 2) (s : State) : Host.Outcome State Fault Refusal :=
  .next (s.asBundle (.aMin32 m o) (lsuTrigger m (.atomic .min) 4 (orderOf o)))

/-- A_MAX_32 (R206). -/
def execAMax32 (m : MoveSrc) (o : BitVec 2) (s : State) : Host.Outcome State Fault Refusal :=
  .next (s.asBundle (.aMax32 m o) (lsuTrigger m (.atomic .max) 4 (orderOf o)))

/-- A_MINN_32 (R206). -/
def execAMinn32 (m : MoveSrc) (o : BitVec 2) (s : State) : Host.Outcome State Fault Refusal :=
  .next (s.asBundle (.aMinn32 m o) (lsuTrigger m (.atomic .minn) 4 (orderOf o)))

/-- A_MAXN_32 (R206). -/
def execAMaxn32 (m : MoveSrc) (o : BitVec 2) (s : State) : Host.Outcome State Fault Refusal :=
  .next (s.asBundle (.aMaxn32 m o) (lsuTrigger m (.atomic .maxn) 4 (orderOf o)))

/-- A_SWAP_32 (R206). -/
def execASwap32 (m : MoveSrc) (o : BitVec 2) (s : State) : Host.Outcome State Fault Refusal :=
  .next (s.asBundle (.aSwap32 m o) (lsuTrigger m (.atomic .swap) 4 (orderOf o)))

/-- A_CAS_32 (R206). -/
def execACas32 (m : MoveSrc) (o : BitVec 2) (s : State) : Host.Outcome State Fault Refusal :=
  .next (s.asBundle (.aCas32 m o) (lsuTrigger m (.atomic .cas) 4 (orderOf o)))

/-- A_ADD_64 (R206). -/
def execAAdd64 (m : MoveSrc) (o : BitVec 2) (s : State) : Host.Outcome State Fault Refusal :=
  .next (s.asBundle (.aAdd64 m o) (lsuTrigger m (.atomic .add) 8 (orderOf o)))

/-- A_AND_64 (R206). -/
def execAAnd64 (m : MoveSrc) (o : BitVec 2) (s : State) : Host.Outcome State Fault Refusal :=
  .next (s.asBundle (.aAnd64 m o) (lsuTrigger m (.atomic .and) 8 (orderOf o)))

/-- A_OR_64 (R206). -/
def execAOr64 (m : MoveSrc) (o : BitVec 2) (s : State) : Host.Outcome State Fault Refusal :=
  .next (s.asBundle (.aOr64 m o) (lsuTrigger m (.atomic .or) 8 (orderOf o)))

/-- A_XOR_64 (R206). -/
def execAXor64 (m : MoveSrc) (o : BitVec 2) (s : State) : Host.Outcome State Fault Refusal :=
  .next (s.asBundle (.aXor64 m o) (lsuTrigger m (.atomic .xor) 8 (orderOf o)))

/-- A_MIN_64 (R206). -/
def execAMin64 (m : MoveSrc) (o : BitVec 2) (s : State) : Host.Outcome State Fault Refusal :=
  .next (s.asBundle (.aMin64 m o) (lsuTrigger m (.atomic .min) 8 (orderOf o)))

/-- A_MAX_64 (R206). -/
def execAMax64 (m : MoveSrc) (o : BitVec 2) (s : State) : Host.Outcome State Fault Refusal :=
  .next (s.asBundle (.aMax64 m o) (lsuTrigger m (.atomic .max) 8 (orderOf o)))

/-- A_MINN_64 (R206). -/
def execAMinn64 (m : MoveSrc) (o : BitVec 2) (s : State) : Host.Outcome State Fault Refusal :=
  .next (s.asBundle (.aMinn64 m o) (lsuTrigger m (.atomic .minn) 8 (orderOf o)))

/-- A_MAXN_64 (R206). -/
def execAMaxn64 (m : MoveSrc) (o : BitVec 2) (s : State) : Host.Outcome State Fault Refusal :=
  .next (s.asBundle (.aMaxn64 m o) (lsuTrigger m (.atomic .maxn) 8 (orderOf o)))

/-- A_SWAP_64 (R206). -/
def execASwap64 (m : MoveSrc) (o : BitVec 2) (s : State) : Host.Outcome State Fault Refusal :=
  .next (s.asBundle (.aSwap64 m o) (lsuTrigger m (.atomic .swap) 8 (orderOf o)))

/-- A_CAS_64 (R206). -/
def execACas64 (m : MoveSrc) (o : BitVec 2) (s : State) : Host.Outcome State Fault Refusal :=
  .next (s.asBundle (.aCas64 m o) (lsuTrigger m (.atomic .cas) 8 (orderOf o)))

/-- RED_ADD_32 (R207). -/
def execRedAdd32 (m : MoveSrc) (o : BitVec 1) (s : State) : Host.Outcome State Fault Refusal :=
  .next (s.asBundle (.redAdd32 m o) (lsuTrigger m (.red .add) 4 (if o = 1 then .release else .plain)))

/-- RED_AND_32 (R207). -/
def execRedAnd32 (m : MoveSrc) (o : BitVec 1) (s : State) : Host.Outcome State Fault Refusal :=
  .next (s.asBundle (.redAnd32 m o) (lsuTrigger m (.red .and) 4 (if o = 1 then .release else .plain)))

/-- RED_OR_32 (R207). -/
def execRedOr32 (m : MoveSrc) (o : BitVec 1) (s : State) : Host.Outcome State Fault Refusal :=
  .next (s.asBundle (.redOr32 m o) (lsuTrigger m (.red .or) 4 (if o = 1 then .release else .plain)))

/-- RED_XOR_32 (R207). -/
def execRedXor32 (m : MoveSrc) (o : BitVec 1) (s : State) : Host.Outcome State Fault Refusal :=
  .next (s.asBundle (.redXor32 m o) (lsuTrigger m (.red .xor) 4 (if o = 1 then .release else .plain)))

/-- RED_MIN_32 (R207). -/
def execRedMin32 (m : MoveSrc) (o : BitVec 1) (s : State) : Host.Outcome State Fault Refusal :=
  .next (s.asBundle (.redMin32 m o) (lsuTrigger m (.red .min) 4 (if o = 1 then .release else .plain)))

/-- RED_MAX_32 (R207). -/
def execRedMax32 (m : MoveSrc) (o : BitVec 1) (s : State) : Host.Outcome State Fault Refusal :=
  .next (s.asBundle (.redMax32 m o) (lsuTrigger m (.red .max) 4 (if o = 1 then .release else .plain)))

/-- RED_MINN_32 (R207). -/
def execRedMinn32 (m : MoveSrc) (o : BitVec 1) (s : State) : Host.Outcome State Fault Refusal :=
  .next (s.asBundle (.redMinn32 m o) (lsuTrigger m (.red .minn) 4 (if o = 1 then .release else .plain)))

/-- RED_MAXN_32 (R207). -/
def execRedMaxn32 (m : MoveSrc) (o : BitVec 1) (s : State) : Host.Outcome State Fault Refusal :=
  .next (s.asBundle (.redMaxn32 m o) (lsuTrigger m (.red .maxn) 4 (if o = 1 then .release else .plain)))

/-- RED_ADD_64 (R207). -/
def execRedAdd64 (m : MoveSrc) (o : BitVec 1) (s : State) : Host.Outcome State Fault Refusal :=
  .next (s.asBundle (.redAdd64 m o) (lsuTrigger m (.red .add) 8 (if o = 1 then .release else .plain)))

/-- RED_AND_64 (R207). -/
def execRedAnd64 (m : MoveSrc) (o : BitVec 1) (s : State) : Host.Outcome State Fault Refusal :=
  .next (s.asBundle (.redAnd64 m o) (lsuTrigger m (.red .and) 8 (if o = 1 then .release else .plain)))

/-- RED_OR_64 (R207). -/
def execRedOr64 (m : MoveSrc) (o : BitVec 1) (s : State) : Host.Outcome State Fault Refusal :=
  .next (s.asBundle (.redOr64 m o) (lsuTrigger m (.red .or) 8 (if o = 1 then .release else .plain)))

/-- RED_XOR_64 (R207). -/
def execRedXor64 (m : MoveSrc) (o : BitVec 1) (s : State) : Host.Outcome State Fault Refusal :=
  .next (s.asBundle (.redXor64 m o) (lsuTrigger m (.red .xor) 8 (if o = 1 then .release else .plain)))

/-- RED_MIN_64 (R207). -/
def execRedMin64 (m : MoveSrc) (o : BitVec 1) (s : State) : Host.Outcome State Fault Refusal :=
  .next (s.asBundle (.redMin64 m o) (lsuTrigger m (.red .min) 8 (if o = 1 then .release else .plain)))

/-- RED_MAX_64 (R207). -/
def execRedMax64 (m : MoveSrc) (o : BitVec 1) (s : State) : Host.Outcome State Fault Refusal :=
  .next (s.asBundle (.redMax64 m o) (lsuTrigger m (.red .max) 8 (if o = 1 then .release else .plain)))

/-- RED_MINN_64 (R207). -/
def execRedMinn64 (m : MoveSrc) (o : BitVec 1) (s : State) : Host.Outcome State Fault Refusal :=
  .next (s.asBundle (.redMinn64 m o) (lsuTrigger m (.red .minn) 8 (if o = 1 then .release else .plain)))

/-- RED_MAXN_64 (R207). -/
def execRedMaxn64 (m : MoveSrc) (o : BitVec 1) (s : State) : Host.Outcome State Fault Refusal :=
  .next (s.asBundle (.redMaxn64 m o) (lsuTrigger m (.red .maxn) 8 (if o = 1 then .release else .plain)))

/-! ### Order within a context (R97, R104, R106) -/

/-- Two pieces share a byte. -/
def Piece.meets (p q : Piece) : Bool := decide (p.pa < q.pa + q.len) && decide (q.pa < p.pa + p.len)

/-- A piece of an access is an acquire: on a page of class SO an access without an annotation takes one, on a page of class UN
it has none (R104, R106, R107, R111). -/
def Access.acquiresOn (a : Access) (p : Piece) : Bool :=
  match a.kind with
  | .load _ _ | .atomic _ =>
    !leafUN p.leaf && (a.order == .acquire || a.order == .acqRel || (a.order == .plain && leafSO p.leaf))
  | .ctrRead | .ctrWait | .ctrArw => true
  | _ => false

/-- A piece of an access is a release (R104, R106, R107, R111). -/
def Access.releasesOn (a : Access) (p : Piece) : Bool :=
  match a.kind with
  | .store | .red _ | .atomic _ =>
    !leafUN p.leaf && (a.order == .release || a.order == .acqRel || (a.order == .plain && leafSO p.leaf))
  | .ctrAdd | .ctrMax | .ctrArw => true
  | _ => false

/-- Some piece of an access is an acquire. -/
def Access.acquires (a : Access) : Bool :=
  match a.kind with
  | .load _ _ | .atomic _ => a.pieces.any a.acquiresOn
  | .ctrRead | .ctrWait | .ctrArw => true
  | _ => false

/-- Some piece of an access is a release. -/
def Access.releases (a : Access) : Bool :=
  match a.kind with
  | .store | .red _ | .atomic _ => a.pieces.any a.releasesOn
  | .ctrAdd | .ctrMax | .ctrArw => true
  | _ => false

/-- An earlier access `e` must be performed before `a`: they share a byte, `a` releases, `e` acquires, or `e` is not yet
translated, so that its class and place are unknown (log 5). A load that has expired is an acquire no more (R113). -/
def Access.before (e a : Access) : Bool :=
  !e.performed && e.kind != .pf && a.kind != .pf && decide (e.id < a.id) &&
    (a.releases || (e.acquires && !e.answered) || e.pieces.isEmpty || e.pieces.any (fun p => a.pieces.any (fun q => p.meets q)))

/-- An access waits for an earlier one of its context. -/
def Ctx.blocks (c : Ctx) (a : Access) : Bool := c.accs.any (fun e => e.before a)

/-- An access waits for the rows of earlier V-slot accesses of its context: for those on its core where it goes to the
cluster's scratchpad, for all where it is a release (R98, R104). -/
def State.behindRows (s : State) (cl cx : Nat) (a : Access) : Bool :=
  (s.cluster cl).rows.any (fun j =>
    j.cx == cx && decide (j.id < a.id) && !j.over s.now &&
      (a.releases || a.pieces.any (fun p => decide (2 ^ 49 ≤ p.pa) && (p.pa - 2 ^ 49) / 2 ^ 21 == 4 * cl + j.core)))

/-- An access is not yet to be performed, by the order of its context. -/
def State.held (s : State) (cl cx : Nat) (a : Access) : Bool := (s.ctx cl cx).blocks a || s.behindRows cl cx a

/-! ### Failing and finishing -/

/-- Note a failure of a task; the codes of R126 (R28). -/
def State.failTask (s : State) (uid code : Nat) : State := s.modTask uid (fun t => { t with fail := code :: t.fail })

/-- Drop an access from its context: nothing of it remains. -/
def State.dropAccess (s : State) (cl cx id : Nat) : State :=
  s.modCtx cl cx (fun c => { c with accs := c.accs.filter (fun a => a.id != id) })

/-- An access that an answer ends: a load, a returning atomic, a counter wait or read, a counter operation with RET. -/
def Access.answers (a : Access) : Bool :=
  match a.kind with
  | .load _ _ | .atomic _ | .ctrRead | .ctrWait | .ctrArw => true
  | .ctrAdd | .ctrMax => a.token.isSome
  | _ => false

/-- Mark an access performed; one that awaits no answer is then over (R103, R203). -/
def State.performed (s : State) (cl cx id : Nat) : State :=
  s.modCtx cl cx (fun c => { c with
    accs := (c.accs.map (fun a => if a.id = id then { a with performed := true, left := true } else a)).filter
      (fun a => a.id != id || (a.answers && !a.answered)) })

/-- A stale access is dropped at a stop: counted, never performed; a load or a returning atomic then expires at its
deadline (R355). -/
def State.dropAt (s : State) (cl cx t : Nat) (a : Access) (addr : Nat) : State :=
  let s := s.dropStale t a.who.dom a.who.inc addr
  if a.kind.entries = 0 ∨ (s.ctx cl cx).occ = .ended then s.dropAccess cl cx a.id else s.performed cl cx a.id

/-- Mark the load-queue entries of an access, each half in its own state, and free the places of popped ones (R128, R129, R204,
R209). -/
def Ctx.markLq (c : Ctx) (id : Nat) (st : Nat → LqState) (v : BitVec 128) : Ctx :=
  { c with
    lq := c.lq.map (fun e =>
      if e.id = id ∧ e.state = .waiting then { e with state := st e.half, value := v.extractLsb' (64 * e.half) 64 } else e)
    ghosts := c.ghosts.filter (· != id) }

/-- Send a deferred fault of an access on to its context (R209). -/
def State.deferFault (s : State) (a : Access) (cls : Nat) : State :=
  s.post s.now .deferredFault { EvArg.at a.who.cl a.who.cx a.id with n := cls, who := a.who }

/-- Send a deferred fault of a K-slot operation that is no access, to be met at a cycle: class, engine status word,
address, the bundle it names and the register it was to fill (R209, R314, R359). -/
def State.deferK (s : State) (t : Nat) (w : Who) (cls : Nat) (esw addr : W64) (bpc : BitVec 30) (reg tok : Nat) : State :=
  s.post t .deferredFault
    { EvArg.at w.cl w.cx 0 with n := cls, who := w, v := addr, w := esw, value := bpc.setWidth 128, m := 64 * tok + reg }

/-- DEFERRED_FAULT: the access is not performed, its load-queue entries are denied, its register expires, its wait ends
DENIED, and the context takes the trap at this boundary (R209). A stage that has issued END fails with its task (R28). -/
def deferredFaultEffect (s : State) : State :=
  let e := s.ev
  let c := s.ctx e.cl e.cx
  if !c.tagged e.who then s.unmatched c e.who
  else
    let a := c.accs.find? (fun a => a.id == e.id)
    let s := if e.id = 0 then s else s.dropAccess e.cl e.cx e.id
    let s := s.modCtx e.cl e.cx (fun c => c.markLq e.id (fun _ => .denied) 0)
    if c.occ = .ended then (if c.parked then s else s.failTask c.task 7)
    else
      let s := match a with
        | some a =>
          (match a.token with
            | some t => s.expireReg e.cl e.cx (t % 64) (t / 64)
            | none => s)
        | none => if e.m = 0 then s else s.expireReg e.cl e.cx (e.m % 64) (e.m / 64)
      let waits : Bool := match c.wait with
        | some w => if e.id = 0 then e.status == 1 else w.id == e.id
        | none => false
      let cause := (c.wait.map (·.id)).getD 0
      let s := if waits = true then s.endWait e.cl e.cx 7 0 0 else s
      let s := s.modCtx e.cl e.cx (fun c => { c with hold := none })
      let s := s.wake e.cl e.cx
      let c := s.ctx e.cl e.cx
      let r := match a with
        | some a =>
          { s.record c e.n a.slot.toNat a.bpc c.pc with ord := a.id, engine := if a.kind.counter then 5 else 1, addr := a.va }
        | none =>
          { s.record c e.n 7 (e.value.setWidth 30) c.pc with
            ord := if waits then cause else if e.m = 0 then s.uid else e.m / 64
            engine := 5, addr := e.v, esw := e.w }
      s.takeTrap e.cl e.cx r

/-- DEFERRED_FAULT (R209). -/
def execDeferredFault (s : State) : Host.Outcome State Fault Refusal := .next (deferredFaultEffect s)

/-- LOAD_EXPIRE: no answer came by the deadline, so the entries are expired (R128). -/
def loadExpireEffect (s : State) : State :=
  let e := s.ev
  let c := s.ctx e.cl e.cx
  if c.accs.any (fun a => a.id == e.id && !a.answered) then
    let c : Ctx := { c with
      accs := (c.accs.map (fun a => if a.id = e.id then { a with answered := true } else a)).filter
        (fun a => a.id != e.id || !a.performed) }
    (s.setCtx e.cl e.cx (c.markLq e.id (fun _ => .expired) 0)).wake e.cl e.cx
  else s

/-- LOAD_EXPIRE (R128). -/
def execLoadExpire (s : State) : Host.Outcome State Fault Refusal := .next (loadExpireEffect s)

/-! ### Leaving the cluster (R203, R355, R368 to R375) -/

/-- The pages of a space-00 access: address and length of each part (R107). -/
def pageParts (va n : Nat) : List (Nat × Nat) :=
  let m := Min.min n (2 ^ 16 - va % 2 ^ 16)
  if m = n then [(va, n)] else [(va, m), (va + m, n - m)]

/-- A task's packet uses staged commit (R25, R321). -/
def State.staging (s : State) (t : Nat) : Bool :=
  match NMap.get? s.tasks t with
  | some t => ((NMap.get? s.packets t.pkt).map (fun p => p.ctl.getLsbD 0)).getD false
  | none => false

/-- A leaf allows an access of a kind (R94, R321, R368). -/
def leafAllows (k : AccKind) (user staging : Bool) (e : W64) : Bool :=
  let u := !user || leafU e
  let sc := staging && leafSC e
  match k with
  | .load _ _ | .pf => u && leafR e
  | .store => u && leafW e && !leafC e
  | .red _ => u && leafW e && !leafC e
  | .atomic _ => u && leafR e && leafW e && !leafC e && !sc
  | .ctrRead | .ctrWait => u && leafR e && leafC e && !sc
  | .ctrAdd | .ctrMax | .ctrArw | .ctrReset => u && leafW e && leafC e && !sc

/-- Every byte of a piece lies in LPDDR, in a window, or in staging or a scratchpad (R364, R420). -/
def State.reaches (s : State) (p : Piece) : Bool :=
  decide (2 ^ 48 ≤ p.pa) || inWindow p.pa || s.inLpddrN p.pa p.len

/-- Cycles from the cluster to the home of a key and back (R87): request half, answer half. -/
def State.trip (s : State) (cl : Nat) (a : Access) : Nat × Nat :=
  match a.pieces with
  | [] => (0, 0)
  | p :: r =>
    if a.kind.counter && inWindow p.pa then (22 + 3 * hops (clusterStop cl) (archiveStop (leafHome p.leaf)), 0)
    else if 2 ^ 49 ≤ p.pa then
      let h := hops (clusterStop cl) (homeStop p.pa)
      if (p.pa - 2 ^ 49) / 2 ^ 23 = cl then (7, 7) else (25 + 3 * h, 25 + 3 * h)
    else
      let h := (p :: r).foldl (fun m q => Max.max m (hops (clusterStop cl) (homeStop q.pa))) 0
      let buffered := (p :: r).all (fun q =>
        decide (2 ^ 48 ≤ q.pa) || (sectorsOf q.pa q.len).all (fun x => ((s.archive (q.pa / 2 ^ 37)).prefetch.contains x)))
      let fast := match a.kind with
        | .atomic _ => decide (2 ^ 48 ≤ p.pa)
        | .red _ | .store | .pf => true
        | _ => buffered
      (22 + 3 * h, if fast then 22 + 3 * h else 262 + 3 * h)

/-- Continue an access with its pieces found: refusals of the pages, the check at the cluster's stop, the request on
its way to its home or to a Tirel window; a counter behind a window is first the concern of the home agent that the leaf
names (R82, R203, R355, R368, R401). -/
def State.depart (s : State) (a : Access) : State :=
  let cl := a.who.cl
  let cx := a.who.cx
  let bad := a.va.toNat < 2 ^ 62 && a.pieces.any (fun p =>
    !leafAllows a.kind a.who.user (s.staging a.task) p.leaf)
  if bad then (if a.kind = .pf then s.dropAccess cl cx a.id else s.deferFault a 5)
  else if a.pieces.any (fun p => !s.reaches p) then
    (if a.kind = .pf then s.dropAccess cl cx a.id else s.deferFault a 4)
  else
    let own := a.pieces.all (fun p => decide (2 ^ 49 ≤ p.pa) && decide ((p.pa - 2 ^ 49) / 2 ^ 23 = cl))
    if !own && !s.currentWho (clusterStop cl) a.who then
      s.dropAt cl cx (clusterStop cl) a a.va.toNat
    else
      let s := s.modCtx cl cx (fun c =>
        { c with accs := c.accs.map (fun e => if e.id = a.id then { e with left := !own } else e) })
      let t := s.now + (s.trip cl a).1
      if a.kind.counter then s.post t .counterOpAtHome { EvArg.at cl cx a.id with who := a.who }
      else if a.pieces.any (fun p => inWindow p.pa) then s.post t .windowAccessSend { EvArg.at cl cx a.id with who := a.who }
      else
        s.post t .accessAtHome { EvArg.at cl cx a.id with who := a.who }

/-- REQUEST_LEAVES_CLUSTER: translate what is not translated, piece by piece, then go (R107, R203, R369 to R371). -/
def requestLeavesEffect (s : State) : State :=
  let e := s.ev
  match ((s.ctx e.cl e.cx).accs.find? (fun a => a.id == e.id && !a.left)) with
  | none => s
  | some a =>
    if space a.va ≠ 0 then s.depart a
    else
      let va := a.va.toNat
      let parts := (pageParts va (a.kind.size a.size)).drop a.pieces.length
      match parts with
      | [] => s.depart a
      | (v, n) :: _ =>
        match s.lookup e.cl 0 a.who.dom v with
        | (some (t, wait), s) =>
          let p : Piece := { pa := t.pa v, len := n, leaf := t.leaf }
          let s := s.modCtx e.cl e.cx (fun c =>
            { c with accs := c.accs.map (fun x => if x.id = a.id then { x with pieces := x.pieces ++ [p] } else x) })
          if wait = 0 && parts.length = 1 then s.depart { a with pieces := a.pieces ++ [p] }
          else s.post (s.now + wait) .requestLeavesCluster (EvArg.at e.cl e.cx e.id)
        | (none, s) => s.startWalk e.cl 0 a.who v (.access e.cl e.cx e.id) 0 0

/-- REQUEST_LEAVES_CLUSTER (R203). -/
def execRequestLeavesCluster (s : State) : Host.Outcome State Fault Refusal := .next (requestLeavesEffect s)

/-- What the end of a walk gives a requester: an access or a fetch goes on with what was read, or meets XLATE; a copy channel
goes on with it, or is suspended (R366, R367, R375). -/
def State.serveWalk (s : State) (e : EvArg) (r : Option Xlat) : State :=
  match r, e.walker with
  | some x, .access cl cx id =>
    match (s.ctx cl cx).accs.find? (fun a => a.id == id && !a.left) with
    | none => s
    | some a =>
      match (pageParts a.va.toNat (a.kind.size a.size)).drop a.pieces.length with
      | [] => s
      | (v, n) :: _ =>
        let p : Piece := { pa := (x.entry e.dom e.v.toNat).pa v, len := n, leaf := x.leaf }
        (s.modCtx cl cx (fun c =>
          { c with accs := c.accs.map (fun b => if b.id = id then { b with pieces := b.pieces ++ [p] } else b) })).post
          s.now .requestLeavesCluster (EvArg.at cl cx id)
  | some x, .fetch cl cx =>
    s.post s.now .icacheLineFill
      { EvArg.at cl cx 0 with v := e.w, w := x.leaf, m := 1, who := e.who, n := (x.entry e.dom e.v.toNat).pa e.v.toNat }
  | some x, .channel cl ch =>
    s.post s.now .copySectorStep { EvArg.at cl ch e.id with m := if x.block then 2 else 1, v := e.v, w := x.leaf }
  | none, .access cl cx id =>
    match (s.ctx cl cx).accs.find? (fun a => a.id == id) with
    | some a => if a.kind = .pf then s.dropAccess cl cx id else s.deferFault a 4
    | none => s
  | none, .fetch cl cx => s.post s.now .icacheLineFill { EvArg.at cl cx 0 with v := e.w, w := 0, m := 2, who := e.who }
  | none, .channel cl ch => s.post s.now .copyTranslationRetry { EvArg.at cl ch e.id with v := e.v, w := e.w, m := 2 }
  | _, .device _ => s

/-- A stale walk's requester is stale too: its request is dropped and counted, and a copy command fails as its incarnation's
advance fails it (R355, R357, R371, R375). -/
def State.dropWalk (s : State) (e : EvArg) : State :=
  let t := frondStop (e.cl / 2)
  match e.walker with
  | .access cl cx id =>
    match (s.ctx cl cx).accs.find? (fun a => a.id == id) with
    | some a => s.dropAt cl cx t a e.v.toNat
    | none => s
  | .fetch cl cx => s.post s.now .icacheLineFill { EvArg.at cl cx 0 with v := e.w, m := 4, who := e.who }
  | .channel cl ch =>
    (s.dropStale t e.who.dom e.who.inc e.v.toNat).post s.now .copyTranslationRetry { EvArg.at cl ch e.id with m := 3 }
  | .device _ => s

/-- TABLE_WALK: the walk ends and answers every miss that it serves; the buffers are filled unless an invalidation met it.
A stale walk is abandoned (R366, R367, R370, R371, R373 to R375). -/
def tableWalkEffect (s : State) : State :=
  let e := s.ev
  if !s.currentWho (frondStop (e.cl / 2)) e.who then
    let mine (p : Pending) : Bool := p.ev == .tableWalk && decide (p.time ≤ s.now) && p.arg.sameWalk e
    let mates := (s.agenda.filter mine).map (·.arg)
    (e :: mates).foldl State.dropWalk { s with agenda := s.agenda.filter (fun p => !mine p) }
  else
    let r := s.walkEnd e.dom e.who.inc e.v.toNat
    let s := r.2
    let block := (r.1.map (·.block)).getD false
    let mine (p : Pending) : Bool :=
      p.ev == .tableWalk && decide (p.time ≤ s.now) && (p.arg.sameWalk e || (block && p.arg.sameBlock e))
    let all := e :: (s.agenda.filter mine).map (·.arg)
    let s := { s with agenda := s.agenda.filter (fun p => !mine p) }
    let s := match r.1 with
      | some x =>
        let t := x.entry e.dom e.v.toNat
        if e.m = 0 then all.foldl (fun (s : State) a => s.fillTlb1 a.cl a.n t) (s.fillTlb2 (e.cl / 2) t) else s
      | none => s
    all.foldl (fun (s : State) a => s.serveWalk a r.1) s

/-- TABLE_WALK (R371). -/
def execTableWalk (s : State) : Host.Outcome State Fault Refusal := .next (tableWalkEffect s)

/-! ### At the home point (R103, R205 to R207, R355) -/

/-- New value of a read-modify-write on `n` bytes; none for a failed cas (R206). -/
def atomNew (op : AtomOp) (n old v cmp : Nat) : Option Nat :=
  let w := 8 * n
  let v := low w v
  match op with
  | .add => some (low w (old + v))
  | .and => some (old &&& v)
  | .or => some (old ||| v)
  | .xor => some (old ^^^ v)
  | .min => some (if sextNat w v < sextNat w old then v else old)
  | .max => some (if sextNat w old < sextNat w v then v else old)
  | .minn => some (Min.min old v)
  | .maxn => some (Max.max old v)
  | .swap => some v
  | .cas => if old = low w cmp then some v else none

/-- A scratchpad page is held by a task of the requester's domain and incarnation (R82). -/
def State.pageHeld (s : State) (a : Nat) (w : Who) : Bool :=
  let off := a - 2 ^ 49
  let page := off % 2 ^ 21 / 2 ^ 14
  s.tasks.any (fun e =>
    e.2.running && e.2.cluster == off / 2 ^ 23 && e.2.dom == w.dom && e.2.inc == w.inc && decide (e.2.spbase ≤ page) &&
      decide (page < e.2.spbase + e.2.tsp))

/-- Memory with a staged write performed on it: the write, or the reduction with its operand (R321, R322). -/
def StagedWrite.apply (m : List Host.Cell) (e : StagedWrite) : List Host.Cell :=
  match e.red with
  | none => memWrite m e.pa e.bytes
  | some op =>
    let old := leNat ((List.range e.bytes.length).map (fun i => memGet m (e.pa + i)))
    memWrite m e.pa (leBytes e.bytes.length ((atomNew op e.bytes.length old (leNat e.bytes) 0).getD old))

/-- Bytes read from an address as the task that stages writes there sees them (R321). -/
def State.overlay (s : State) (t : Nat) (a : Nat) (bs : List Byte) : List Byte :=
  match NMap.get? s.tasks t with
  | none => bs
  | some t =>
    if t.staged.isEmpty then bs
    else
      let m := t.staged.foldl StagedWrite.apply (memWrite s.mem a bs)
      (List.range bs.length).map (fun i => memGet m (a + i))

/-- Record a staged write or reduction; a full commit space fails the task (R321). -/
def State.stageWrite (s : State) (w : Who) (uid a : Nat) (bs : List Byte) (red : Option AtomOp) : State :=
  s.modTask uid (fun t =>
    let used := (t.staged.map (fun e => e.bytes.length)).foldl (· + ·) 0
    if t.csb * 65536 < used + bs.length then { t with fail := 7 :: t.fail }
    else { t with staged := t.staged ++ [{ pa := a, bytes := bs, red := red, dom := w.dom, inc := w.inc }] })

/-- Add a sector to its die's prefetch buffer; the oldest of 8,192 goes (R86). -/
def State.prefetchSector (s : State) (pa : Nat) : State :=
  s.modArchive (pa / 2 ^ 37) (fun a =>
    if a.prefetch.contains (pa / 32) then a
    else { a with prefetch := (a.prefetch ++ [pa / 32]).drop (a.prefetch.length + 1 - 8192) })

/-- A task has staged a write of a byte (R321). -/
def State.stagedByte (s : State) (t a : Nat) : Bool :=
  match NMap.get? s.tasks t with
  | some t => t.staged.any (fun e => e.red.isNone && decide (e.pa ≤ a) && decide (a < e.pa + e.bytes.length))
  | none => false

/-- Parts of a range that lie in one sector each: address and length. -/
def sectorParts (a n : Nat) : List (Nat × Nat) :=
  (sectorsOf a n).map (fun x => (Max.max a (32 * x), Min.min (a + n) (32 * x + 32) - Max.max a (32 * x)))

/-- Read a range for a task in units of a sector, each byte with a mark where it is poisoned: a byte the task has staged is
read as it staged it. Poison that is met is noted, at the home or at the stop of the agent that reads, and the task has
consumed it (R321, R377, R380, R388, log 73). -/
def State.readBytes (s : State) (stop : Option Nat) (w : Who) (task : Nat) (staged : Bool) (a n : Nat) :
    State × List (Byte × Bool) :=
  (sectorParts a n).foldl (fun r p =>
    let s := r.1.settle p.1 p.2
    let bad := s.poisonedAt p.1 p.2
    let bs := if staged then s.overlay task p.1 (s.readN p.1 p.2) else s.readN p.1 p.2
    let marked := (bs.zip (List.range p.2)).map (fun b => (b.1, bad && !(staged && s.stagedByte task (p.1 + b.2))))
    let s := if marked.any (·.2) then (s.notePoisonAt (stop.getD (homeStop p.1)) p.1 w.dom w.inc).poisonTask task else s
    (s, r.2 ++ marked)) (s, [])

/-- Read the pieces of an access (R107, R114, R204). -/
def State.readPieces (s : State) (a : Access) (ps : List Piece) : State × List (Byte × Bool) :=
  ps.foldl (fun r p =>
    let x := r.1.readBytes none a.who a.task (s.staging a.task && leafSC p.leaf) p.pa p.len
    (x.1, r.2 ++ x.2)) (s, [])

/-- Which of the two entries of a load take a poisoned byte: 1 the first, 2 the second (R204). -/
def poisonedHalves (l : List (Byte × Bool)) : Nat :=
  (if (l.take 8).any (·.2) then 1 else 0) + (if (l.drop 8).any (·.2) then 2 else 0)

/-- Sign or zero extension of a load (R204). -/
def loadValue (n : Nat) (signed : Bool) (bs : List Byte) : BitVec 128 :=
  if signed then BitVec.ofInt 64 (sextNat (8 * n) (leNat bs)) |>.setWidth 128 else BitVec.ofNat 128 (leNat bs)

/-- Send an answer to the slot that made a request (R356). -/
def State.answer (s : State) (a : Access) (delay : Nat) (st : Byte) (v : BitVec 128) : State :=
  s.post (s.now + delay) .responseAtSlot { EvArg.at a.who.cl a.who.cx a.id with who := a.who, status := st, value := v }

/-- The answer of a load: POISON with the entries it concerns in `m` where a byte is poisoned (R204). -/
def State.answerLoad (s : State) (a : Access) (delay n : Nat) (signed : Bool) (l : List (Byte × Bool)) : State :=
  let half := poisonedHalves l
  s.post (s.now + delay) .responseAtSlot
    { EvArg.at a.who.cl a.who.cx a.id with
      who := a.who, status := if half = 0 then 0 else 4, m := half, value := loadValue n signed (l.map (·.1)) }

/-- Perform a store, an atomic or a reduction of one piece: at its home, or in the task's commit space (R205 to R207,
R321, R380). The old value is none where it was not performed. -/
def State.modifyPiece (s : State) (a : Access) (p : Piece) (bs : List Byte) (op : Option AtomOp) : State × Option Nat :=
  let stage := s.staging a.task && leafSC p.leaf
  match op with
  | none => if stage then (s.stageWrite a.who a.task p.pa bs none, some 0) else ((s.settle p.pa p.len).storeAt p.pa bs, some 0)
  | some op =>
    if stage then (s.stageWrite a.who a.task p.pa (leBytes p.len a.data.toNat) (some op), some 0)
    else match s.readFor p.pa p.len a.who a.task with
      | (s, none) => (s, none)
      | (s, some old) =>
        match atomNew op p.len (leNat old) a.data.toNat a.cmp.toNat with
        | none => (s, some (leNat old))
        | some new => (s.storeAt p.pa (leBytes p.len new), some (leNat old))

/-- ACCESS_AT_HOME: performed in the context's order, unless stale or denied; a denied one is dropped, leaves an entry and
raises PERM (R80, R82, R97, R103, R104, R209, R355; log 72). The pieces of an access on either side of a sector boundary are
separate and unordered, and both are performed here in one step: DESIGN CHOICE (R114, R292; log 87). -/
def accessAtHomeEffect (s : State) : State :=
  let e := s.ev
  let c := s.ctx e.cl e.cx
  match c.accs.find? (fun a => a.id == e.id && !a.performed) with
  | none => s
  | some a =>
    if s.held e.cl e.cx a then s.post (s.now + 1) .accessAtHome e
    else
      let back := (s.trip e.cl a).2
      let at_ (p : Piece) : Bool := s.currentWho (homeStop p.pa) a.who
      match a.pieces.find? (fun p => !at_ p) with
      | some p => s.dropAt e.cl e.cx (homeStop p.pa) a (keyAddr p.pa)
      | none =>
        let denied := a.pieces.find? (fun p =>
          space a.va == 2 && (!s.pageHeld p.pa a.who || !s.pageHeld (p.pa + p.len - 1) a.who))
        match denied with
        | some p => (s.logRefused (homeStop p.pa) 2 a.who.dom a.who.inc (keyAddr p.pa) 1).deferFault a 5
        | none =>
          match a.kind with
          | .load n sg =>
            let r := s.readPieces a a.pieces
            (r.1.performed e.cl e.cx a.id).answerLoad a back n sg r.2
          | .pf =>
            (a.pieces.foldl (fun s p => s.prefetchSector p.pa) s).dropAccess e.cl e.cx a.id
          | .atomic op =>
            match a.pieces with
            | [] => s
            | p :: _ =>
              match s.modifyPiece a p [] (some op) with
              | (s, some old) => (s.performed e.cl e.cx a.id).answer a back 0 (BitVec.ofNat 128 old)
              | (s, none) => (s.performed e.cl e.cx a.id).answer a back 4 0
          | .red op =>
            (a.pieces.foldl (fun s p => (s.modifyPiece a p [] (some op)).1) s).performed e.cl e.cx a.id
          | .store =>
            let bs := leBytes a.size a.data.toNat
            ((a.pieces.foldl (fun (r : State × Nat) p =>
              ((r.1.modifyPiece a p ((bs.drop r.2).take p.len) none).1, r.2 + p.len)) (s, 0)).1).performed e.cl e.cx a.id
          | _ => s

/-- ACCESS_AT_HOME (R103). -/
def execAccessAtHome (s : State) : Host.Outcome State Fault Refusal := .next (accessAtHomeEffect s)

end Sys2Proof.Machine
end

