-- ==== Sys2Proof/Machine/Peek.lean ====
section
/-! DEFINITION. What privileged reads see: target contexts and their snapshot and state words, and catalogue dwords
(R332, R346, R349, R389, R390). -/

namespace Sys2Proof.Machine

/-! ### Target contexts (R346) -/

/-- Cluster of a target dword. -/
def targetCl (w : W64) : Nat := wbits w 9 3
/-- Context of a target dword. -/
def targetCx (w : W64) : Nat := wbits w 2 0
/-- Domain of a target dword. -/
def targetDom (w : W64) : BitVec 8 := w.extractLsb' 11 8
/-- Incarnation of a target dword. -/
def targetInc (w : W64) : BitVec 10 := w.extractLsb' 19 10

/-- Reserved bits of a target dword are not zero; `term` allows TERM (R346). -/
def targetReserved (w : W64) (term : Bool) : Bool := wbits w 63 29 != 0 || (!term && w.getLsbD 10)

/-- A target is occupied by a task of its domain and incarnation, and the issuer's domain supervises that domain by the
copy at the target's stop (R346, R352). -/
def State.targetMatches (s : State) (w : W64) (issuer : BitVec 8) : Bool :=
  let c := s.ctx (targetCl w) (targetCx w)
  (c.occ == .resident || c.occ == .evicting || c.occ == .loading) && c.dom == targetDom w && c.inc == targetInc w &&
    s.supervises (clusterStop (targetCl w)) issuer (targetDom w)

/-- What is wrong with a target: 1 no match, 2 reserved bits, by the list of R346; 0 for nothing. -/
def State.targetFault (s : State) (w : W64) (issuer : BitVec 8) (term : Bool) : Nat :=
  if !s.targetMatches w issuer then 1 else if targetReserved w term then 2 else 0

/-! ### Snapshot words (R331, R332, R349) -/

/-- One snapshot entry of a core: the result, and the quarter for a vector register. -/
structure SnapEntry where
  l : Landing
  qtr : Nat
  deriving DecidableEq, Repr

/-- Snapshot entries of core `k`, in issue order (R331, R332). -/
def Ctx.snapEntries (c : Ctx) (k : Nat) : List SnapEntry :=
  c.snap.flatMap (fun l =>
    match l.part with
    | some (k', q) => if k' = k then [{ l := l, qtr := q }] else []
    | none =>
      match l.dest with
      | .vreg _ => (List.range 4).map (fun q => { l := l, qtr := q })
      | .mask _ | .bypass => [{ l := l, qtr := 0 }]
      | _ => [])

/-- KIND and DEST of a captured result (R332). -/
def Dest.snapKind : Dest → Nat × Nat
  | .vreg r => (0, r)
  | .mask n => (1, n)
  | _ => (2, 0)

/-- FLAGS of an entry of core `k`: what the captured part raises; a mask or the codes are one part (R332). -/
def SnapEntry.flags (x : SnapEntry) (k : Nat) : Byte :=
  match x.l.dest with
  | .vreg _ => nth x.l.flags (4 * k + x.qtr) 0
  | _ => orFlags ((List.range 4).map (fun q => nth x.l.flags (4 * k + q) 0))

/-- Dword 0 of entry `e` on core `k` (R332). -/
def SnapEntry.dword0 (x : SnapEntry) (k e : Nat) : W64 :=
  let kd := x.l.dest.snapKind
  BitVec.ofNat 64 (kd.1 * 2 ^ 48 + kd.2 * 2 ^ 40 + x.qtr * 2 ^ 38 + x.l.time % 2 ^ 16 * 2 ^ 16 +
    (x.flags k).toNat * 2 ^ 8 + e)

/-- STATE of a context (R349). -/
def State.stateCode (s : State) (cl cx : Nat) : Nat :=
  let c := s.ctx cl cx
  match c.occ with
  | .evicting => 6
  | .loading => 7
  | .resident =>
    if c.parked then (if c.blocked then 5 else 4)
    else if c.blocked then 3
    else if (s.cluster cl).run = some cx then 2 else 1
  | _ => 0

/-- Value that a snap.read of a matching target gives; none where its index is not one R349 allows. -/
def State.snapValue (s : State) (w i : W64) : Option W64 :=
  let cl := targetCl w
  let cx := targetCx w
  let c := s.ctx cl cx
  let k := wbits i 9 8
  if i.getLsbD 12 then
    if wbits i 63 13 ≠ 0 ∨ wbits i 11 10 ≠ 0 ∨ wbits i 7 0 ≠ 0 then none
    else
      some (BitVec.ofNat 64 ((c.snapEntries k).length * 2 ^ 48 + c.pass % 2 ^ 8 * 2 ^ 40 + s.stateCode cl cx * 2 ^ 32 +
        c.pc.toNat))
  else if wbits i 63 10 ≠ 0 ∨ wbits i 7 7 ≠ 0 ∨ 96 ≤ wbits i 6 0 then none
  else
    match (c.snapEntries k)[wbits i 6 0]? with
    | some x => some (x.dword0 k (wbits i 6 0))
    | none => some 0

/-- The answer of a snap.read comes: target in `v`, index in `w`; PERM where it is refused, with an entry where the
target is (R346, R349). -/
def State.answerSnap (s : State) (e : EvArg) : State :=
  let why := s.targetFault e.v e.who.dom false
  let refuse (s : State) : State := s.deferK s.now e.who 5 0 0 (e.value.setWidth 30) (e.m % 64) (e.m / 64)
  if why ≠ 0 then refuse (s.logRefused (clusterStop (targetCl e.v)) 8 e.who.dom e.who.inc e.v.toNat why)
  else match s.snapValue e.v e.w with
    | some v => s.fillReg e.cl e.cx (e.m % 64) (e.m / 64) v
    | none => refuse s

/-! ### Catalogue dwords (R389, R390) -/

/-- Stop of a catalogue index (R390). -/
def catStop (i : W64) : Nat := wbits i 23 17

/-- A catalogue index that a domain may use (R390). -/
def State.catIndexOk (s : State) (i : W64) (d : BitVec 8) : Bool :=
  decide (catStop i ≤ 80) && entryBind (s.domAt (catStop i) d) &&
    decide (wbits i 15 2 < if i.getLsbD 16 then 514 else 1024)

/-- The dword at a catalogue index (R389, R390). -/
def State.catValue (s : State) (i : W64) : W64 :=
  let st := s.stop (catStop i)
  let n := wbits i 15 2
  if i.getLsbD 16 then
    if n < 256 then (NMap.getD st.stale n 0).setWidth 64
    else if n < 512 then (NMap.getD st.orphan (n - 256) 0).setWidth 64
    else if n = 512 then st.written else st.lasting
  else
    match NMap.get? st.cat n with
    | none => 0
    | some e =>
      match wbits i 1 0 with
      | 0 => e.d0
      | 1 => e.d1
      | 2 => e.d2
      | _ => e.d3

/-- The answer of an err.read comes: index in `v` (R390). -/
def State.answerErr (s : State) (e : EvArg) : State :=
  if s.catIndexOk e.v e.who.dom then s.fillReg e.cl e.cx (e.m % 64) (e.m / 64) (s.catValue e.v)
  else s.deferK s.now e.who 5 0 0 (e.value.setWidth 30) (e.m % 64) (e.m / 64)

/-- An err.clr reaches its stop: an entry or a counter goes to zero; entries written may not (R390). -/
def State.clearCat (s : State) (e : EvArg) : State :=
  let n := wbits e.v 15 2
  let t := catStop e.v
  if !s.currentWho t e.who then s.dropStale t e.who.dom e.who.inc e.v.toNat
  else if !s.catIndexOk e.v e.who.dom || (e.v.getLsbD 16 && n == 512) then
    s.deferK s.now e.who 5 0 0 (e.value.setWidth 30) 0 0
  else if e.v.getLsbD 16 then
    s.modStop t (fun st =>
      if n < 256 then { st with stale := NMap.erase st.stale n }
      else if n < 512 then { st with orphan := NMap.erase st.orphan (n - 256) }
      else { st with lasting := 0 })
  else s.modStop t (fun st => { st with cat := NMap.set st.cat n { d0 := 0, d1 := 0, d2 := 0, d3 := 0 } })

/-- Ask for a register's value with an answer at a later cycle (R210, R349, R390). -/
def State.askRegister (s : State) (c : BitVec 6) (t n : Nat) (v w : W64) : State :=
  let u := s.issue
  let id := s.uid
  let who := s.issueCtx.who u.cl u.cx
  let s := { s with uid := id + 1 }
  (s.modIssue (fun x => x.emptyG c.toNat id)).post t .responseAtSlot
    { EvArg.zero with n := n, who := who, m := 64 * id + c.toNat, v := v, w := w, value := u.pc.setWidth 128 }

end Sys2Proof.Machine
end

