-- ==== Sys2Proof/Machine/Counters.lean ====
section
/-! DEFINITION. Counter operations: the K-slot forms, the operation at the counter's home, answers at the slot, expiring
waits and their cancels (R94, R111 to R113, R122 to R130, R136, R216 to R219, R356, R362). -/

namespace Sys2Proof.Machine

/-! ### K-slot forms (R216 to R219, R362) -/

/-- A counter access of the bundle in issue: sent at cycle 6 (R210). -/
def State.counterAccess (s : State) (id : Nat) (k : AccKind) (addr : W64) (data cmp : W64) (sc : BitVec 2) (d : Nat)
    (token : Option Nat) : State :=
  let u := s.issue
  let c := s.issueCtx
  s.addAccess
    { id := id, kind := k, order := .plain, scope := sc, va := addr, size := 8, data := data.setWidth 128, cmp := cmp
      who := c.who u.cl u.cx, task := c.task, bpc := u.pc, slot := 7, s0 := s.now, dl := d, esc := false
      token := token, pieces := [], left := false, performed := false, answered := false } (s.now + 6)

/-- A posted counter operation; with RET its register is empty until the answer arrives (R210, R216). -/
def counterPosted (k : AccKind) (a b c : BitVec 6) (r : BitVec 1) (sc : BitVec 2) (s : State) : State :=
  let id := s.uid
  let s := { s with uid := id + 1 }
  let addr := s.opG a
  let v := s.opG b
  if r = 1 then
    (s.counterAccess id k addr v 0 sc 0 (some (64 * id + c.toNat))).modIssue (fun x => x.emptyG c.toNat id)
  else s.counterAccess id k addr v 0 sc 0 none

/-- CTR_ADD (R216). -/
def execCtrAdd (a b c : BitVec 6) (r : BitVec 1) (sc : BitVec 2) (s : State) : Host.Outcome State Fault Refusal :=
  .next (s.asBundle (.ctrAdd a b c r sc) (counterPosted .ctrAdd a b c r sc))

/-- CTR_MAX (R216). -/
def execCtrMax (a b c : BitVec 6) (r : BitVec 1) (sc : BitVec 2) (s : State) : Host.Outcome State Fault Refusal :=
  .next (s.asBundle (.ctrMax a b c r sc) (counterPosted .ctrMax a b c r sc))

/-- CTR_RESET (R362). -/
def execCtrReset (a b : BitVec 6) (s : State) : Host.Outcome State Fault Refusal :=
  .next (s.asBundle (.ctrReset a b) (counterPosted .ctrReset a b 0 0 3))

/-- Deadline operand of a waiting form (R210). -/
def deadlineOf (v : W64) : Nat := wbits v 31 0

/-- CTR_READ: an answer-only wait that writes the value to its second register (R217). -/
def ctrReadEffect (a b c : BitVec 6) (sc : BitVec 2) (s : State) : State :=
  let id := s.uid
  let addr := s.opG a
  let d := deadlineOf (s.opG c)
  (s.startWait .ctrRead ((encode (.ctrRead a b c sc)).getD 0) c (some b.toNat) d [addr, 0, 0] false sc).counterAccess
    id .ctrRead addr 0 0 sc d none

/-- CTR_READ (R217). -/
def execCtrRead (a b c : BitVec 6) (sc : BitVec 2) (s : State) : Host.Outcome State Fault Refusal :=
  .next (s.asBundle (.ctrRead a b c sc) (ctrReadEffect a b c sc))

/-- CTR_WAIT: one request, which the home answers or registers (R218). -/
def ctrWaitEffect (a b c : BitVec 6) (e : BitVec 1) (sc : BitVec 2) (s : State) : State :=
  let id := s.uid
  let addr := s.opG a
  let d := deadlineOf (s.opG c)
  (s.startWait .ctrWait ((encode (.ctrWait a b c e sc)).getD 0) c none d [addr, s.opG b, 0] (e == 1) sc).counterAccess
    id .ctrWait addr (s.opG b) 0 sc d none

/-- CTR_WAIT (R218). -/
def execCtrWait (a b c : BitVec 6) (e : BitVec 1) (sc : BitVec 2) (s : State) : Host.Outcome State Fault Refusal :=
  .next (s.asBundle (.ctrWait a b c e sc) (ctrWaitEffect a b c e sc))

/-- CTR_ARW: address, amount, threshold and deadline from four registers (R219). -/
def ctrArwEffect (a c : BitVec 6) (e : BitVec 1) (sc : BitVec 2) (s : State) : State :=
  let id := s.uid
  let g (n : Nat) : W64 := s.opG (a + BitVec.ofNat 6 n)
  let d := deadlineOf (g 3)
  (s.startWait .ctrArw ((encode (.ctrArw a c e sc)).getD 0) c none d [g 0, g 1, g 2] (e == 1) sc).counterAccess
    id .ctrArw (g 0) (g 1) (g 2) sc d none

/-- CTR_ARW (R219). -/
def execCtrArw (a c : BitVec 6) (e : BitVec 1) (sc : BitVec 2) (s : State) : Host.Outcome State Fault Refusal :=
  .next (s.asBundle (.ctrArw a c e sc) (ctrArwEffect a c e sc))

/-! ### At the counter's home (R111, R216 to R219, R362) -/

/-- Complete every waiter of a counter with RESET (R136). -/
def State.resetWaiters (s : State) (pa : Nat) : State :=
  let hit (w : Waiter) : Bool := w.pa == pa
  (s.waiters.filter hit).foldl (fun s w =>
    s.post (s.now + answerDelay (homeStop pa) w.who.cl) .responseAtSlot
      { EvArg.at w.who.cl w.who.cx w.accId with who := w.who, status := 2 })
    { s with waiters := s.waiters.filter (fun w => !hit w) }

/-- Write a counter at its home (R111). -/
def State.counterSet (s : State) (pa v : Nat) : State := s.storeAt pa (leBytes 8 v)

/-- A wait that reached its home: answered when the counter meets the threshold; otherwise registered, or answered with
`miss` when its deadline is 0 (R123, R130, R218). -/
def State.counterTest (s : State) (a : Access) (pa : Nat) (thr : W64) (miss : Byte) (back : Nat) : State :=
  let v := leNat (s.readN pa 8)
  if thr.toNat ≤ v then s.answer a back 0 0
  else if a.dl = 0 then s.answer a back miss 0
  else { s with waiters := s.waiters ++ [{ pa := pa, thr := thr, who := a.who, accId := a.id, arw := a.kind == .ctrArw, trip := back }] }

/-- The operation on a counter: one step in the counter's order (R111). -/
def State.counterOp (s : State) (a : Access) (pa back : Nat) : State :=
  let s := s.settle pa 8
  match a.kind with
  | .ctrAdd =>
    let r := s.counterAdd pa a.data.toNat a.who.dom a.who.inc
    if a.token.isSome then r.2.answer a back 0 (BitVec.ofNat 128 r.1) else r.2
  | .ctrMax =>
    let new := Max.max (leNat (s.readN pa 8)) a.data.toNat
    let s := (s.counterSet pa new).completeWaiters pa new
    if a.token.isSome then s.answer a back 0 (BitVec.ofNat 128 new) else s
  | .ctrRead => s.answer a back 0 (BitVec.ofNat 128 (leNat (s.readN pa 8)))
  | .ctrWait => s.counterTest a pa (a.data.setWidth 64) 1 back
  | .ctrArw => (s.counterAdd pa a.data.toNat a.who.dom a.who.inc).2.counterTest a pa a.cmp 8 back
  | .ctrReset => (s.counterSet pa a.data.toNat).resetWaiters pa
  | _ => s

/-- COUNTER_OP_AT_HOME: performed in the context's order, unless stale; the home agent that a window's leaf names sends the
operation on to the port die (R97, R111, R355, R401). -/
def counterAtHomeEffect (s : State) : State :=
  let e := s.ev
  let c := s.ctx e.cl e.cx
  match c.accs.find? (fun a => a.id == e.id && !a.performed) with
  | none => s
  | some a =>
    if s.held e.cl e.cx a then s.post (s.now + 1) .counterOpAtHome e
    else match a.pieces with
      | [] => s
      | p :: _ =>
        if inWindow p.pa then
          let home := archiveStop (leafHome p.leaf)
          if !s.currentWho home a.who then s.dropAt e.cl e.cx home a p.pa
          else s.post (s.now + 3 * hops home 0) .windowAccessSend { EvArg.at e.cl e.cx a.id with who := a.who }
        else if !s.currentWho (homeStop p.pa) a.who then s.dropAt e.cl e.cx (homeStop p.pa) a p.pa
        else ((s.counterOp a p.pa (s.trip e.cl a).2)).performed e.cl e.cx a.id

/-- COUNTER_OP_AT_HOME (R111). -/
def execCounterOpAtHome (s : State) : Host.Outcome State Fault Refusal := .next (counterAtHomeEffect s)

/-! ### Answers (R125, R128, R356) -/

/-- An answer for an access of a context (R125, R128 to R130, R159). -/
def answerAccess (s : State) (e : EvArg) (c : Ctx) (a : Access) : State :=
  match a.kind with
  | .load _ _ | .atomic _ =>
    let s := s.dropAccess e.cl e.cx a.id
    if a.answered then s
    else
      let st (half : Nat) : LqState :=
        if e.status = 0 then .arrived else if e.status = 1 then .expired
        else if e.status = 4 then (if e.m = 0 ∨ e.m.testBit half then .poisoned else .arrived) else .denied
      (s.modCtx e.cl e.cx (fun c => c.markLq a.id st e.value)).wake e.cl e.cx
  | .ctrAdd | .ctrMax =>
    let s := s.dropAccess e.cl e.cx a.id
    match a.token with
    | some t => s.fillReg e.cl e.cx (t % 64) (t / 64) (e.value.setWidth 64)
    | none => s
  | _ =>
    match c.wait with
    | none => s.dropAccess e.cl e.cx a.id
    | some w =>
      if w.cancelSent && e.m != 1 then
        (if e.status = 2 then s.setCtx e.cl e.cx { c with wait := some { w with reset := true } } else s)
      else s.endWait e.cl e.cx (if w.reset then 2 else e.status) 0 (e.value.setWidth 64)

/-- RESPONSE_AT_SLOT: an answer names a slot, and is delivered only where the tag matches (R356). The kind of the
answer stands in `n`: 0 an access, 1 a register, 2 a wait, 3 the end of a hold, 4 a snap.read, 5 an err.read; 6 is an
err.clr, which reaches its stop when the answer of an err.read would be back (R390), 9 an answer that met a free slot. The answer for a stage that has left
its slot meets no matching tag, and its access is over (R28, R356). -/
def responseEffect (s : State) : State :=
  let e := s.ev
  let cl := e.who.cl
  let cx := e.who.cx
  let e := { e with cl := cl, cx := cx }
  let c := s.ctx cl cx
  if e.n = 6 then s.clearCat e
  else if e.n = 9 then s.countUnmatched e.who
  else if 8 ≤ cx then
    ((s.unmatched (s.ctx cl (cx % 8)) e.who).dropAccess cl cx e.id).modCtx cl cx (fun c =>
      { c with wait := c.wait.filter (fun w => w.id != e.id) })
  else if !c.tagged e.who then s.unmatched c e.who
  else match e.n with
    | 0 =>
      match c.accs.find? (fun a => a.id == e.id) with
      | none => s
      | some a => answerAccess s e c a
    | 1 => s.fillReg cl cx (e.m % 64) (e.m / 64) (e.value.setWidth 64)
    | 4 => s.answerSnap e
    | 5 => s.answerErr e
    | 2 =>
      match c.wait with
      | some w => if w.id = e.id then s.endWait cl cx e.status e.v.toNat 0 else s
      | none => s
    | _ => s.modCtx cl cx (fun c => { c with hold := if c.hold = some e.id then none else c.hold })

/-- RESPONSE_AT_SLOT (R356). -/
def execResponseAtSlot (s : State) : Host.Outcome State Fault Refusal := .next (responseEffect s)

/-! ### Cancels (R130) -/

/-- A request of an access has been sent through a window and is unanswered (R401). -/
def State.sentOut (s : State) (cl cx id : Nat) : Bool :=
  s.port.flows.any (fun f => f.2.held.any (fun h => h.acc == .access cl cx id))

/-- WAIT_CANCEL_AT_HOME: withdraws a request not yet performed, or removes its waiter; a ctr.arw is told which. Where its add
has gone out through a window and is unanswered, the cancel waits for the response (R130, R135, R401). -/
def waitCancelEffect (s : State) : State :=
  let e := s.ev
  let c := s.ctx e.cl e.cx
  match c.accs.find? (fun a => a.id == e.id) with
  | none => { s with
      waiters := s.waiters.filter (fun w => !(w.accId == e.id && w.who == e.who))
      winWaiters := s.winWaiters.filter (fun w => !(w.accId == e.id && w.who == e.who)) }
  | some a =>
    let s := { s with
      waiters := s.waiters.filter (fun w => !(w.accId == e.id && w.who == e.who))
      winWaiters := s.winWaiters.filter (fun w => !(w.accId == e.id && w.who == e.who))
      port := { s.port with flows := s.port.flows.map (fun f =>
        (f.1, { f.2 with waiting := f.2.waiting.filter (fun h => h.acc != .access e.cl e.cx e.id) })) } }
    let back := (s.trip e.cl a).1
    let reply (st : Byte) (s : State) : State :=
      s.post (s.now + back) .responseAtSlot { EvArg.at e.cl e.cx e.id with who := e.who, status := st, m := 1 }
    if a.kind ≠ .ctrArw then (if a.performed then s else s.dropAccess e.cl e.cx e.id)
    else if a.performed then reply 8 s
    else if s.sentOut e.cl e.cx e.id then
      { s with winWaiters := { who := a.who, accId := a.id, pa := 0, thr := 0, cancelled := true } :: s.winWaiters }
    else reply 9 (s.modCtx e.cl e.cx (fun c =>
      { c with accs := c.accs.map (fun b => if b.id = e.id then { b with performed := true, left := true } else b) }))

/-- WAIT_CANCEL_AT_HOME (R130). -/
def execWaitCancelAtHome (s : State) : Host.Outcome State Fault Refusal := .next (waitCancelEffect s)

/-- Send the cancel of a counter wait along the path of its request (R130, R218). -/
def State.sendCancel (s : State) (cl cx id : Nat) : State :=
  let c := s.ctx cl cx
  match c.accs.find? (fun a => a.id == id) with
  | some a => s.post (s.now + (s.trip cl a).1) .waitCancelAtHome { EvArg.at cl cx id with who := a.who }
  | none => s

/-- ARW_INDETERMINATE: the cancel's answer did not come in time (R130). -/
def arwIndeterminateEffect (s : State) : State :=
  let e := s.ev
  match (s.ctx e.cl e.cx).wait with
  | some w => if w.id = e.id then s.endWait e.cl e.cx 6 0 0 else s
  | none => s

/-- ARW_INDETERMINATE (R130). -/
def execArwIndeterminate (s : State) : Host.Outcome State Fault Refusal := .next (arwIndeterminateEffect s)

end Sys2Proof.Machine
end

