-- ==== Sys2Proof/Machine/Copy.lean ====
section
/-! DEFINITION. Copy channels: starting, waiting for earlier accesses, sector steps, suspension and retry, aborting,
ending (R90, R91, R117, R118, R211 to R215, R342, R357). -/

namespace Sys2Proof.Machine

/-- A channel without a command. -/
def Channel.none : Channel :=
  { state := 0, task := 0, stage := 0, cmd := 0, who := .zero, ctxw := 0, src := 0, dst := 0, len := 0, cctr := 0, sc := 0, wp := 0
    begun := false, abortAt := .none, faultDst := false, faultVa := 0, after := [], hist := [], unanswered := [], buf := [] }

/-- Set channel `n` of a cluster. -/
def Cluster.setChan (k : Cluster) (n : Nat) (c : Channel) : Cluster :=
  { k with chans := (k.chans ++ List.replicate (16 - k.chans.length) Channel.none).set n c }

/-- Set channel `n` of cluster `cl`. -/
def State.setChan (s : State) (cl n : Nat) (c : Channel) : State := s.modCluster cl (fun k => k.setChan n c)

/-- The running or suspended command with an identifier on a channel. -/
def State.command (s : State) (cl n id : Nat) : Option Channel :=
  ((s.cluster cl).chan n).filter (fun c => c.cmd == id && (c.state == 1 || c.state == 2))

/-- What a channel remembers when a task starts a command on it: the end states of the latest commands of the other tasks that
have not ended (R224). -/
def State.chanHist (s : State) (k : Channel) (task : Nat) : List (Nat × Nat) :=
  ((k.task, k.state) :: k.hist.filter (fun h => h.1 != k.task)).filter (fun h =>
    h.1 != task && h.2 != 0 && (NMap.get? s.tasks h.1).any (fun t => !t.done))

/-- CPY_START: the channel is busy from cycle 0; the command begins from cycle 6 on (R210 to R212). -/
def cpyStartEffect (a : BitVec 6) (h : BitVec 4) (s : State) : State :=
  let u := s.issue
  let c := s.issueCtx
  let g (n : Nat) : W64 := s.opG (a + BitVec.ofNat 6 n)
  let id := s.uid
  let s := { s with uid := id + 1 }
  let k : Channel :=
    { state := 1, task := c.task, stage := c.stage, cmd := id, who := c.who u.cl u.cx, ctxw := c.sctx, src := g 0, dst := g 1
      len := wbits (g 2) 31 0, cctr := g 3, sc := (g 2).extractLsb' 32 2, wp := 0, begun := false, abortAt := none
      faultDst := false, faultVa := 0, after := s.earlier u.cl u.cx
      hist := s.chanHist (nth (s.cluster u.cl).chans h.toNat .none) c.task, unanswered := [], buf := [] }
  (s.setChan u.cl h.toNat k).post (s.now + 6) .copyCommandBegin (EvArg.at u.cl h.toNat id)

/-- CPY_START (R212). -/
def execCpyStart (a : BitVec 6) (h : BitVec 4) (s : State) : Host.Outcome State Fault Refusal :=
  .next (s.asBundle (.cpyStart a h) (cpyStartEffect a h))

/-- End a command with a state of R224: the completion add, and a catalogue entry where it failed (R212, R215). -/
def State.endCopy (s : State) (cl n : Nat) (k : Channel) (st : Nat) : State :=
  let s := s.setChan cl n { k with state := st, abortAt := none }
  let s := if st = 5 ∨ st = 6 then
      s.logRefused (clusterStop cl) 8 k.who.dom k.who.inc (k.dst.toNat + k.wp) (st - 4)
    else s
  let past := (s.task { Ctx.empty with task := k.task }).ended.contains (wbits k.ctxw 31 29)
  let s := if past ∧ (st = 5 ∨ st = 6) then s.failTask k.task (if st = 5 then 7 else 4) else s
  let s := if st = 6 then s.poisonTask k.task else s
  if k.cctr = 0 ∨ !s.currentWho (clusterStop cl) k.who then s
  else
    let r := s.deviceAdd (cl / 2) k.who.dom k.cctr (if st = 3 then 1 else 1 + 2 ^ 48)
    if r.1 then r.2 else r.2.logRefused (clusterStop cl) 8 k.who.dom k.who.inc k.cctr.toNat 1

/-- The range rules of R80 for a copy source or destination; the pages of space 10 are checked at the target (R82). -/
def copyRangeOk (t : Task) (a : W64) (len : Nat) : Bool :=
  addrReservedOk a && (len == 0 ||
    match space a with
    | 0 => decide (wbits a 51 0 + len ≤ 2 ^ 52)
    | 1 => decide (addrOff a + len ≤ 2 ^ 21) && decide (addrOff a + len ≤ t.tsp * 16384)
    | 2 => decide (addrOff a + len ≤ 2 ^ 21)
    | _ => decide (wbits a 23 0 + len ≤ 2 ^ 24) && decide (t.sbase ≤ wbits a 30 0) &&
        decide (wbits a 30 0 + len ≤ t.sbase + t.tstg * 65536))

/-- What the pages of a space-00 range that are not in order show. -/
inductive PageFault where
  | ok | perm | xlate (va : Nat)
  deriving DecidableEq, Repr

/-- A leaf may serve as copy source or destination (R94, R368). -/
def copyLeafOk (user dst : Bool) (e : W64) : Bool :=
  (!user || leafU e) && (if dst then leafW e && !leafC e else leafR e)

/-- A channel translates an address at its start, through its micro-TLB and the die's buffer; on a miss the entries are read,
and both are filled (R369, R380). -/
def State.chanXlat (s : State) (cl n : Nat) (w : Who) (va : Nat) : Option Xlat × State :=
  let i := 5 + n / 8
  match tlbFind (nth (s.cluster cl).tlbs i [] ++ s.tlb2 (cl / 2)) w.dom va with
  | some e => (some { pa := e.pa va, leaf := e.leaf, block := e.block }, s)
  | none =>
    match s.walkEnd w.dom w.inc va with
    | (some x, s) => (some x, (s.fillTlb2 (cl / 2) (x.entry w.dom va)).fillTlb1 cl i (x.entry w.dom va))
    | (none, s) => (none, s)

/-- Check the pages of a range from an address on, `fuel` bounding their number: a page that fails its check fails the range,
whichever page before it does not translate; a page whose bytes in the range are not all there does not translate
(R80, R212, R364). -/
def State.checkPages (s : State) (cl n : Nat) (w : Who) (dst : Bool) (start stop : Nat) :
    Nat → Nat → PageFault → State × PageFault
  | 0, _, f => (s, f)
  | fuel + 1, va, f =>
    if stop ≤ va then (s, f)
    else
      let next := (va / 2 ^ 16 + 1) * 2 ^ 16
      let miss : PageFault := if f = .ok then .xlate (Max.max start va) else f
      match s.chanXlat cl n w va with
      | (none, s) => s.checkPages cl n w dst start stop fuel next miss
      | (some x, s) =>
        if !copyLeafOk w.user dst x.leaf then (s, .perm)
        else
          s.checkPages cl n w dst start stop fuel next
            (if s.reaches { pa := x.pa, len := Min.min stop next - va, leaf := x.leaf } then f else miss)

/-- Check a range from an address on (R212). -/
def State.checkRange (s : State) (cl n : Nat) (k : Channel) (dst : Bool) (a from_ : W64) : State × PageFault :=
  if space a ≠ 0 ∨ k.len = 0 then (s, .ok)
  else s.checkPages cl n k.who dst a.toNat (a.toNat + k.len) (k.len / 2 ^ 16 + 2) from_.toNat .ok

/-- The completion counter is usable (R94, R212). -/
def State.cctrOk (s : State) (cl n : Nat) (k : Channel) : Bool × State :=
  if k.cctr = 0 then (true, s)
  else if !(globalOk k.cctr && k.cctr.toNat % 8 == 0) then (false, s)
  else match s.chanXlat cl n k.who k.cctr.toNat with
    | (some x, s) => (leafW x.leaf && leafC x.leaf && (!k.who.user || leafU x.leaf), s)
    | (none, s) => (false, s)

/-- Suspend a channel with its WP frozen and deliver its record; no context is parked. A command whose abort has arrived is
aborted instead (R215, R342). -/
def State.suspendCopy (s : State) (cl n : Nat) (k : Channel) (dst : Bool) (va : Nat) : State :=
  if k.abortAt.any (fun t => decide (t ≤ s.now)) then s.endCopy cl n k 4
  else
    let s := s.setChan cl n { k with state := 2, faultDst := dst, faultVa := BitVec.ofNat 64 va }
    s.deliverRecord
      { ord := k.cmd, ctxw := k.ctxw, cls := 4, slot := 0, engine := 4, bpc := 0, npc := 0, cidx := BitVec.ofNat 64 n
        esw := BitVec.ofNat 64 ((if dst then 2 ^ 63 else 0) + k.wp % 2 ^ 32), addr := BitVec.ofNat 64 va
        rg := (s.task { Ctx.empty with task := k.task }).rg } (cl / 2)

/-- Cycles between the sector steps of a channel: an engine moves at most 64 bytes a cycle among its channels (R211). -/
def Cluster.stepCycles (k : Cluster) (n : Nat) : Nat :=
  let busy := (List.range 16).filter (fun i => i / 8 == n / 8 && (k.chan i).any (fun c => c.state == 1))
  Max.max 1 ((busy.length + 1) / 2)

/-- A command of a domain whose incarnation has passed ends without a completion add; its channel is free once no window
write of it is unanswered (R357). -/
def State.killCopy (s : State) (cl n : Nat) : State :=
  match (s.cluster cl).chan n with
  | some k => s.setChan cl n { Channel.none with task := k.task, cmd := k.cmd, who := k.who, hist := k.hist, unanswered := k.unanswered, buf := [] }
  | none => s

/-- COPY_COMMAND_BEGIN: the start condition, the checks of both ranges and of the counter, then the first step; a page
that does not translate suspends the channel, and with `m` = 1 a resumed command goes on from that page (R117, R212, R342). -/
def copyBeginEffect (s : State) : State :=
  let e := s.ev
  match s.command e.cl e.cx e.id with
  | none => s
  | some k =>
    let again := e.m == 1
    if !s.currentWho (clusterStop e.cl) k.who then s.killCopy e.cl e.cx
    else if k.abortAt.any (fun t => decide (t ≤ s.now)) then s.endCopy e.cl e.cx k 4
    else if !s.coversDone e.cl k.after then s.post (s.now + 1) .copyCommandBegin e
    else
      let t := s.task { Ctx.empty with task := k.task }
      let x := if again then (true, s) else s.cctrOk e.cl e.cx k
      let s := x.2
      let at_ (dst : Bool) (a : W64) : W64 := if again && k.faultDst == dst then k.faultVa else a
      let k := { k with wp := 0, begun := true, state := 1, buf := [] }
      if !again && !(copyRangeOk t k.src k.len && copyRangeOk t k.dst k.len && x.1) then s.endCopy e.cl e.cx k 5
      else
        let a := if again && k.faultDst then (s, .ok) else s.checkRange e.cl e.cx k false k.src (at_ false k.src)
        let b := a.1.checkRange e.cl e.cx k true k.dst (at_ true k.dst)
        let s := b.1
        match a.2, b.2 with
        | .perm, _ => s.endCopy e.cl e.cx k 5
        | _, .perm => s.endCopy e.cl e.cx k 5
        | .xlate va, _ => s.suspendCopy e.cl e.cx { k with begun := false } false va
        | .ok, .xlate va => s.suspendCopy e.cl e.cx { k with begun := false } true va
        | .ok, .ok =>
          if k.len = 0 then s.endCopy e.cl e.cx k 3
          else (s.setChan e.cl e.cx k).post (s.now + 1) .copySectorStep { e with m := 0 }

/-- COPY_COMMAND_BEGIN (R212). -/
def execCopyCommandBegin (s : State) : Host.Outcome State Fault Refusal := .next (copyBeginEffect s)

/-- A part of a step found: its pieces, or the address of a page that is not in the micro-TLB, or of one that holds nothing, or
a refusal. -/
inductive Located where
  | found (ps : List Piece) (wait : Nat)
  | walk (va : Nat)
  | hole (va : Nat)
  | perm
  deriving DecidableEq, Repr

/-- Locate the bytes of one side of a step through the engine's micro-TLB, or through the answer of a walk that has just ended
(R212, R364, R369, R375). -/
def State.locate (s : State) (cl n : Nat) (k : Channel) (read : List TlbEntry) (dst : Bool) (a : Nat) (len : Nat) :
    Located × State :=
  let w := BitVec.ofNat 64 a
  if space w ≠ 0 then (.found (localPiece (s.task { Ctx.empty with task := k.task }) cl w len) 0, s)
  else
    (pageParts a len).foldl (fun r p =>
      match r with
      | (.found ps wait, s) =>
        let x := match tlbFind read k.who.dom p.1 with
          | some t => (some (t, 0), s)
          | none => s.lookup cl (5 + n / 8) k.who.dom p.1
        match x with
        | (some (t, c), s) =>
          let q : Piece := { pa := t.pa p.1, len := p.2, leaf := t.leaf }
          if !copyLeafOk k.who.user dst t.leaf then (.perm, s)
          else if s.reaches q then (.found (ps ++ [q]) (Max.max wait c), s) else (.hole p.1, s)
        | (none, s) => (.walk p.1, s)
      | r => r) (.found [] 0, s)

/-- The leaf that a walk's answer to a channel carries: `m` 1 for a page, 2 for a block. -/
def EvArg.walked (e : EvArg) (dom : BitVec 8) : List TlbEntry :=
  if e.m = 1 ∨ e.m = 2 then [({ pa := 0, leaf := e.w, block := e.m == 2 } : Xlat).entry dom e.v.toNat] else []

/-- First byte of a range that lies on the page of an address (R342). -/
def Channel.faultAddr (k : Channel) (dst : Bool) (va : Nat) : Nat :=
  Max.max (if dst then k.dst.toNat else k.src.toNat) (va / 2 ^ 16 * 2 ^ 16)

/-- Physical addresses of the bytes of some pieces, in order, each with whether its page is a staged-commit page. -/
def pieceBytes (ps : List Piece) : List (Nat × Bool) :=
  ps.flatMap (fun p => (List.range p.len).map (fun i => (p.pa + i, leafSC p.leaf)))

/-- Bytes of a step from the source bytes and their addresses: source byte i is read after destination bytes below i are
written (R90). -/
def mergeStep (src : List (Nat × Byte)) (dst : List Nat) : List Byte :=
  src.foldl (fun bs a =>
    bs ++ [match (dst.take bs.length).idxOf? a.1 with
      | some j => nth bs j 0
      | none => a.2]) []

/-- The bytes a step reads, each with its address, and whether one is poisoned (R90, R212, R321, R380). -/
def State.stepSource (s : State) (cl : Nat) (k : Channel) (ps : List Piece) : State × List (Nat × Byte) × Bool :=
  ps.foldl (fun r p =>
    let x := r.1.readBytes (some (clusterStop cl)) k.who k.task (s.staging k.task && leafSC p.leaf) p.pa p.len
    (x.1, r.2.1 ++ (List.range p.len).map (fun i => (p.pa + i, (nth x.2 i (0, false)).1)), r.2.2 || x.2.any (·.2))) (s, [], false)

/-- A source page in space 10 that no task of the command's domain and incarnation holds (R82). -/
def State.sourceDenied (s : State) (k : Channel) (ps : List Piece) : Bool :=
  space k.src == 2 && ps.any (fun p => !s.pageHeld p.pa k.who || !s.pageHeld (p.pa + p.len - 1) k.who)

/-- A home at which a step's source read is stale (R355). -/
def State.sourceStale (s : State) (k : Channel) (ps : List Piece) : Option Piece :=
  ps.find? (fun p => !inWindow p.pa && !s.currentWho (homeStop p.pa) k.who)

/-- Write a step's bytes at their homes: whole sectors in one access; a page not held in space 10 drops them; staged
pages keep them for the commit (R82, R321, R378). -/
def State.stepWrite (s : State) (k : Channel) (ps : List Piece) (bs : List Byte) : State :=
  (ps.foldl (fun (r : State × Nat) p =>
    let s := r.1
    let b := (bs.drop r.2).take p.len
    let s :=
      if !s.currentWho (homeStop p.pa) k.who then s.dropStale (homeStop p.pa) k.who.dom k.who.inc (keyAddr p.pa)
      else if space k.dst == 2 && !s.pageHeld p.pa k.who then s.logRefused (homeStop p.pa) 2 k.who.dom k.who.inc (keyAddr p.pa) 1
      else if s.staging k.task && leafSC p.leaf then s.stageWrite k.who k.task p.pa b none
      else (s.settle p.pa p.len).storeAt p.pa b
    (s, r.2 + p.len)) (s, 0)).1

/-- COPY_SECTOR_STEP: one destination sector, or the part of one in the range; WP is a release of the bytes below it
(R90, R91, R118, R212). A step in the cycle in which an abort arrives is still performed (R226). With `m` = 1 or 2 a walk's
answer comes with it; with `m` = 3 an abort arrives, which ends a suspended command at once (R215, R342). -/
def copyStepEffect (s : State) : State :=
  let e := s.ev
  let cl := e.cl
  let n := e.cx
  match s.command cl n e.id with
  | none => s
  | some k =>
    if !s.currentWho (clusterStop cl) k.who then s.killCopy cl n
    else if e.m = 3 then (if k.state = 2 then s.endCopy cl n k 4 else s)
    else if k.state = 2 || !k.begun then s
    else if k.abortAt.any (fun t => decide (t < s.now)) then s.endCopy cl n k 4
    else
      let d := k.dst.toNat + k.wp
      let len := Min.min (32 - d % 32) (k.len - k.wp)
      let walk (s : State) (va : Nat) (dst : Bool) : State :=
        s.startWalk cl (5 + n / 8) k.who va (.channel cl n) e.id (if dst then 1 else 0)
      match s.locate cl n k (e.walked k.who.dom) false (k.src.toNat + k.wp) len with
      | (.walk va, s) => walk s va false
      | (.hole va, s) => s.suspendCopy cl n k false (k.faultAddr false va)
      | (.perm, s) => s.endCopy cl n k 5
      | (.found sp w1, s) =>
        match s.locate cl n k (e.walked k.who.dom) true d len with
        | (.walk va, s) => walk s va true
        | (.hole va, s) => s.suspendCopy cl n k true (k.faultAddr true va)
        | (.perm, s) => s.endCopy cl n k 5
        | (.found dp w2, s) =>
          if 0 < Max.max w1 w2 then s.post (s.now + Max.max w1 w2) .copySectorStep e
          else if sp.any (fun p => inWindow p.pa) || dp.any (fun p => inWindow p.pa && !(s.staging k.task && leafSC p.leaf)) then
            s.post s.now .windowAccessSend { e with n := 1, who := k.who }
          else if s.sourceDenied k sp then s.endCopy cl n k 5
          else match s.sourceStale k sp with
            | some p => (s.dropStale (homeStop p.pa) k.who.dom k.who.inc (keyAddr p.pa)).killCopy cl n
            | none =>
              let r := s.stepSource cl k sp
              let s := r.1
              if r.2.2 then s.endCopy cl n k 6
              else
                let s := s.stepWrite k dp (mergeStep r.2.1 ((pieceBytes dp).map (·.1)))
                let k := { k with wp := k.wp + len, buf := [] }
                if k.wp = k.len then s.endCopy cl n k 3
                else (s.setChan cl n k).post (s.now + (s.cluster cl).stepCycles n) .copySectorStep { e with m := 0 }

/-- COPY_SECTOR_STEP (R91). -/
def execCopySectorStep (s : State) : Host.Outcome State Fault Refusal := .next (copyStepEffect s)

/-- COPY_TRANSLATION_RETRY: a suspended channel translates its faulting address again and goes on, or meets a fault again
with a new record (R342). With `m` = 2 a walk of a running step found nothing, so the channel is suspended; with `m` = 3 the
walk was stale, and the command ends (R357, R375). -/
def copyRetryEffect (s : State) : State :=
  let e := s.ev
  match s.command e.cl e.cx e.id with
  | none => s
  | some k =>
    if e.m = 3 then s.killCopy e.cl e.cx
    else if e.m = 2 then s.suspendCopy e.cl e.cx k (e.w == 1) (k.faultAddr (e.w == 1) e.v.toNat)
    else if k.state ≠ 2 then s
    else
      let r := s.chanXlat e.cl e.cx k.who k.faultVa.toNat
      let s := r.2
      match r.1.filter (fun x => s.reaches { pa := x.pa, len := 1, leaf := x.leaf }) with
      | none => s.suspendCopy e.cl e.cx k k.faultDst k.faultVa.toNat
      | some _ =>
        let s := s.setChan e.cl e.cx { k with state := 1 }
        if k.begun then s.post s.now .copySectorStep (EvArg.at e.cl e.cx e.id)
        else s.post s.now .copyCommandBegin { EvArg.at e.cl e.cx e.id with m := 1 }

/-- COPY_TRANSLATION_RETRY (R342). -/
def execCopyTranslationRetry (s : State) : Host.Outcome State Fault Refusal := .next (copyRetryEffect s)

/-- CPY_ABORT: only on a running or suspended command of the issuing task; it stops at its next sector step after the first
abort that reaches it (R215). -/
def cpyAbortEffect (h : BitVec 4) (s : State) : State :=
  let u := s.issue
  match (s.cluster u.cl).chan h.toNat with
  | none => s
  | some k =>
    if k.task = s.issueCtx.task ∧ (k.state = 1 ∨ k.state = 2) then
      (s.setChan u.cl h.toNat { k with abortAt := some (k.abortAt.getD (s.now + 6)) }).post (s.now + 6) .copySectorStep
        { EvArg.at u.cl h.toNat k.cmd with m := 3 }
    else s

/-- CPY_ABORT (R215). -/
def execCpyAbort (h : BitVec 4) (s : State) : Host.Outcome State Fault Refusal :=
  .next (s.asBundle (.cpyAbort h) (cpyAbortEffect h))

end Sys2Proof.Machine
end

