-- ==== Sys2Proof/Machine/Kslot.lean ====
section
/-! DEFINITION. K-slot operations of a context itself: write-pointer and context queries, waits judged on the cluster,
fences, stage queues, the counter random state, launches (R74, R75, R108 to R110, R131, R132, R210, R213, R214, R220 to
R225). -/

namespace Sys2Proof.Machine

/-! ### Counter random state (R74, R75, R222) -/

/-- Rotation amounts of R74. -/
def rngRot : List Nat := [16, 42, 12, 31, 16, 32, 24, 21, 8, 40]

/-- One round of the block function (R74). -/
def rngRound (k0 k1 : W64) (x : W64 × W64) (i : Nat) : W64 × W64 :=
  let x0 := x.1 + x.2 + (if i % 2 = 0 then k0 else k1) + BitVec.ofNat 64 (i * 0x9E3779B97F4A7C15)
  (x0, x.2.rotateLeft (nth rngRot i 0) ^^^ x0)

/-- The block function F: two dwords holding words 0 to 3 (R74). -/
def rngBlock (k0 k1 : W64) (b : BitVec 126) : W64 × W64 :=
  (List.range 10).foldl (rngRound k0 k1) (b.setWidth 64, (b.extractLsb' 64 62).setWidth 64)

/-- Draw number n (R74). -/
def draw (k0 k1 : W64) (n : BitVec 128) : W32 :=
  let x := rngBlock k0 k1 (n.extractLsb' 2 126)
  match n.toNat % 4 with
  | 0 => x.1.setWidth 32
  | 1 => x.1.extractLsb' 32 32
  | 2 => x.2.setWidth 32
  | _ => x.2.extractLsb' 32 32

/-- A 128-bit value from two dwords, low first (R222). -/
def wide (lo hi : W64) : BitVec 128 := hi ++ lo

/-- RNG_KEY (R222). -/
def execRngKey (a b : BitVec 6) (s : State) : Host.Outcome State Fault Refusal :=
  .next (s.asBundle (.rngKey a b) (fun s => s.modIssue (fun c => { c with key0 := s.opG a, key1 := s.opG b })))

/-- RNG_CTR (R222). -/
def execRngCtr (a b : BitVec 6) (s : State) : Host.Outcome State Fault Refusal :=
  .next (s.asBundle (.rngCtr a b) (fun s => s.modIssue (fun c => { c with draw := wide (s.opG a) (s.opG b) })))

/-- RNG_SKIP (R222). -/
def execRngSkip (a b : BitVec 6) (s : State) : Host.Outcome State Fault Refusal :=
  .next (s.asBundle (.rngSkip a b) (fun s => s.modIssue (fun c => { c with draw := c.draw + wide (s.opG a) (s.opG b) })))

/-- RNG_NEXT (R222). -/
def execRngNext (c : BitVec 6) (s : State) : Host.Outcome State Fault Refusal :=
  .next (s.asBundle (.rngNext c) (fun s => s.modIssue (fun x =>
    { (x.setG c.toNat ((draw x.key0 x.key1 x.draw).setWidth 64)) with draw := x.draw + 1 })))

/-- RNG_SAVE (R222). -/
def execRngSave (c : BitVec 6) (s : State) : Host.Outcome State Fault Refusal :=
  .next (s.asBundle (.rngSave c) (fun s => s.modIssue (fun x =>
    (((x.setG c.toNat x.key0).setG (c.toNat + 1) x.key1).setG (c.toNat + 2) (x.draw.setWidth 64)).setG (c.toNat + 3)
      (x.draw.extractLsb' 64 64))))

/-! ### Local queries (R210, R213, R224, R225) -/

/-- Put a read for a register in flight: it is made at the end of a cycle, as the other events of the cycle leave what it reads
(R125, R210). -/
def State.readLater (s : State) (cl cx t : Nat) (d : Dest) (v : W64) : State :=
  (s.modCtx cl cx (fun c => { c with inflight := c.inflight ++ [.scalarAt t d v 0] })).post t .resultLand
    { EvArg.at cl cx 0 with n := 2 }

/-- Start a read whose register is empty until it comes (R210). -/
def State.query (s : State) (c : BitVec 6) (t : Nat) (d : Nat → Dest) : State :=
  let id := s.uid
  let s := ({ s with uid := id + 1 }).modIssue (fun x => x.emptyG c.toNat id)
  s.readLater s.issue.cl s.issue.cx t (d id) 0

/-- Start a local query: read at cycle 6, its register full at cycle 7 (R210). -/
def State.localQuery (s : State) (kword : W32) (c : BitVec 6) : State :=
  s.query c (s.now + 6) (fun id => .query kword c.toNat id)

/-- CPY_WP (R213). -/
def execCpyWp (c : BitVec 6) (h : BitVec 4) (s : State) : Host.Outcome State Fault Refusal :=
  .next (s.asBundle (.cpyWp c h) (fun s => s.localQuery ((encode (.cpyWp c h)).getD 0) c))

/-- SYS_CTX (R224). -/
def execSysCtx (c : BitVec 6) (sel : BitVec 4) (s : State) : Host.Outcome State Fault Refusal :=
  .next (s.asBundle (.sysCtx c sel) (fun s => s.localQuery ((encode (.sysCtx c sel)).getD 0) c))

/-- SYS_FLG: the copies of cores 3 to 0 are read in their cycles 0, 2, 4 and 6, which are cycle 6 of core 0, and the register is
full at cycle 7 (R11, R225, log 17). -/
def execSysFlg (c : BitVec 6) (s : State) : Host.Outcome State Fault Refusal :=
  .next (s.asBundle (.sysFlg c) (fun s => s.query c s.now (fun id => .copies 3 c.toNat id)))

/-- Store-queue entries in use (R203). -/
def Ctx.storeQueue (c : Ctx) : Nat :=
  (c.accs.filter (fun a => !a.left && !a.performed && (match a.kind with | .store | .red _ | .pf => true | _ => false))).length

/-- Segment count at a cycle (R22). -/
def State.segCount (s : State) (cl cx : Nat) : Nat :=
  let c := s.ctx cl cx
  if (s.cluster cl).run = some cx ∧ !c.fetching then c.seg.count + (s.now - c.segAt) else c.seg.count

/-- Code of a channel for a task: 7 while another task's command runs or is suspended, else the state of the task's own latest
command (R224). -/
def chanCode (k : Option Channel) (task : Nat) : Nat :=
  match k with
  | none => 0
  | some k =>
    if k.task = task then k.state else if k.state = 1 ∨ k.state = 2 then 7
    else ((k.hist.find? (fun h => h.1 == task)).map (·.2)).getD 0

/-- Value of `sys.ctx` selector `sel` (R224). -/
def State.sysCtxValue (s : State) (cl cx sel : Nat) : Nat :=
  let c := s.ctx cl cx
  let t := s.task c
  match sel with
  | 0 => t.pri * 2 ^ 16 + t.region
  | 1 => (32 - c.storeQueue) * 2 ^ 8 + (32 - (c.lq.length + c.ghosts.length))
  | 2 => (List.range 16).foldl (fun n i => n + chanCode (s.cluster cl).chans[i]? c.task * 2 ^ (4 * i)) 0
  | 3 => (List.range 8).foldl (fun n q => n + ((t.queues[q]?).map (fun k => k.tokens.length)).getD 0 * 2 ^ (8 * q)) 0
  | 4 => (List.range 8).foldl (fun n q => n + ((t.queues[q + 8]?).map (fun k => k.tokens.length)).getD 0 * 2 ^ (8 * q)) 0
  | 5 => s.segCount cl cx % 2 ^ 16 * 2 ^ 16 + c.seg.bound
  | 6 => t.tstg * 2 ^ 16 + t.tsp * 2 ^ 8 + t.spbase
  | _ => if t.tstg = 0 then 0 else 3 * 2 ^ 62 + t.sbase

/-- Value of a local query at its cycle 6 (R213, R224, R225). -/
def State.queryValue (s : State) (cl cx : Nat) (kword : W32) : W64 :=
  let c := s.ctx cl cx
  match kop kword with
  | 0x02 =>
    match (s.cluster cl).chan (kword.extractLsb' 0 4).toNat with
    | some k => if k.task = c.task then BitVec.ofNat 64 k.wp else 0
    | none => 0
  | 0x1C => BitVec.ofNat 64 (s.sysCtxValue cl cx (kword.extractLsb' 0 4).toNat)
  | _ => 0

/-! ### Waits judged on the cluster (R108, R131, R132, R210, R214, R220, R221) -/

/-- Begin a wait that the cluster judges from cycle 6 on. -/
def State.localWait (s : State) (kind : WaitKind) (i : Instr) (gc : BitVec 6) (gval : Option Nat) (ops : List W64)
    (esc : Bool) (scope : BitVec 2) : State :=
  let u := s.issue
  let id := s.uid
  (s.startWait kind ((encode i).getD 0) gc gval (deadlineOf (s.opG gc)) ops esc scope).post (s.now + 6) .waitComplete
    (EvArg.at u.cl u.cx id)

/-- CPY_WPWAIT (R214). -/
def execCpyWpwait (a c : BitVec 6) (e : BitVec 1) (sc : BitVec 2) (h : BitVec 4) (s : State) :
    Host.Outcome State Fault Refusal :=
  .next (s.asBundle (.cpyWpwait a c e sc h)
    (fun s => s.localWait .wpwait (.cpyWpwait a c e sc h) c none [s.opG a] (e == 1) sc))

/-- FENCE (R220). -/
def execFence (a c : BitVec 6) (e : BitVec 1) (k sc : BitVec 2) (s : State) : Host.Outcome State Fault Refusal :=
  .next (s.asBundle (.fence a c e k sc)
    (fun s => s.localWait .fence (.fence a c e k sc) c none [s.opG a] (e == 1) sc))

/-- QSEND (R221). -/
def execQsend (a c : BitVec 6) (e : BitVec 1) (q : BitVec 4) (s : State) : Host.Outcome State Fault Refusal :=
  .next (s.asBundle (.qsend a c e q) (fun s => s.localWait .qsend (.qsend a c e q) c none [s.opG a] (e == 1) 0))

/-- QRECV (R221). -/
def execQrecv (b c : BitVec 6) (e : BitVec 1) (q : BitVec 4) (s : State) : Host.Outcome State Fault Refusal :=
  .next (s.asBundle (.qrecv b c e q) (fun s => s.localWait .qrecv (.qrecv b c e q) c (some b.toNat) [] (e == 1) 0))

/-- LAUNCH: the request leaves at cycle 6 for the dispatch unit, once what it releases is performed (R120, R223). -/
def execLaunch (a b c : BitVec 6) (e : BitVec 1) (s : State) : Host.Outcome State Fault Refusal :=
  .next (s.asBundle (.launch a b c e)
    (fun s => s.localWait .launch (.launch a b c e) c none [s.opG a, s.opG b] (e == 1) 2))

/-- A command of this stage runs on the channel or is suspended (R108). -/
def Channel.runsFor (k : Channel) (c : Ctx) : Bool := (k.state == 1 || k.state == 2) && k.task == c.task && k.stage == c.stage

/-- Every stream command of a context has ended, in each core's own cycle (R13, R108). -/
def Ctx.streamsDone (c : Ctx) (now : Nat) : Bool :=
  c.cores.all (fun k => k.cmds.isEmpty && k.late.all (fun x => decide (x.1 ≤ now)))

/-- A V-slot access of a context that reads, or one that writes, still moves rows (R98). -/
def State.rowsOf (s : State) (cl cx : Nat) (write : Bool) : Bool :=
  (s.cluster cl).rows.any (fun j => j.cx == cx && j.write == write && !j.over s.now)

/-- A fence class is complete: loads and atomics when their entries are delivered or marked, stores and posted counter
operations when they are performed (R108, R131, R431). -/
def State.classDone (s : State) (cl cx i : Nat) : Bool :=
  let c := s.ctx cl cx
  match i with
  | 0 => !c.accs.any (fun a => !a.answered && (match a.kind with | .load _ _ | .atomic _ => true | _ => false)) &&
      !s.rowsOf cl cx false
  | 1 => !c.accs.any (fun a => match a.kind with | .store | .red _ => true | _ => false) && !s.rowsOf cl cx true
  | 2 => !c.accs.any (fun a => !a.answered &&
      (match a.kind with | .atomic _ | .ctrAdd | .ctrMax | .ctrReset => true | _ => false))
  | 19 => c.streamsDone s.now
  | _ => !((s.cluster cl).chan (i - 3)).any (fun k => k.runsFor c)

/-- Mask of the complete classes, one for every class not selected (R131). -/
def State.fenceMask (s : State) (cl cx : Nat) (mask : W64) : Nat :=
  (List.range 20).foldl (fun n i => if !mask.getLsbD i || s.classDone cl cx i then n + 2 ^ i else n) 0

/-- Copy commands that a context has started have begun: a release follows its copy starts (R104). -/
def State.startsDone (s : State) (cl cx : Nat) : Bool :=
  let c := s.ctx cl cx
  (List.range 16).all (fun i => !((s.cluster cl).chan i).any (fun k => k.runsFor c && !k.begun))

/-- Earlier acquires of a context are performed, so that its later K-slot operations may be (R104). -/
def Ctx.acquiresDone (c : Ctx) (covers : List Nat) : Bool :=
  !c.accs.any (fun a => covers.contains a.id && !a.performed && a.kind != .pf && (a.acquires || a.pieces.isEmpty))

/-- Outcome of judging a wait: not yet, or a status with its detail and value. -/
inductive Judged where
  | notYet
  | ended (st : Byte) (detail : Nat) (val : W64)
  deriving DecidableEq, Repr

/-- Append a token to a queue of a task (R221). -/
def Task.push (t : Task) (q now : Nat) (v : W64) : Task :=
  { t with queues := t.queues.modify q (fun k => { k with tokens := k.tokens ++ [(now, v)] }) }

/-- Remove the oldest token of a queue (R221). -/
def Task.pop (t : Task) (q now : Nat) : Task :=
  { t with queues := t.queues.modify q (fun k => { k with tokens := k.tokens.tail, popAt := now }) }

/-- A stage that has issued END has a qsend in its END bundle still to be judged: its tokens are not all in the queues yet (R29,
R162, R221, R308). -/
def State.sending (s : State) (cl task stage : Nat) : Bool :=
  (List.range 8 ++ s.shadows cl).any (fun x =>
    let c := s.ctx cl x
    c.occ == .ended && c.task == task && c.stage == stage && c.wait.any (fun w => w.kind == .qsend))

/-- Judge a wait at a cycle (R214, R220, R221, R29). -/
def State.judge (s : State) (cl cx : Nat) (w : Wait) : Judged × State :=
  let c := s.ctx cl cx
  let t := s.task c
  match w.kind with
  | .wpwait =>
    match (s.cluster cl).chan (w.kword.extractLsb' 0 4).toNat with
    | none => (.ended 7 0 0, s)
    | some k =>
      if k.task ≠ c.task then (.ended 7 0 0, s)
      else if (nth w.ops 0 0).toNat ≤ k.wp then (.ended 0 0 0, s)
      else if k.state = 1 ∨ k.state = 2 then (.notYet, s) else (.ended 7 0 0, s)
  | .fence =>
    let m := s.fenceMask cl cx (nth w.ops 0 0)
    if m = 2 ^ 20 - 1 then (.ended 0 m 0, s) else (.notYet, s)
  | .qsend =>
    let q := (w.kword.extractLsb' 0 4).toNat
    match t.queues[q]? with
    | none => (.ended 7 0 0, s)
    | some k =>
      if t.ended.contains k.consumer then (.ended 7 0 0, s)
      else if k.tokens.length + (if k.popAt = s.now then 1 else 0) < k.depth && s.coversDone cl w.covers && s.startsDone cl cx then
        (.ended 0 0 0, s.modTask c.task (fun t => t.push q s.now (nth w.ops 0 0)))
      else (.notYet, s)
  | .qrecv =>
    let q := (w.kword.extractLsb' 0 4).toNat
    match t.queues[q]? with
    | none => (.ended 7 0 0, s)
    | some k =>
      match k.tokens with
      | (at_, v) :: _ =>
        if at_ < s.now && c.acquiresDone w.covers then (.ended 0 0 v, s.modTask c.task (fun t => t.pop q s.now)) else (.notYet, s)
      | [] => if t.ended.contains k.producer && !s.sending cl c.task k.producer then (.ended 7 0 0, s) else (.notYet, s)
  | _ => (.notYet, s)

/-- Send the request of a launch on its way (R120, R223). -/
def State.sendLaunch (s : State) (cl cx : Nat) (w : Wait) (c : Ctx) : State :=
  let region := (nth w.ops 1 0).toNat
  let die := region % 4096 / 64
  let h := hops (clusterStop cl) (frondStop die)
  s.post (s.now + 25 + 3 * h) .launchEnqueue
    { EvArg.at cl cx w.id with
      who := c.who cl cx
      launch := { addr := nth w.ops 0 0, region := region, by_ := .task c.task, who := c.who cl cx, waitId := w.id, seq := 0
                  deadline := if w.d = 0 then 0 else w.deadline, arrived := s.now + 25 + 3 * h, dom := c.dom, inc := c.inc } }

/-- WAIT_COMPLETE: a wait that the cluster judges is judged from cycle 6 on, in every cycle; its status is delivered in
the cycle after it is met (R125, R210, R221). With D = 0 it is judged once; with D > 0 an answer that could not be
delivered by s0 + D has no effect (R123). With `n` = 1 the status in `status` is delivered. A wait under eviction is
judged after its restore (R135). The request of a launch in an END bundle leaves, and its answer finds no stage (R28, R356). -/
def waitCompleteEffect (s : State) : State :=
  let e := s.ev
  let c := s.ctx e.cl e.cx
  match c.wait with
  | none => s
  | some w =>
    if w.id ≠ e.id then s
    else if e.n = 1 then s.endWait e.cl e.cx e.status e.m e.v
    else if c.occ = .evicting then s
    else
      match w.kind with
      | .launch =>
        if w.sent then s
        else if s.coversDone e.cl w.covers && s.startsDone e.cl e.cx then
          (s.setCtx e.cl e.cx { c with wait := if c.occ = .ended then none else some { w with sent := true } }).sendLaunch
            e.cl e.cx w c
        else s.post (s.now + 1) .waitComplete e
      | _ =>
        let deliver (s : State) (st : Byte) (detail : Nat) (v : W64) : State :=
          (s.modCtx e.cl e.cx (fun c => { c with wait := c.wait.map (fun w => { w with rstat := some st }) })).post
            (s.now + 1) .waitComplete { e with n := 1, status := st, m := detail, v := v }
        if w.d ≠ 0 ∧ w.deadline < s.now + 1 then s
        else match s.judge e.cl e.cx w with
          | (.ended st detail v, s) => deliver s st detail v
          | (.notYet, s) =>
            if w.d = 0 then
              (if w.kind = .fence then deliver s 5 (s.fenceMask e.cl e.cx (nth w.ops 0 0)) 0 else deliver s 1 0 0)
            else s.post (s.now + 1) .waitComplete e

/-- WAIT_COMPLETE (R125). -/
def execWaitComplete (s : State) : Host.Outcome State Fault Refusal := .next (waitCompleteEffect s)

/-- WAIT_DEADLINE_EXPIRE: with `n` = 1 the deadline cycle ends, in which a fence's classes are read (R131). Else the deadline passed without an OK answer. A registered counter wait sends its cancel; a ctr.arw
stays blocked until the cancel's answer; a fence ends PARTIAL with its mask; reclaim is judged elsewhere (R123, R130,
R131, R218, R223, R361). -/
def deadlineEffect (s : State) : State :=
  let e := s.ev
  let c := s.ctx e.cl e.cx
  match c.wait with
  | none => s
  | some w =>
    if w.id = e.id ∧ e.n = 1 then
      s.setCtx e.cl e.cx { c with wait := some { w with mask := some (s.fenceMask e.cl e.cx (nth w.ops 0 0)) } }
    else if w.id ≠ e.id ∨ s.now ≤ w.deadline ∨ c.occ = .evicting then s
    else match w.kind with
      | .ctrWait => (if w.d = 0 then s else s.sendCancel e.cl e.cx w.id).endWait e.cl e.cx 1 0 0
      | .ctrArw =>
        let s := s.setCtx e.cl e.cx { c with wait := some { w with cancelSent := true } }
        (s.sendCancel e.cl e.cx w.id).post (w.deadline + 4097) .arwIndeterminate (EvArg.at e.cl e.cx w.id)
      | .fence => s.endWait e.cl e.cx 5 (w.mask.getD (s.fenceMask e.cl e.cx (nth w.ops 0 0))) 0
      | .launch => ({ s with launches := s.launches.filter (fun l => l.waitId != w.id) }).endWait e.cl e.cx 1 0 0
      | .reclaim => s
      | _ => s.endWait e.cl e.cx 1 0 0

/-- WAIT_DEADLINE_EXPIRE (R123). -/
def execWaitDeadlineExpire (s : State) : Host.Outcome State Fault Refusal := .next (deadlineEffect s)

end Sys2Proof.Machine
end

