-- ==== Sys2Proof/Machine/Land.lean ====
section
/-! DEFINITION. The landing of fixed-latency results and of replayed snapshot entries (R11, R52, R156, R160, R231, R333). -/

namespace Sys2Proof.Machine

/-- Lanes of `new` where the mask has a one, lanes of `old` elsewhere (R229, R333). -/
def VReg.merge (old new : VReg) (m : BitVec 1024) : VReg :=
  { lanes := (List.range 1024).map (fun i => if m.getLsbD i then nth new.lanes i 0 else nth old.lanes i 0) }

/-- Flags that a result raises on core `k`: those of its four quarters (R52, R332). -/
def Landing.flagsOn (l : Landing) (k : Nat) : Byte := orFlags ((l.flags.drop (4 * k)).take 4)

/-- A result lands on core `k` of a context; a core without lanes in its mask has no part in it (R332). -/
def CoreCtx.land (x : CoreCtx) (now k : Nat) (l : Landing) : CoreCtx :=
  let m := nth l.lmask k 0
  let x := match l.dest with
    | .vreg r => { x with v := x.v.set r ((x.vreg r).merge (nth l.vec k .zero) m) }
    | .mask n => if m = 0 then x else { x with k := x.k.set (n - 1) (nth l.masks k 0) }
    | .bypass => if m = 0 then x else { x with bypass := nth l.codes k [], target := l.target }
    | _ => x
  x.landFlag now (l.flagsOn k)

/-- Places that a result writes whole: an error that stood there is gone (R379). -/
def Landing.places (l : Landing) : List ErrPlace :=
  match l.dest with
  | .alu0 => [.latch 0x50]
  | .alu1 => [.latch 0x51]
  | .prd => [.latch 0x55]
  | .mul _ => [.latch 0x52, .latch 0x53]
  | .vreg r => ((List.range 4).filter (fun k => nth l.lmask k 0 == BitVec.allOnes 1024)).map (fun k => .vreg k r)
  | .mask n => ((List.range 4).filter (fun k => nth l.lmask k 0 != 0)).map (fun k => .mask k n)
  | .bypass => ((List.range 4).filter (fun k => nth l.lmask k 0 != 0)).map .bypass
  | _ => []

/-- A result lands in a context: scalar latches, or the four cores (R156). -/
def Ctx.land (c : Ctx) (now : Nat) (l : Landing) : Ctx :=
  match l.dest with
  | .alu0 => { c with alu0 := { c.alu0 with q := l.lo } }
  | .alu1 => { c with alu1 := { c.alu1 with q := l.lo } }
  | .prd => { c with prd := { c.prd with q := l.lo } }
  | .mul _ => { c with mul := { c.mul with q := l.lo, qh := l.hi } }
  | .vreg _ | .mask _ | .bypass =>
    { c with cores := (List.range 4).map (fun k => (nth c.cores k .fresh).land now k l) }
  | _ => c

/-- A result has landed: what it wrote is sound again, and a replayed one leaves the snapshot buffer (R333, R379). -/
def Ctx.landed (c : Ctx) (l : Landing) : Ctx :=
  let left := if c.replaying then c.snap.filter (fun x => x.tok != l.tok) else c.snap
  { c with
    snap := left
    replaying := c.replaying && !left.isEmpty
    errs := if c.errs.isEmpty then [] else c.errs.filter (fun e => !l.places.contains e.place) }

/-- A read made at the end of a cycle: its destination comes before the results that land. -/
def Dest.reads : Dest → Bool
  | .query _ _ _ | .copies _ _ _ => true
  | _ => false

/-- A local query, or core `k`'s flag copies, are read; a register fills in the cycle after its value is read (R210, R225). -/
def State.readDue (s : State) (cl cx : Nat) : State :=
  let c := s.ctx cl cx
  let due (l : Landing) : Bool := l.dest.reads && decide (l.time ≤ s.now)
  match c.inflight.find? due with
  | none => s
  | some l =>
    let s := s.setCtx cl cx { c with inflight := c.inflight.eraseP due }
    let fill (s : State) (reg tok : Nat) (v : W64) : State :=
      (s.modCtx cl cx (fun c => { c with inflight := c.inflight ++ [.scalarAt (s.now + 1) (.greg reg tok) v 0] })).post
        (s.now + 1) .resultLand (EvArg.at cl cx 0)
    match l.dest with
    | .query kw reg tok => fill s reg tok (s.queryValue cl cx kw)
    | .copies k reg tok =>
      let v := l.lo ||| c.flagCopy k
      if k = 0 then fill s reg tok v else s.readLater cl cx (s.now + 2) (.copies (k - 1) reg tok) v
    | _ => s

/-- RESULT_LAND: the first result due lands, in issue order, and the rows it waits for have moved (R11, R233). With `n` = 1 only
the rows that are due move, with `n` = 2 a read is made (R210, R225). -/
def resultLandEffect (s : State) : State :=
  let e := s.ev
  if e.n = 1 then s.settleRows e.cl
  else if e.n = 2 then s.readDue e.cl e.cx
  else
    let due (l : Landing) : Bool := !l.dest.reads && decide (l.time ≤ s.now)
    match (s.ctx e.cl e.cx).inflight.find? due with
    | none => s
    | some l0 =>
      let s := if l0.tok = 0 then s else s.forceRows e.cl l0.tok
      let c := s.ctx e.cl e.cx
      let l := (c.inflight.find? due).getD l0
      let c := { c with inflight := c.inflight.eraseP due }
      match l.dest with
      | .greg reg tok => (s.setCtx e.cl e.cx c).fillReg e.cl e.cx reg tok l.lo
      | .mul true => (s.setCtx e.cl e.cx ((c.land s.now l).landed l)).wake e.cl e.cx
      | _ => s.setCtx e.cl e.cx ((c.land s.now l).landed l)

/-- RESULT_LAND (R11). -/
def execResultLand (s : State) : Host.Outcome State Fault Refusal := .next (resultLandEffect s)

end Sys2Proof.Machine
end

