-- ==== Sys2Proof/Machine/Arbiter.lean ====
section
/-! DEFINITION. The cluster arbiter: bounds, ranking, slices and the pick (R22, R199, R232, R323 to R327). -/

namespace Sys2Proof.Machine

/-- Pass length of a stream exponent, in cycles (R263). -/
def passLen (m : Nat) : Nat := Max.max 1 (2 ^ m / 64)

/-- A command is a run: arun, arun.bt or chk (R172). -/
def StreamCmd.isRun (c : StreamCmd) : Bool := c.op == 0x06 || c.op == 0x07 || c.op == 0x11

/-- Pending estimate of a run command (R327). -/
def StreamCmd.estimate (c : StreamCmd) : Nat :=
  let d := actDesc (nth c.opnd 0 0) (nth c.opnd 1 0) (nth c.opnd 2 0) (nth c.opnd 3 0)
  if c.isRun then d.nvec * passLen c.m * ((d.nrow + 15) / 16) else 0

/-- Pending estimate of a context: each unfinished command once, whichever cores still hold it (R327). -/
def Ctx.estimate (c : Ctx) : Nat :=
  let all := c.cores.foldl (fun l k => l ++ k.cmds.filter (fun x => !l.any (fun y => y.cidx == x.cidx))) []
  (all.map (·.estimate)).foldl (· + ·) 0

/-- Power score of a context on a cluster (R327). -/
def State.powerScore (s : State) (cl : Nat) (c : Ctx) : Nat :=
  let f := s.frond (cl / 2)
  if f.cap ≤ 8 * f.bucket then 0 else c.estimate

/-- Stage pressure: tokens consumed less tokens produced (R324). -/
def State.pressure (s : State) (c : Ctx) : Int :=
  (s.task c).queues.foldl (fun n q =>
    n + (if q.consumer = c.stage then (q.tokens.length : Int) else 0) -
      (if q.producer = c.stage then (q.tokens.length : Int) else 0)) 0

/-- Stated bound of a ready context (R323). -/
def State.statedBound (s : State) (c : Ctx) : Nat :=
  if !c.begun then (s.task c).ymax else if c.yielded then c.seg.bound else c.seg.bound - c.seg.count

/-- Context `x` ranks before context `y` on a cluster (R324). -/
def State.ranks (s : State) (cl x y : Nat) : Bool :=
  let a := s.ctx cl x
  let b := s.ctx cl y
  let pa := (s.task a).pri
  let pb := (s.task b).pri
  let qa := s.pressure a
  let qb := s.pressure b
  let wa := s.powerScore cl a
  let wb := s.powerScore cl b
  if pa ≠ pb then decide (pa < pb)
  else if qa ≠ qb then decide (qb < qa)
  else if wa ≠ wb then decide (wa < wb)
  else if a.readyAt ≠ b.readyAt then decide (a.readyAt < b.readyAt)
  else decide (x < y)

/-- Highest-ranked context of a list. -/
def State.best (s : State) (cl : Nat) : List Nat → Option Nat
  | [] => none
  | x :: r =>
    match s.best cl r with
    | none => some x
    | some y => if s.ranks cl x y then some x else some y

/-- The context with the largest PASS of at least 8, the lowest number of those (R325). -/
def State.starved (s : State) (cl : Nat) (l : List Nat) : Option Nat :=
  l.foldl (fun m x =>
    let p := (s.ctx cl x).pass
    match m with
    | none => if 8 ≤ p then some x else none
    | some y => if (s.ctx cl y).pass < p then some x else some y) none

/-- A bound exceeds what is left of the open slice, which is negative once the slice has overrun; with none open 0 is left
(R325). -/
def Cluster.overruns (k : Cluster) (now bound : Nat) : Bool :=
  if k.sliceEnd = 0 then decide (0 < bound) else decide (k.sliceEnd < now + bound)

/-- What the arbiter decides: the context, and the length of the fresh slice it opens, if any (R325). -/
def State.choose (s : State) (cl : Nat) (ready : List Nat) : Option (Nat × Option Nat) :=
  let rem := (s.cluster cl).sliceEnd - s.now
  let bound (x : Nat) : Nat := s.statedBound (s.ctx cl x)
  let slice (x : Nat) : Nat := ((s.fieldsOf (s.ctx cl x)).map (·.slice)).getD 0
  match s.starved cl ready with
  | some x => some (x, if (s.cluster cl).overruns s.now (bound x) then some (slice x) else none)
  | none =>
    match (if 0 < rem then s.best cl (ready.filter (fun x => decide (bound x ≤ rem))) else none) with
    | some x => some (x, none)
    | none =>
      match s.best cl ready with
      | none => none
      | some top =>
        let len := slice top
        some ((s.best cl (ready.filter (fun x => decide (bound x ≤ len)))).getD top, some len)

/-- PASS at the close of a slice (R325). -/
def Ctx.closeSlice (c : Ctx) : Ctx :=
  { c with
    pass := if c.picked then 0 else if c.wasReady then c.pass + 1 else c.pass
    picked := false, wasReady := false }

/-- A context takes the sequencer: its owed STALL cycles, which stay owed until they have passed, and the delay after another
context's tile access, which is not counted in its segment (R199, R232). -/
def Ctx.take (c : Ctx) (now port : Nat) : Ctx :=
  let base := Max.max c.nextIssue (now + c.owed)
  let start := Max.max base port
  let c := { c with begun := true, picked := true, nextIssue := start }
  if base < port then
    { c with seg := { c.seg with count := c.seg.count + (base - Max.max now c.segAt) }, segAt := start }
  else { c with segAt := Max.max c.segAt now }

/-- ARBITER_DECIDE: at the end of its cycle's other steps the idle sequencer is given to a ready context (R23, R325).
A decision that the running context's last cycle still puts off comes later. -/
def arbiterEffect (s : State) : State :=
  let cl := s.ev.cl
  let k := s.cluster cl
  if k.run.isSome || s.agenda.any (fun p => p.ev == .arbiterDecide && p.arg.cl == cl && decide (s.now < p.time)) then s
  else if s.agenda.any (fun p => p.ev != .arbiterDecide && decide (p.time ≤ s.now)) then s.post s.now .arbiterDecide s.ev
  else
    let ready := (List.range 8).filter (fun x => (s.ctx cl x).ready)
    match s.choose cl ready with
    | none => s.modCluster cl (fun k => { k with deciding := false })
    | some (x, fresh) =>
      let s := match fresh with
        | some len =>
          ((List.range 8).filter (fun y => (s.ctx cl y).occ != .free)).foldl (fun (s : State) y => s.modCtx cl y Ctx.closeSlice)
            (s.modCluster cl (fun k => { k with sliceEnd := s.now + len }))
        | none => s
      let s := ready.foldl (fun (s : State) y => s.modCtx cl y (fun c => { c with wasReady := true })) s
      let port := match k.tileAt with
        | some t => if k.tileCx = x then 0 else t + 16
        | none => 0
      (s.modCtx cl x (fun c => c.take s.now port)).modCluster cl (fun k => { k with run := some x, deciding := false })

/-- ARBITER_DECIDE (R325). -/
def execArbiterDecide (s : State) : Host.Outcome State Fault Refusal := .next (arbiterEffect s)

end Sys2Proof.Machine
end

