-- ==== Sys2Proof/Machine/Sequencer.lean ====
section
/-! DEFINITION. The sequencer: fetch lines, the readying of the next bundle of a cluster, checked segments, stops after a
bundle, the delivery of records, and what the module does next (R22, R23, R98, R138 to R163, R203, R258, R329 to R341,
R383, R433). -/

namespace Sys2Proof

/-- A trigger of MUL (R169). -/
def Instr.isMul : Instr → Bool
  | .mul _ _ | .mulh _ _ | .mulhn _ _ | .madd _ _ | .div _ _ | .divn _ _ | .rem _ _ | .remn _ _ => true
  | _ => false

/-- A division trigger (R157). -/
def Instr.isDiv : Instr → Bool
  | .div _ _ | .divn _ _ | .rem _ _ | .remn _ _ => true
  | _ => false

/-- A V slot that reads or writes the scratchpad (R98). -/
def Instr.vectorAccess : Instr → Bool
  | .vld _ _ | .vst _ _ _ | .vldr _ _ _ | .vstr _ _ _ _ => true
  | _ => false

/-- Place of an instruction in the execution of its bundle: port moves, other moves in slot order, V, S, K, the C slots
that act before the successor is chosen, the header, then yield and trapi (R147, R153, R162). -/
def Instr.rank (n : Nat) (i : Instr) : Nat :=
  match i with
  | .moveToOperandPort _ _ _ | .lsuDl _ | .lsuSc _ | .lsuCmp _ | .lsuHi _ => 0
  | .yield _ _ | .trapi _ => 7
  | _ => if n = 0 then 6 else if n = 1 then 5 else if n ≤ 4 then 1 else n - 3

/-- STALL of a header (R138). -/
def Instr.stall : Instr → Nat
  | .seq st _ _ | .jump st _ _ _ | .br st _ _ _ _ | .loop st _ _ | .call st _ _ _ | .ret st _ _ | .ind st _ _ _
  | .endStage st _ _ => st.toNat
  | _ => 0

end Sys2Proof

namespace Sys2Proof.Machine

/-! ### Fetch lines (R140, R433) -/

/-- Packet whose lines a context fetches. -/
def State.packetOf (s : State) (c : Ctx) : Nat := (s.task c).pkt

/-- Line offset of a window offset. -/
def lineOf (pc : BitVec 30) : Nat := pc.toNat / 64 * 64

/-- A line of a packet in a cluster's cache. -/
def Cluster.line (k : Cluster) (pkt off : Nat) : Option Line := k.lines.find? (fun l => l.pkt == pkt && l.off == off)

/-- The running context waits no longer for its line. -/
def State.endFetch (s : State) (cl : Nat) : State :=
  match (s.cluster cl).run with
  | some cx => s.modCtx cl cx (fun c => c.endFetch s.now)
  | none => s

/-- A missing line: the context keeps the sequencer in a fetch wait, and the fill is asked for unless it is on its way
(R141, R369, R433). -/
def State.startFetch (s : State) (cl cx : Nat) : State :=
  let c := s.ctx cl cx
  let key := (s.packetOf c, lineOf c.pc)
  let s := s.setCtx cl cx { c with
    seg := { c.seg with count := c.seg.count + (s.now - c.segAt) }, segAt := s.now, nextIssue := fetchWait }
  if (s.cluster cl).fills.contains key then s
  else
    let s := s.modCluster cl (fun k => { k with fills := key :: k.fills })
    let va := (c.pbase + BitVec.ofNat 64 key.2).toNat % 2 ^ 52
    let off := BitVec.ofNat 64 key.2
    match s.lookup cl 0 c.dom va with
    | (some (t, wait), s) =>
      s.post (s.now + wait) .icacheLineFill
        { EvArg.at cl cx 0 with v := off, w := t.leaf, m := 1, n := t.pa va, who := c.who cl cx }
    | (none, s) => s.startWalk cl 0 (c.who cl cx) va (.fetch cl cx) 0 off

/-- Round trip of a line fill (R433). -/
def State.fillTrip (s : State) (cl pa : Nat) : Nat :=
  let buffered := (sectorsOf pa 64).all (fun x => (s.archive (pa / 2 ^ 37)).prefetch.contains x)
  (if buffered then 44 else 284) + 6 * hops (clusterStop cl) (homeStop pa)

/-- A fill that ended: whoever waits for the line asks again. -/
def State.dropFill (s : State) (cl off : Nat) : State :=
  (s.modCluster cl (fun k => { k with fills := k.fills.filter (fun f => f.2 != off) })).endFetch cl

/-- A fill that failed: the trap is taken at the bundle's issue (R375, R380). -/
def State.failFill (s : State) (cl cx off cls : Nat) : State :=
  let c := s.ctx cl cx
  let s := s.modCluster cl (fun k => { k with fills := k.fills.filter (fun f => f.2 != off) })
  if (s.cluster cl).run = some cx && c.fetching && lineOf c.pc == off then
    s.issueTrap cl cx 0 { cls := cls, engine := 0, addr := c.pbase + c.pc.setWidth 64, esw := 0 }
  else s.endFetch cl

/-- ICACHE_LINE_FILL: the translation of the line is checked, its 64 bytes are read at their home, and the line comes into
the cache of 1,024 lines (R368, R375, R380, R433). `m`: 1 translated, 2 no translation, 3 read, 4 abandoned. -/
def lineFillEffect (s : State) : State :=
  let e := s.ev
  let off := e.v.toNat
  let c := s.ctx e.cl e.cx
  if !c.tagged e.who || e.m = 4 then s.dropFill e.cl off
  else if e.m = 2 then s.failFill e.cl e.cx off 4
  else if e.m = 1 then
    if !(leafP e.w && leafR e.w && (!e.who.user || leafU e.w)) then s.failFill e.cl e.cx off 5
    else if !s.inLpddrN e.n 64 then s.failFill e.cl e.cx off 4
    else s.post (s.now + s.fillTrip e.cl e.n) .icacheLineFill { e with m := 3 }
  else if !s.currentWho (homeStop e.n) e.who then (s.dropStale (homeStop e.n) e.who.dom e.who.inc e.n).dropFill e.cl off
  else
    match s.readHome e.n 64 e.who.dom e.who.inc with
    | (s, none) => s.failFill e.cl e.cx off 6
    | (s, some bs) =>
      (s.modCluster e.cl (fun k => { k with
        lines := ({ pkt := s.packetOf c, off := off, bytes := bs } :: k.lines).take 1024 })).dropFill e.cl off

/-- ICACHE_LINE_FILL (R433). -/
def execIcacheLineFill (s : State) : Host.Outcome State Fault Refusal := .next (lineFillEffect s)

/-! ### Holds that keep the sequencer (R98, R141, R157, R203, R258, R314) -/

/-- A slot takes effect: its guard, if it has one, holds (R152). -/
def performs (p : BitVec 8) (i : Instr) : Bool :=
  match i.moveSrc? with
  | some m => guardOn p m
  | none => true

/-- An access takes a place in the store queue (R203). -/
def AccKind.queued : AccKind → Bool
  | .store | .red _ | .pf => true
  | _ => false

/-- An access of a context writes its own cluster's scratchpad and is not performed (R98). -/
def Access.holdsVector (a : Access) (cl : Nat) : Bool :=
  !a.performed && (a.kind == .store || a.kind.rmw) &&
    a.pieces.any (fun p => decide (2 ^ 49 ≤ p.pa) && decide ((p.pa - 2 ^ 49) / 2 ^ 23 = cl))

/-- An earlier access of a context is an acquire that is not performed: on a page that is not translated yet, by the leaf that
it is going to find (R104, R106). -/
def State.acquiring (s : State) (cl : Nat) (a : Access) : Bool :=
  !a.performed && !a.answered &&
    (if a.pieces.isEmpty then
      (s.translate (nth (s.cluster cl).tlbs 0 [] ++ s.tlb2 (cl / 2)) a.who.dom a.va.toNat).any (fun x =>
        a.acquiresOn { pa := 0, len := 0, leaf := x.leaf })
    else a.acquires)

/-- A bundle whose V slot reads or writes the scratchpad waits: for the context's earlier stores there (R98), and for its
earlier acquires (R104). -/
def State.holdsVector (s : State) (cl : Nat) (c : Ctx) (slots : List (Nat × Instr)) : Bool :=
  slots.any (fun e => e.2.vectorAccess) && c.accs.any (fun a => a.holdsVector cl || s.acquiring cl a)

/-- A readied bundle may not issue yet. -/
def Ctx.holds (c : Ctx) (slots : List (Nat × Instr)) : Bool :=
  let on := slots.filter (fun e => performs c.p e.2)
  let lsu (f : AccKind → Bool) : Bool := on.any (fun e => match e.2.lsuKind with | some (k, _, _) => f k | none => false)
  (c.hold.isSome && (on.any (fun e => e.1 == 6 || e.1 == 7) || lsu (fun _ => true))) ||
    (lsu AccKind.queued && decide (32 ≤ c.storeQueue)) ||
    (on.any (fun e => e.1 == 6) && c.cores.any (fun k => decide (16 ≤ k.cmds.length))) ||
    (on.any (fun e => e.2.isMul) && c.dividing) ||
    (on.any (fun e => e.2.isDiv) && c.inflight.any (fun l => l.dest == .mul true || l.dest == .mul false))

/-! ### Segments (R22, R383) -/

/-- SEGMENT_OVERRUN: the context stops before its next bundle with OVERRUN, or with SIG where the count of a checked
segment is right and its CRC is not; a checked segment's record holds the count and the CRC, and its test is not
repeated (R22, R383). -/
def segmentOverrunEffect (s : State) : State :=
  let e := s.ev
  let c := s.ctx e.cl e.cx
  let count := s.segCount e.cl e.cx
  let esw := if c.seg.chk then BitVec.ofNat 64 (count % 2 ^ 16 * 2 ^ 16) ||| c.seg.crc.setWidth 64 else 0
  let s := s.modCtx e.cl e.cx (fun c => { c with seg := { c.seg with tested := c.seg.tested || e.m == 1 } })
  s.takeTrap e.cl e.cx { s.record c e.n 0 c.pc c.pc with esw := esw }

/-- SEGMENT_OVERRUN (R22). -/
def execSegmentOverrun (s : State) : Host.Outcome State Fault Refusal := .next (segmentOverrunEffect s)

/-- How a bundle stands to the segment bound before it issues (R22): true when it may not issue. `b` is the bound a
yield would open. -/
def Ctx.overruns (c : Ctx) (count charge : Nat) (closing : Bool) (b : Option Nat) : Bool :=
  if closing then
    (!(c.seg.chk && c.seg.tested) && decide (c.seg.bound < count)) || (match b with | some n => decide (n < charge) | none => false)
  else decide (c.seg.bound < count + charge)

/-- The class with which the closing test of a checked segment fails, if it does (R383). -/
def Ctx.closingTest (c : Ctx) (count : Nat) (closing : Bool) : Option Nat :=
  if !closing || !c.seg.chk || c.seg.tested then none
  else if count ≠ c.seg.rb then some 8
  else if c.seg.crc ≠ c.seg.sig then some 9 else none

/-! ### The next bundle of a cluster -/

/-- What the module does next: it performs a step that is due, issues a bundle, or goes to another state without one. -/
inductive Work where
  | event (i : Instr) (s : State)
  | bundle (slots : List (Nat × Instr)) (s : State)
  | to (s : State)
  | idle

/-- What a cluster's sequencer can do: nothing before a cycle (none: before some event), or some work. -/
inductive Attempt where
  | wait (t : Option Nat)
  | go (w : Work)

/-- Pair each performed move with its value, in slot order. -/
def pairValues (p : BitVec 8) : List (Nat × Instr) → List W64 → List (Nat × Instr × Option W64)
  | [], _ => []
  | (n, i) :: r, vs =>
    if i.moveSrc?.isSome && performs p i then (n, i, some (vs.headD 0)) :: pairValues p r vs.tail
    else (n, i, none) :: pairValues p r vs

/-- Slots in the order of their execution. -/
def inOrder {α : Type} (l : List (Nat × Instr × α)) : List (Nat × Instr × α) :=
  (List.range 8).flatMap (fun r => l.filter (fun e => e.2.1.rank e.1 == r))

/-- Number the results of a list that have no number, from a number up. -/
def numberFrom : Nat → List Landing → List Landing
  | _, [] => []
  | n, l :: r => (if l.tok = 0 then { l with tok := n } else l) :: numberFrom (n + 1) r

/-- Captured results are replayed from the first bundle that issues after a resume; each stays in the buffer until it has
landed (R333). -/
def State.startReplay (s : State) (cl cx : Nat) : State :=
  let c := s.ctx cl cx
  if c.snap.isEmpty || c.replaying then s
  else
    let snap := numberFrom s.uid c.snap
    let replay := snap.map (fun l => { l with time := s.now + l.time })
    let s := { s with uid := s.uid + snap.length }.setCtx cl cx
      { c with inflight := c.inflight ++ replay, snap := snap, replaying := true }
    replay.foldl (fun s l => s.post l.time .resultLand (EvArg.at cl cx 0)) s

/-- Issue a readied bundle: the segment is charged up to now, captured results are replayed from this cycle, and the slots
take effect in order (R13, R22, R153, R162, R333). -/
def State.issueBundle (s : State) (cl cx : Nat) (b : Bundle) (vals : List W64) (esc : Bool) : Work :=
  let c := s.ctx cl cx
  let slots := inOrder (pairValues c.p ((0, b.hdr) :: b.slots) vals)
  let s := (s.setCtx cl cx { c with
    seg := { c.seg with count := c.seg.count + (s.now - c.segAt) }, segAt := s.now, owed := 0, yielded := false }).startReplay
    cl cx
  let s := if esc then s.post s.now .contextStop 
    { EvArg.at cl cx 0 with n := 12, v := c.stat.setWidth 64, who := c.who cl cx, value := c.pc.setWidth 128 } else s
  .bundle (slots.map (fun e => (e.1, e.2.1)))
    { s with issue := { cl := cl, cx := cx, live := false, hdr := b.word, pc := c.pc, x := b.x, size := b.size
                        srcs := slots.filterMap (fun e => e.2.2), slot := 0, p := c.p, g := c.g, rrb := c.rrb
                        succ := none, far := none } }

/-- Hold a bundle on its sources: the context is blocked and gives the sequencer up (R23, R129). -/
def State.holdBundle (s : State) (cl cx : Nat) (h : Held) : State :=
  let s := (s.modCtx cl cx (fun c => { c with held := some h, heldEnd := 0, yielded := false })).releaseSeq cl cx
  s.post (s.now + h.budget + 1) .mdlExpire (EvArg.at cl cx 0)

/-- A decoded bundle at its issue: bound, privilege, sources that are not there, the holds that keep the sequencer, what traps at
issue, closing test (R22, R163, R232, R248, R383). -/
def State.attemptBundle (s : State) (cl cx : Nat) (b : Bundle) : Attempt :=
  let c := s.ctx cl cx
  let count := s.segCount cl cx
  let closing := match b.hdr with
    | .endStage _ _ _ => true
    | _ => b.slots.any (fun e => match e.2 with | .yield _ _ => true | _ => false)
  let opens := b.slots.findSome? (fun e => match e.2 with
    | .yield rb _ => some (Min.min rb.toNat (s.task c).ymax)
    | _ => none)
  let barred := ((0, b.hdr) :: b.slots).any (fun e => e.2.privileged && !c.super)
  let waits := c.holds b.slots || s.holdsVector cl c b.slots
  let overrun (cls m : Nat) : Attempt :=
    .go (.event .segmentOverrun { s with ev := { EvArg.at cl cx 0 with n := cls, m := m } })
  if c.overruns count (1 + b.hdr.stall) closing opens then overrun 8 (if closing then 1 else 0)
  else match s.prepare cl cx b.x ((0, b.hdr) :: b.slots) false with
    | .trap s' => if waits && !barred then .wait (some (s.now + 1)) else .go (.to s')
    | .hold h => .go (.to (s.holdBundle cl cx h))
    | .go s' vals esc =>
      if waits then .wait (some (s.now + 1))
      else match c.closingTest count closing with
        | some cls => overrun cls 1
        | none => .go (s'.issueBundle cl cx b vals esc)

/-- The context that holds a cluster's sequencer at the present cycle (R139, R140, R141, R163). -/
def State.attempt (s : State) (cl cx : Nat) : Attempt :=
  let c := s.ctx cl cx
  if c.fetching || s.port.thermal then .wait none
  else if s.now < c.nextIssue then .wait (some c.nextIssue)
  else match (s.cluster cl).line (s.packetOf c) (lineOf c.pc) with
    | none => .go (.to (s.startFetch cl cx))
    | some l =>
      let bytes := l.bytes.drop (c.pc.toNat % 64)
      if !(nth bytes 3 0).getLsbD 7 then
        .go (.to (s.setCtx cl cx { c with pc := BitVec.ofNat 30 (lineOf c.pc + 64) }))
      else match decodeBundle bytes with
        | .error e => .go (.to (s.issueTrap cl cx e.2 (.of 1)))
        | .ok b => s.attemptBundle cl cx b

/-! ### Stops and records (R329 to R341) -/

/-- CONTEXT_STOP: a context stops at its boundary, with a record when a cause is given: class `n`, slot and engine in
`m`, bundle in `value`, the operation that caused it in `id` (R330, R339, R341). Work outstanding at END that fails fails its
task (R28). An escalating expiry that a pop of an END bundle meets fails the task with DENIED too: DESIGN CHOICE, R133 names no
outcome for a stage that is over (log 89). -/
def contextStopEffect (s : State) : State :=
  let e := s.ev
  let c := s.ctx e.cl e.cx
  if !c.tagged e.who then s
  else if c.occ = .ended then (if c.parked then s else s.failTask c.task (if e.n = 6 then 4 else 7))
  else if e.n = 0 then s.stopCtx e.cl e.cx
  else s.takeTrap e.cl e.cx
    { s.record c e.n (e.m / 16) (e.value.setWidth 30) c.pc with
      ord := if e.id = 0 then s.uid else e.id, engine := e.m % 16, esw := e.v, addr := e.w }

/-- CONTEXT_STOP (R329). -/
def execContextStop (s : State) : Host.Outcome State Fault Refusal := .next (contextStopEffect s)

/-- Head command of a context on a core with a command index, stopped by a fault (R262). -/
def CoreCtx.faulted (x : CoreCtx) (cidx : W64) : Option StreamCmd :=
  match x.cmds with
  | cmd :: _ => if cmd.cidx.setWidth 64 == cidx && cmd.cur.state == 2 then some cmd else none
  | [] => none

/-- The record of a stream fault as it is written: the cores that have reported by now, and POS, CAUSE and address of
the lowest of them (R262). -/
def Ctx.streamRecord (c : Ctx) (r : TrapRec) : TrapRec :=
  if r.engine ≠ 3 ∨ r.cidx = 0 then r
  else
    let at_ (k : Nat) : Option StreamCmd := (nth c.cores k .fresh).faulted r.cidx
    let mask := ((List.range 4).map (fun k => if (at_ k).isSome then 2 ^ (52 + k) else 0)).foldl (· + ·) 0
    match (List.range 4).findSome? at_ with
    | none => r
    | some cmd =>
      { r with
        esw := BitVec.ofNat 64 (mask + cmd.op.toNat * 2 ^ 42 + cmd.cur.pos % 2 ^ 16 * 2 ^ 16 + cmd.cur.cause)
        addr := cmd.faultAt }

/-- TRAP_DELIVERY: the oldest record of a context that is not delivered goes to its region's trap area; consumed poison
is noted for its task (R341, R379, R388). -/
def trapDeliveryEffect (s : State) : State :=
  let e := s.ev
  let c := s.ctx e.cl e.cx
  match c.pend with
  | [] => s
  | r :: rest =>
    let s := s.setCtx e.cl e.cx { c with pend := rest, lastCls := r.cls }
    let s := if r.cls = 6 then s.poisonTask c.task else s
    s.deliverRecord (c.streamRecord r) (e.cl / 2)

/-- TRAP_DELIVERY (R341). -/
def execTrapDelivery (s : State) : Host.Outcome State Fault Refusal := .next (trapDeliveryEffect s)

/-! ### The next step of the module -/

/-- The clusters' sequencers in rising number: the first that can do something, else the earliest cycle at which one
can. -/
def State.attempts (s : State) : List (Nat × Cluster) → Attempt
  | [] => .wait none
  | (cl, k) :: r =>
    match k.run with
    | none => s.attempts r
    | some cx =>
      match s.attempt cl cx with
      | .go w => .go w
      | .wait t =>
        match s.attempts r with
        | .go w => .go w
        | .wait u =>
          match t, u with
          | some t, some u => .wait (some (Min.min t u))
          | some t, none => .wait (some t)
          | none, u => .wait u

/-- The context that a step stops: a park or an eviction names it in its target dword (R346). -/
def Pending.stops (p : Pending) : Nat × Nat :=
  match p.ev with
  | .ctxParkAtTarget | .ctxEvictAtTarget => (targetCl p.arg.target.target, targetCx p.arg.target.target)
  | _ => (p.arg.cl, p.arg.cx)

/-- A trap at the issue of a context's next bundle meets the boundary at which another cause stops it: it is found first, so
that both records come from one stop (R341, R350, log 74). -/
def State.trapFirst (s : State) (p : Pending) : Option Work :=
  let x := p.stops
  if p.rank ≠ 2 ∨ (s.cluster x.1).run ≠ some x.2 then none
  else match s.attempt x.1 x.2 with
    | .go (.to s') => if (s'.ctx x.1 x.2).parked then some (.to s') else none
    | .go (.event i s') => some (.event i s')
    | _ => none

/-- What the module does next: a step that is due, else a bundle of some cluster, else the clock goes on to the next
cycle in which one of these can happen. -/
def State.nextWork (s : State) : Work :=
  let later (t : Option Nat) : Work :=
    match s.agenda, t with
    | p :: _, some t => .to { s with now := Min.min p.time t }
    | p :: _, none => .to { s with now := p.time }
    | [], some t => .to { s with now := t }
    | [], none => if s.port.powered then .to { s with now := s.now + 1 } else .idle
  let issue : Work :=
    match s.attempts s.clusters with
    | .go w => w
    | .wait t => later t
  match s.agenda with
  | p :: r =>
    if p.time ≤ s.now then (s.trapFirst p).getD (.event p.ev { s with agenda := r, ev := p.arg }) else issue
  | [] => issue

/-- The bundle in issue is done. -/
def State.endBundle (s : State) : State := { s with issue := .none }

/-- The slot whose instruction is next. -/
def State.atSlot (s : State) (n : Nat) : State := { s with issue := { s.issue with slot := BitVec.ofNat 4 n } }

end Sys2Proof.Machine
end

