-- ==== Sys2Proof/Machine/Fp.lean ====
section
/-! DEFINITION. Floating arithmetic of f32 and w16: exact results rounded once, minimum and maximum, compares,
conversions and quantisation (R35 to R46). -/

namespace Sys2Proof.Machine

/-! ### Values (R36) -/

/-- A decoded floating value: a NaN, an infinity, or (−1)^neg · m · 2^e. -/
inductive Fp where
  | nan (signalling : Bool)
  | inf (neg : Bool)
  | fin (neg : Bool) (m : Nat) (e : Int)
  deriving DecidableEq, Repr

/-- Fraction width of an fp type: 23 for f32, 7 for w16 (R36). -/
def fracW (t : BitVec 3) : Nat := if t = 6 then 23 else 7

/-- Decode the bits of a format with fraction width `p` (R36). -/
def fpOf (p bits : Nat) : Fp :=
  let f := bits % 2 ^ p
  let e := bits / 2 ^ p % 256
  let neg := bits / 2 ^ (p + 8) % 2 = 1
  if e = 255 then (if f = 0 then .inf neg else .nan (f < 2 ^ (p - 1)))
  else if e = 0 then .fin neg f (-126 - (p : Int))
  else .fin neg (2 ^ p + f) ((e : Int) - 127 - (p : Int))

/-- Canonical quiet NaN of a format (R36). -/
def qnan (p : Nat) : Nat := 511 * 2 ^ (p - 1)

/-- Sign bit of a format. -/
def signBits (p : Nat) (neg : Bool) : Nat := if neg then 2 ^ (p + 8) else 0

/-- Infinity of a format. -/
def infBits (p : Nat) (neg : Bool) : Nat := signBits p neg + 255 * 2 ^ p

/-- Largest finite value of a format. -/
def maxBits (p : Nat) (neg : Bool) : Nat := infBits p neg - 1

/-! ### Rounding (R40 to R42) -/

/-- A rounding selector of R41, with the draw of R42. -/
inductive Sel where
  | rne | rtz
  | rsr (d : Nat)
  deriving DecidableEq, Repr

/-- Selector of a code (R41). -/
def selOf (c d : Nat) : Sel := if c = 1 then .rtz else if c = 2 then .rsr d else .rne

/-- Floor of the base-2 logarithm. -/
def ilog (m : Nat) : Nat := Nat.log2 m

/-- Round (m + s)·2^−k, where s lies in [0, 1) and is not zero if `sticky`, to an integer magnitude; true when that is
inexact. `neg` is the sign of the value, which decides what is above it on the number line (R41, R42). -/
def roundMag (neg : Bool) (m : Nat) (sticky : Bool) (k : Int) (sel : Sel) : Nat × Bool :=
  if k ≤ 0 then (m * 2 ^ (-k).toNat, sticky)
  else
    let k := k.toNat
    let n := m / 2 ^ k
    let r := m % 2 ^ k
    let inexact := r ≠ 0 ∨ sticky
    if !inexact then (n, false)
    else
      let up : Bool := match sel with
        | .rne => decide (2 ^ k < 2 * r) || (decide (2 * r = 2 ^ k) && (sticky || n % 2 == 1))
        | .rtz => false
        | .rsr d => if neg then !decide (d * 2 ^ k < (2 ^ k - r) * 2 ^ 32) else decide (d * 2 ^ k < r * 2 ^ 32)
      (if up then n + 1 else n, true)

/-- Round (−1)^neg · (m + s)·2^e to a format, with its flags: overflow by selector, tininess after rounding (R40 to
R43). -/
def fpRound (p : Nat) (neg : Bool) (m : Nat) (e : Int) (sticky : Bool) (sel : Sel) : Nat × Byte :=
  if m = 0 ∧ !sticky then (signBits p neg, 0)
  else
    let top : Int := if m = 0 then e else e + ilog m
    let emin : Int := -126 - (p : Int)
    let q := Max.max (top - p) emin
    let (n, inexact) := roundMag neg m sticky (q - e) sel
    let beyond := decide (127 < q + (if n = 0 then 0 else (ilog n : Int)))
    let overMax : Bool := match sel with
      | .rsr _ => decide (127 < top) ||
        (decide (top = 127) && decide ((2 ^ (p + 1) - 1) * 2 ^ (q - e).toNat < m * 2 ^ (e - q).toNat))
      | _ => beyond
    if overMax then
      (match sel with | .rne => infBits p neg | _ => maxBits p neg, flagOF ||| flagNX)
    else
      let tiny : Bool := decide (top < -126) &&
        (let u := roundMag neg m sticky (top - p - e) sel
         decide (top - p + (if u.1 = 0 then 0 else (ilog u.1 : Int)) < -126))
      let bits :=
        if n < 2 ^ p then n
        else
          let sh := ilog n - p
          let f := n / 2 ^ sh
          (q + (sh : Int) + p + 127).toNat * 2 ^ p + (f - 2 ^ p)
      (signBits p neg + bits, (if inexact then flagNX else 0) ||| (if tiny && inexact then flagUF else 0))

/-! ### Arithmetic (R40) -/

/-- Flag of a signalling NaN among operands. -/
def Fp.nv : Fp → Byte
  | .nan true => flagNV
  | _ => 0

/-- A NaN of either kind. -/
def Fp.isNan : Fp → Bool
  | .nan _ => true
  | _ => false

/-- Signed integer value on the grid 2^g. -/
def gridInt (neg : Bool) (m : Nat) (e g : Int) : Int :=
  let v : Int := (m : Int) * 2 ^ (e - g).toNat
  if neg then -v else v

/-- Exact sum of two finite values, rounded once by rne; a zero sum is −0 only of two negative zeros. -/
def finSum (p : Nat) (s1 : Bool) (m1 : Nat) (e1 : Int) (s2 : Bool) (m2 : Nat) (e2 : Int) : Nat × Byte :=
  let g := Min.min e1 e2
  let v := gridInt s1 m1 e1 g + gridInt s2 m2 e2 g
  if v = 0 then (signBits p (m1 == 0 && m2 == 0 && s1 && s2), 0)
  else fpRound p (decide (v < 0)) v.natAbs g false .rne

/-- a + b (R40). -/
def fpAdd (p : Nat) (a b : Fp) : Nat × Byte :=
  match a, b with
  | .fin s1 m1 e1, .fin s2 m2 e2 => finSum p s1 m1 e1 s2 m2 e2
  | .inf s1, .inf s2 => if s1 = s2 then (infBits p s1, 0) else (qnan p, flagNV)
  | .inf s, .fin _ _ _ => (infBits p s, 0)
  | .fin _ _ _, .inf s => (infBits p s, 0)
  | a, b => (qnan p, a.nv ||| b.nv)

/-- −a. -/
def Fp.negate : Fp → Fp
  | .fin s m e => .fin (!s) m e
  | .inf s => .inf (!s)
  | a => a

/-- a · b (R40). -/
def fpMul (p : Nat) (a b : Fp) : Nat × Byte :=
  match a, b with
  | .fin s1 m1 e1, .fin s2 m2 e2 => fpRound p (s1 != s2) (m1 * m2) (e1 + e2) false .rne
  | .inf s1, .inf s2 => (infBits p (s1 != s2), 0)
  | .inf s1, .fin s2 m2 _ => if m2 = 0 then (qnan p, flagNV) else (infBits p (s1 != s2), 0)
  | .fin s1 m1 _, .inf s2 => if m1 = 0 then (qnan p, flagNV) else (infBits p (s1 != s2), 0)
  | a, b => (qnan p, a.nv ||| b.nv)

/-- a · b is 0 · ∞. -/
def zeroTimesInf : Fp → Fp → Bool
  | .inf _, .fin _ m _ => m == 0
  | .fin _ m _, .inf _ => m == 0
  | _, _ => false

/-- a · b + c, rounded once (R40). -/
def fpFma (p : Nat) (a b c : Fp) : Nat × Byte :=
  if a.isNan || b.isNan || c.isNan then
    (qnan p, a.nv ||| b.nv ||| c.nv ||| (if zeroTimesInf a b then flagNV else 0))
  else if zeroTimesInf a b then (qnan p, flagNV)
  else match a, b, c with
    | .fin s1 m1 e1, .fin s2 m2 e2, .fin s3 m3 e3 => finSum p (s1 != s2) (m1 * m2) (e1 + e2) s3 m3 e3
    | .fin _ _ _, .fin _ _ _, .inf s => (infBits p s, 0)
    | a, b, c =>
      let neg : Fp → Bool := fun x => match x with
        | .fin s _ _ => s
        | .inf s => s
        | .nan _ => false
      let s := neg a != neg b
      match c with
      | .inf s3 => if s = s3 then (infBits p s, 0) else (qnan p, flagNV)
      | _ => (infBits p s, 0)

/-! ### Minimum, maximum, compares (R46, R239) -/

/-- Position of a value that is not a NaN in the order of R46, −0 below +0. -/
def fpKey (p bits : Nat) : Int := if bits / 2 ^ (p + 8) = 0 then (bits : Int) else -((bits % 2 ^ (p + 8) : Nat) : Int) - 1

/-- Minimum (`mx` false) or maximum, the numeric operand winning over a NaN if `num` (R46). -/
def fpMinMax (p : Nat) (mx num : Bool) (a b : Nat) : Nat × Byte :=
  let x := fpOf p a
  let y := fpOf p b
  let f := x.nv ||| y.nv
  match x.isNan, y.isNan with
  | true, true => (qnan p, f)
  | true, false => (if num then b else qnan p, f)
  | false, true => (if num then a else qnan p, f)
  | false, false =>
    let less := decide (fpKey p b < fpKey p a)
    (if mx then (if less then a else b) else (if less then b else a), f)

/-- Key of a value with the zeros equal (R239). -/
def cmpKey (p bits : Nat) : Int := if bits % 2 ^ (p + 8) = 0 then 0 else
  if bits / 2 ^ (p + 8) = 0 then (bits : Int) else -((bits % 2 ^ (p + 8) : Nat) : Int)

/-- A compare of R239: 0 equal, 1 less, 2 less or equal. -/
def fpCompare (p op a b : Nat) : Bool × Byte :=
  let x := fpOf p a
  let y := fpOf p b
  if x.isNan || y.isNan then (false, if op = 0 then x.nv ||| y.nv else flagNV)
  else
    let u := cmpKey p a
    let v := cmpKey p b
    (if op = 0 then decide (u = v) else if op = 1 then decide (u < v) else decide (u ≤ v), 0)

/-! ### Conversions (R43) -/

/-- One fp format to another (R43): widening is exact whatever the selector. -/
def fpToFp (p : Nat) (sel : Sel) (x : Fp) : Nat × Byte :=
  match x with
  | .nan sg => (qnan p, if sg then flagNV else 0)
  | .inf s => (infBits p s, 0)
  | .fin s m e => fpRound p s m e false sel

/-- An integer to a format (R43). -/
def intToFp (p : Nat) (sel : Sel) (v : Int) : Nat × Byte := fpRound p (decide (v < 0)) v.natAbs 0 false sel

/-- Integer a finite value rounds to, without limit, and whether that changed it (R41, R42). -/
def roundInt (s : Bool) (m : Nat) (e : Int) (sel : Sel) : Int × Bool :=
  let (n, inexact) := roundMag s m false (-e) sel
  (if s then -(n : Int) else (n : Int), inexact)

/-- A floating value to an integer type (R43). -/
def fpToInt (t : BitVec 3) (sel : Sel) (x : Fp) : Int × Byte :=
  match x with
  | .nan _ => (0, flagNV)
  | .inf s => (if s then typeMin t else typeMax t, flagNV)
  | .fin s m e =>
    let (v, inexact) := roundInt s m e sel
    if v < typeMin t ∨ typeMax t < v then (satInt v (typeMin t) (typeMax t), flagNV)
    else (v, if inexact then flagNX else 0)

/-! ### Quantisation (R44, R45) -/

/-- Least and greatest code of a target: 0 q4, 1 q4n, 2 q8 (R44). -/
def codeRange (target : Nat) : Int × Int := if target = 0 then (-8, 7) else if target = 1 then (0, 15) else (-128, 127)

/-- Quantise a value with a scale code (R44). -/
def quantise (target e : Nat) (sel : Sel) (x : Fp) : Int × Byte :=
  let (lo, hi) := codeRange target
  match x with
  | .nan _ => (0, flagNV)
  | .inf s => (if s then lo else hi, flagSAT)
  | .fin s m ex =>
    let (q, inexact) := roundInt s m (ex + 127 - (e : Int)) sel
    let c := satInt q lo hi
    (c, (if c ≠ q then flagSAT else 0) ||| (if inexact then flagNX else 0))

/-- Magnitude bound of a target (R45). -/
def scaleBound (target : Nat) : Nat := if target = 0 then 7 else if target = 1 then 15 else 127

/-- m·2^x ≤ T. -/
def leScaled (m : Nat) (x : Int) (t : Nat) : Bool :=
  if x ≤ 0 then decide (m ≤ t * 2 ^ (-x).toNat) else decide (m * 2 ^ x.toNat ≤ t)

/-- Block scale of the values of a block: e = 254 with invalid for a NaN or an infinity (R45). -/
def blockScale (target : Nat) (xs : List Fp) : Nat × Byte :=
  if xs.any (fun x => match x with | .fin _ _ _ => false | _ => true) then (254, flagNV)
  else
    let fits (e : Nat) : Bool := xs.all (fun x => match x with
      | .fin _ m ex => m == 0 || leScaled m (ex + 127 - (e : Int)) (scaleBound target)
      | _ => true)
    (((List.range 255).find? fits).getD 254, 0)

end Sys2Proof.Machine
end

