-- ==== Sys2Proof/Machine/Transcendental.lean ====
section
/-! DEFINITION. The transcendental functions of the vector unit: special operands, range reduction, and series evaluated
with 512 fraction bits, whose value is rounded once (R250 to R253, log 6). -/

namespace Sys2Proof.Machine

/-! ### Fixed point with 512 fraction bits -/

/-- One, at 512 fraction bits. -/
def fxOne : Nat := 2 ^ 512

/-- Product of fixed-point numbers. -/
def fxMul (a b : Nat) : Nat := a * b / fxOne

/-- Sum of t^k / k! from a term on, `n` terms. -/
def expSeries (t term k : Nat) : Nat → Nat
  | 0 => 0
  | n + 1 => term + expSeries t (fxMul term t / k) (k + 1) n

/-- e^t for t in [0, 1). -/
def fxExp (t : Nat) : Nat := expSeries t fxOne 1 110

/-- Sum of z^(2i+1) / (2i+1) from a power on, `n` terms; signs alternate if `alt`. -/
def atanSeries (alt : Bool) (sq pow k : Nat) : Nat → Int
  | 0 => 0
  | n + 1 =>
    let rest := atanSeries alt sq (fxMul pow sq) (k + 2) n
    ((pow / k : Nat) : Int) + (if alt then -rest else rest)

/-- 2·artanh z for z in [0, 1/3]. -/
def fxLn (z : Nat) : Nat := 2 * (atanSeries false (fxMul z z) z 1 170).toNat

/-- ln 2 = 2·artanh (1/3). -/
def fxLn2 : Nat := fxLn (fxOne / 3)

/-- π = 16·arctan (1/5) − 4·arctan (1/239). -/
def fxPi : Nat :=
  (16 * atanSeries true (fxOne / 25) (fxOne / 5) 1 120 - 4 * atanSeries true (fxOne / 57121) (fxOne / 239) 1 40).toNat

/-- Sum of u^j / j!, j stepping by 2, signs alternating, from a term on. -/
def circSeries (sq term j : Nat) : Nat → Int
  | 0 => 0
  | n + 1 => (term : Int) - circSeries sq (fxMul term sq / ((j + 1) * (j + 2))) (j + 2) n

/-- sin u for u in [0, π/2]. -/
def fxSin (u : Nat) : Nat := (circSeries (fxMul u u) u 1 70).toNat

/-- cos u for u in [0, π/2). -/
def fxCos (u : Nat) : Nat := (circSeries (fxMul u u) fxOne 0 70).toNat

/-- Integer square root by bits, from bit `k − 1` down. -/
def isqrtBits (n r : Nat) : Nat → Nat
  | 0 => r
  | k + 1 => isqrtBits n (if (r + 2 ^ k) * (r + 2 ^ k) ≤ n then r + 2 ^ k else r) k

/-- Integer square root. -/
def isqrt (n : Nat) : Nat := isqrtBits n 0 (ilog n / 2 + 1)

/-! ### Functions -/

/-- The functions of R250. -/
inductive TFun where
  | exp2 | log2 | rcp | rsq | sqrt | tanh | sigm | sin | cos
  deriving DecidableEq, Repr

/-- Value of a function: a bit pattern with flags, or ± (m + s)·2^e with s in [0, 1), not zero if `sticky`. -/
inductive TVal where
  | qnan (f : Byte)
  | inf (neg : Bool) (f : Byte)
  | num (neg : Bool) (m : Nat) (e : Int) (sticky : Bool)
  deriving DecidableEq, Repr

/-- A value known from a fixed-point approximation, never exact. -/
def TVal.approx (neg : Bool) (m : Nat) : TVal := .num neg m (-512) true

/-- A value just below one. -/
def belowOne (neg : Bool) : TVal := .num neg (fxOne - 1) (-512) true

/-- Whole and fractional part, at 512 fraction bits, of m·2^e with e ≥ −512. -/
def fxSplit (m : Nat) (e : Int) : Nat × Nat :=
  let v := m * 2 ^ (e + 512).toNat
  (v / fxOne, v % fxOne)

/-- 2^(±x) for x = m·2^e below 2^12, as F·2^n with F fixed-point in [1, 2). -/
def exp2Parts (neg : Bool) (m : Nat) (e : Int) : Nat × Int :=
  let (w, f) := fxSplit m e
  if !neg then (fxExp (fxMul f fxLn2), w)
  else if f = 0 then (fxOne, -(w : Int))
  else (fxExp (fxMul (fxOne - f) fxLn2), -(w : Int) - 1)

/-- 2^x. -/
def tExp2 (s : Bool) (m : Nat) (e : Int) : TVal :=
  if m = 0 then .num false 1 0 false
  else if 12 ≤ e + ilog m then (if s then .num false 0 (-1000) true else .num false 1 1000 true)
  else
    let f := (fxSplit m e).2
    let (v, n) := exp2Parts s m e
    if f = 0 then .num false 1 n false else .num false v (n - 512) true

/-- log₂ x for x > 0: x = 2^n · y with y in [1, 2). -/
def tLog2 (m : Nat) (e : Int) : TVal :=
  let k := ilog m
  let n : Int := e + k
  if m = 2 ^ k then .num (decide (n < 0)) n.natAbs 0 false
  else
    let z := (m - 2 ^ k) * fxOne / (m + 2 ^ k)
    let l : Int := (fxLn z * fxOne / fxLn2 : Nat) + n * (fxOne : Int)
    .approx (decide (l < 0)) (if l < 0 then l.natAbs - 1 else l.natAbs)

/-- 1/x. -/
def tRcp (s : Bool) (m : Nat) (e : Int) : TVal :=
  .num s (fxOne / m) (-e - 512) (fxOne % m != 0)

/-- √x: the exponent is made even. -/
def tSqrt (m : Nat) (e : Int) : TVal :=
  let e' := if e % 2 = 0 then e else e - 1
  let v := (if e % 2 = 0 then m else 2 * m) * 2 ^ 512
  let r := isqrt v
  .num false r (e' / 2 - 256) (r * r != v)

/-- 1/√x. -/
def tRsq (m : Nat) (e : Int) : TVal :=
  let e' := if e % 2 = 0 then e else e - 1
  let d := if e % 2 = 0 then m else 2 * m
  let r := isqrt (2 ^ 1024 / d)
  .num false r (-(e' / 2) - 512) (r * r * d != 2 ^ 1024)

/-- e^x for 0 < x = m·2^e < 2^9, with 512 fraction bits. -/
def fxExpBig (m : Nat) (e : Int) : Nat :=
  let y := m * 2 ^ (e + 512).toNat * fxOne / fxLn2
  fxExp (fxMul (y % fxOne) fxLn2) * 2 ^ (y / fxOne)

/-- tanh x = (e^2x − 1)/(e^2x + 1). -/
def tTanh (s : Bool) (m : Nat) (e : Int) : TVal :=
  if m = 0 then .num s 0 0 false
  else if 8 ≤ e + ilog m then belowOne s
  else
    let x := fxExpBig m (e + 1)
    .approx s ((x - fxOne) * fxOne / (x + fxOne))

/-- The sigmoid 1/(1 + e^−x). -/
def tSigm (s : Bool) (m : Nat) (e : Int) : TVal :=
  if m = 0 then .num false 1 (-1) false
  else if 9 ≤ e + ilog m then (if s then .num false 0 (-400) true else belowOne false)
  else
    let x := fxExpBig m e
    if s then .num false (fxOne * fxOne * fxOne / (x + fxOne)) (-1024) true
    else .approx false ((fxOne * fxOne - fxOne * fxOne * fxOne / (x + fxOne) - 1) / fxOne)

/-- sin πr or cos πr for the reduced argument: quarter turns `q` and the rest `f` below one half, at 512 fraction bits. -/
def circAt (q f : Nat) (cosine : Bool) : TVal :=
  let q := (if cosine then q + 1 else q) % 4
  let neg := decide (2 ≤ q)
  if f = 0 then (if q % 2 = 0 then .num false 0 0 false else .num neg 1 0 false)
  else
    let u := fxMul f fxPi
    .approx neg (if q % 2 = 0 then fxSin u else fxCos u)

/-- x mod 2 for x = m·2^e with e ≥ −512, as half-turn quarters and rest. -/
def halfTurns (m : Nat) (e : Int) : Nat × Nat :=
  let r := m * 2 ^ (e + 512).toNat % (2 * fxOne)
  (2 * r / fxOne, r % (fxOne / 2))

/-- sin πx; the sine of −0 is −0, any other zero is +0 (R253). -/
def tSin (s : Bool) (m : Nat) (e : Int) : TVal :=
  if m = 0 then .num s 0 0 false
  else
    let (q, f) := halfTurns m e
    match circAt q f false with
    | .num neg v x st => .num (neg != (s && (v != 0 || st))) v x st
    | v => v

/-- cos πx. -/
def tCos (m : Nat) (e : Int) : TVal :=
  let (q, f) := halfTurns m e
  circAt q f true

/-- Special operands and poles, then the function (R253). -/
def tEval (fn : TFun) (x : Fp) : TVal :=
  match x with
  | .nan sg => .qnan (if sg then flagNV else 0)
  | .inf s =>
    match fn with
    | .exp2 => if s then .num false 0 0 false else .inf false 0
    | .log2 | .sqrt => if s then .qnan flagNV else .inf false 0
    | .rcp => .num s 0 0 false
    | .rsq => if s then .qnan flagNV else .num false 0 0 false
    | .tanh => .num s 1 0 false
    | .sigm => if s then .num false 0 0 false else .num false 1 0 false
    | .sin | .cos => .qnan flagNV
  | .fin s m e =>
    if m = 0 then
      match fn with
      | .exp2 | .cos => .num false 1 0 false
      | .log2 => .inf true flagDZ
      | .rcp | .rsq => .inf s flagDZ
      | .sqrt | .tanh | .sin => .num s 0 0 false
      | .sigm => .num false 1 (-1) false
    else
      match fn with
      | .exp2 => tExp2 s m e
      | .log2 => if s then .qnan flagNV else tLog2 m e
      | .rcp => tRcp s m e
      | .rsq => if s then .qnan flagNV else tRsq m e
      | .sqrt => if s then .qnan flagNV else tSqrt m e
      | .tanh => tTanh s m e
      | .sigm => tSigm s m e
      | .sin => tSin s m e
      | .cos => tCos m e

/-! ### Grades (R251, R252) -/

/-- Accurate grade: rounded once to the type. -/
def tAccurate (p : Nat) (fn : TFun) (x : Fp) : Nat × Byte :=
  match tEval fn x with
  | .qnan f => (qnan p, f)
  | .inf s f => (infBits p s, f)
  | .num s m e st => fpRound p s m e st .rne

/-- Fast grade in f32: subnormal operands count as zero; the value is rounded to 13 bits without exponent limit and
delivered as f32, zero standing for what lies below the normals. -/
def tFast (fn : TFun) (x : Fp) : Nat × Byte :=
  let x := match x with
    | .fin s m e => if m < 2 ^ 23 ∧ e = -149 then .fin s 0 e else x
    | x => x
  match tEval fn x with
  | .qnan f => (qnan 23, f)
  | .inf s f => (infBits 23 s, f)
  | .num s m e st =>
    if m = 0 ∧ !st then (signBits 23 s, 0)
    else if m = 0 then (signBits 23 s, flagUF ||| flagNX)
    else
      let q : Int := e + ilog m - 12
      let (n, inexact) := roundMag s m st (q - e) .rne
      let top : Int := q + ilog n
      if 127 < top then (infBits 23 s, flagOF ||| flagNX)
      else if top < -126 then (signBits 23 s, flagUF ||| flagNX)
      else ((fpRound 23 s n q false .rne).1, if inexact then flagNX else 0)

/-- A transcendental of an element: `acc` the grade, `p` the fraction width of the type. Fast w16 goes through f32. -/
def tElem (fn : TFun) (acc : Bool) (p bits : Nat) : Nat × Byte :=
  if acc then tAccurate p fn (fpOf p bits)
  else if p = 23 then tFast fn (fpOf 23 bits)
  else
    let r := tFast fn (fpOf 23 (bits * 2 ^ 16))
    let w := fpToFp 7 .rne (fpOf 23 r.1)
    (w.1, r.2 ||| w.2)

end Sys2Proof.Machine
end

