-- ==== Sys2Proof/Machine/Vector.lean ====
section
/-! DEFINITION. V-slot operations: element-wise arithmetic, logic, compares, movements, reductions, conversions, tile and
row access, transcendentals, block maximum, draws (R47 to R49, R227 to R257). -/

namespace Sys2Proof.Machine

/-! ### Results of the four cores (R13, R229, R231) -/

/-- What an operation gives on a core: a register and the lanes of it that are written, or mask bits, or bypass codes
(with every lane marked), with the flags of its four quarters of four rows each (R332). -/
structure CoreOut where
  data : VReg
  lanes : BitVec 1024
  mask : BitVec 1024
  codes : List Byte
  flags : List Byte

/-- Flags of the four quarters from those of what their rows hold, `n` things a quarter (R332). -/
def quarters (n : Nat) (l : List Byte) : List Byte := (List.range 4).map (fun q => orFlags ((l.drop (n * q)).take n))

/-- No flags. -/
def noFlags : List Byte := [0, 0, 0, 0]

/-- Send the results of an operation on the four cores to land after `lat` cycles; rows that still move fill the result `tok`
(R231, R233). -/
def State.sendResult (s : State) (tok lat : Nat) (dest : Dest) (target : BitVec 2) (f : Nat → CoreCtx → CoreOut) : State :=
  let c := s.issueCtx
  let outs := (List.range 4).map (fun k => f k (nth c.cores k .fresh))
  s.send { time := s.now + lat, dest := dest, lo := 0, hi := 0, vec := outs.map (·.data), lmask := outs.map (·.lanes)
           masks := outs.map (·.mask), codes := outs.map (·.codes), target := target, flags := outs.flatMap (·.flags)
           part := none, tok := tok }

/-- Results that nothing fills later. -/
def State.sendCores (s : State) (lat : Nat) (dest : Dest) (target : BitVec 2) (f : Nat → CoreCtx → CoreOut) : State :=
  s.sendResult 0 lat dest target f

/-- A register operand of the bundle in issue (R161, R230). -/
def State.vnum (s : State) (n : BitVec 4) : Nat := physV s.issue.rrb n.toNat

/-- A result in every lane that a mask marks (R229). -/
def lanesOut (m : BitVec 1024) (f : Nat → W32 × Byte) : CoreOut :=
  let rs := (List.range 1024).map (fun i => if m.getLsbD i then f i else (0, 0))
  { data := { lanes := rs.map (·.1) }, lanes := m, mask := 0, codes := [], flags := quarters 256 (rs.map (·.2)) }

/-- An operation on every element of a lane, with its flags. -/
def perElem (t : BitVec 3) (f : Nat → Nat → Nat → Nat × Byte) (a b d : W32) : W32 × Byte :=
  let w := elemW t
  let rs := (List.range (elems t)).map (fun j => f (laneElem w a j) (laneElem w b j) (laneElem w d j))
  (BitVec.ofNat 32 (laneOf w (rs.map (·.1))), orFlags (rs.map (·.2)))

/-- An element-wise operation on the lanes of va, vb and the old vd under mask k (R228, R229, R235). -/
def State.elementwise (s : State) (lat : Nat) (d a b : BitVec 4) (t : BitVec 3) (k : BitVec 2)
    (f : Nat → Nat → Nat → Nat × Byte) : State :=
  s.sendCores lat (.vreg (s.vnum d)) 0 (fun _ x =>
    lanesOut (x.mask k.toNat) (fun i =>
      perElem t f (nth (x.vreg (s.vnum a)).lanes i 0) (nth (x.vreg (s.vnum b)).lanes i 0)
        (nth (x.vreg (s.vnum d)).lanes i 0)))

/-- A movement of whole lanes: which lane of va each destination lane takes (R240, R241). -/
def State.moveLanes (s : State) (lat : Nat) (d a : BitVec 4) (k : BitVec 2) (src : Nat → Nat) : State :=
  s.sendCores lat (.vreg (s.vnum d)) 0 (fun _ x =>
    lanesOut (x.mask k.toNat) (fun i => (nth (x.vreg (s.vnum a)).lanes (src i) 0, 0)))

/-- The same lane in every place, from a g register or the gang position. -/
def State.fillLanes (s : State) (d : BitVec 4) (k : BitVec 2) (v : Nat → W32) : State :=
  s.sendCores 6 (.vreg (s.vnum d)) 0 (fun n x => lanesOut (x.mask k.toNat) (fun _ => (v n, 0)))

/-! ### Elements (R46, R48, R49, R235, R236, R239) -/

/-- f32 or w16. -/
def isFp (t : BitVec 3) : Bool := t == 6 || t == 7

/-- Type of a one-bit fp type field: 0 f32, 1 w16 (R39). -/
def fpType (t : BitVec 1) : BitVec 3 := 3#2 ++ t

/-- a + b. -/
def elemAdd (t : BitVec 3) (a b : Nat) : Nat × Byte :=
  if isFp t then fpAdd (fracW t) (fpOf (fracW t) a) (fpOf (fracW t) b) else ((a + b) % 2 ^ elemW t, 0)

/-- a − b. -/
def elemSub (t : BitVec 3) (a b : Nat) : Nat × Byte :=
  if isFp t then fpAdd (fracW t) (fpOf (fracW t) a) (fpOf (fracW t) b).negate
  else ((a + 2 ^ elemW t - b) % 2 ^ elemW t, 0)

/-- a · b. -/
def elemMul (t : BitVec 3) (a b : Nat) : Nat × Byte :=
  if isFp t then fpMul (fracW t) (fpOf (fracW t) a) (fpOf (fracW t) b) else (a * b % 2 ^ elemW t, 0)

/-- a · b + d, in fp (R235). -/
def elemFma (t : BitVec 3) (a b d : Nat) : Nat × Byte :=
  fpFma (fracW t) (fpOf (fracW t) a) (fpOf (fracW t) b) (fpOf (fracW t) d)

/-- An integer clamped to a type, with SAT when that changes it (R49). -/
def clampTo (t : BitVec 3) (x : Int) : Nat × Byte :=
  let y := satInt x (typeMin t) (typeMax t)
  (wrapInt (elemW t) y, if y ≠ x then flagSAT else 0)

/-- Saturating a + b. -/
def elemAdds (t : BitVec 3) (a b : Nat) : Nat × Byte :=
  if isFp t then elemAdd t a b else clampTo t (elemInt t a + elemInt t b)

/-- Saturating a − b. -/
def elemSubs (t : BitVec 3) (a b : Nat) : Nat × Byte :=
  if isFp t then elemSub t a b else clampTo t (elemInt t a - elemInt t b)

/-- Minimum or maximum; `num` the n form (R46). -/
def elemMinMax (t : BitVec 3) (mx num : Bool) (a b : Nat) : Nat × Byte :=
  if isFp t then fpMinMax (fracW t) mx num a b
  else
    let less := decide (elemInt t b < elemInt t a)
    (if mx then (if less then a else b) else (if less then b else a), 0)

/-- |a| (R49, R235). -/
def elemAbs (t : BitVec 3) (a : Nat) : Nat × Byte :=
  if isFp t then
    let x := fpOf (fracW t) a
    if x.isNan then (qnan (fracW t), x.nv) else (a % 2 ^ (elemW t - 1), 0)
  else if elemInt t a < 0 then (wrapInt (elemW t) (-(elemInt t a)), 0) else (a, 0)

/-- −a (R235). -/
def elemNeg (t : BitVec 3) (a : Nat) : Nat × Byte :=
  if isFp t then
    let x := fpOf (fracW t) a
    if x.isNan then (qnan (fracW t), x.nv) else (a ^^^ 2 ^ (elemW t - 1), 0)
  else (wrapInt (elemW t) (-(a : Int)), 0)

/-- Shift by the low 8 bits of an amount: 0 left, 1 right, 2 arithmetic right (R48, R238). -/
def elemShift (op : Nat) (t : BitVec 3) (a amount : Nat) : Nat :=
  let w := elemW t
  let n := amount % 256
  if op = 0 then (if n < w then a * 2 ^ n % 2 ^ w else 0)
  else if op = 1 then (if n < w then a / 2 ^ n else 0)
  else wrapInt w (sextNat w a / (2 ^ n : Nat))

/-- A compare of elements: 0 equal, 1 less, 2 less or equal (R239). -/
def elemCompare (t : BitVec 3) (op a b : Nat) : Bool × Byte :=
  if isFp t then fpCompare (fracW t) op a b
  else
    let x := elemInt t a
    let y := elemInt t b
    (if op = 0 then decide (x = y) else if op = 1 then decide (x < y) else decide (x ≤ y), 0)

/-- A two-operand element operation. -/
def two (f : Nat → Nat → Nat × Byte) (a b _d : Nat) : Nat × Byte := f a b

/-- A one-operand element operation. -/
def one (f : Nat → Nat × Byte) (a _b _d : Nat) : Nat × Byte := f a

/-- Bits of a list, the first lowest. -/
def maskOf (l : List Bool) : BitVec 1024 := BitVec.ofNat 1024 (l.foldr (fun b n => 2 * n + (if b then 1 else 0)) 0)

/-- A compare into a mask register (R239). -/
def State.compare (s : State) (d : BitVec 2) (a b : BitVec 4) (t : BitVec 3) (k : BitVec 2) (op : Nat) : State :=
  s.sendCores 6 (.mask d.toNat) 0 (fun _ x =>
    let m := x.mask k.toNat
    let rs := (List.range 1024).map (fun i =>
      if m.getLsbD i then
        let w := elemW t
        let es := (List.range (elems t)).map (fun j =>
          elemCompare t op (laneElem w (nth (x.vreg (s.vnum a)).lanes i 0) j)
            (laneElem w (nth (x.vreg (s.vnum b)).lanes i 0) j))
        (es.all (·.1), orFlags (es.map (·.2)))
      else (false, 0))
    { data := .zero, lanes := BitVec.allOnes 1024, mask := maskOf (rs.map (·.1)), codes := []
      flags := quarters 256 (rs.map (·.2)) })

/-- Shift amount: the element of vb, or g[vc] for every element (R238). -/
def State.shift (s : State) (op : Nat) (d a b c : BitVec 4) (t : BitVec 3) (k : BitVec 2) (m : BitVec 1) : State :=
  let g := (s.opG (c.setWidth 6)).toNat
  s.elementwise 6 d a b t k (fun x y _ => (elemShift op t x (if m = 1 then g else y), 0))

/-! ### Reductions (R47, R242) -/

/-- One level of the tree: neighbours are combined, the lower index on the left. -/
def treeLevel (f : Nat → Nat → Nat × Byte) : List Nat → List Nat × Byte
  | a :: b :: r =>
    let (l, fl) := treeLevel f r
    let (v, g) := f a b
    (v :: l, g ||| fl)
  | l => (l, 0)

/-- The tree down to one value, in at most `n` levels. -/
def tree (f : Nat → Nat → Nat × Byte) : Nat → List Nat → Byte → Nat × Byte
  | 0, l, fl => (l.headD 0, fl)
  | n + 1, l, fl =>
    match l with
    | [] => (0, fl)
    | [x] => (x, fl)
    | l =>
      let (l', g) := treeLevel f l
      tree f n l' (fl ||| g)

/-- Identity of a reduction kind: 0 sum, 1 max, 2 maxn, 3 min, 4 minn (R47, R171). -/
def redIdentity (t : BitVec 3) (kind : Nat) : Nat :=
  if kind = 0 then (if isFp t then signBits (fracW t) true else 0)
  else if kind ≤ 2 then (if isFp t then infBits (fracW t) true else wrapInt (elemW t) (typeMin t))
  else (if isFp t then infBits (fracW t) false else wrapInt (elemW t) (typeMax t))

/-- Combine of a reduction kind (R47). -/
def redCombine (t : BitVec 3) (kind a b : Nat) : Nat × Byte :=
  if kind = 0 then elemAdd t a b else elemMinMax t (decide (kind ≤ 2)) (kind == 2 || kind == 4) a b

/-- Reduce elements, each with its activity (R47). -/
def reduce (t : BitVec 3) (kind : Nat) (xs : List (Nat × Bool)) : Nat × Byte :=
  if xs.all (fun x => !x.2) then (0, 0)
  else tree (redCombine t kind) 8 (xs.map (fun x => if x.2 then x.1 else redIdentity t kind)) 0

/-- vredr: element i of every row is the reduction of element i over the rows (R242). -/
def reduceRows (t : BitVec 3) (kind : Nat) (v : VReg) (m : BitVec 1024) : CoreOut :=
  let rs := (List.range (rowElems t)).map (fun i =>
    reduce t kind ((List.range 16).map (fun r => (v.elem t r i, m.getLsbD (64 * r + i / elems t)))))
  let row := (List.range 64).map (fun c =>
    BitVec.ofNat 32 (laneOf (elemW t) ((List.range (elems t)).map (fun j => (nth rs (elems t * c + j) (0, 0)).1))))
  { data := { lanes := (List.range 16).flatMap (fun _ => row) }, lanes := BitVec.allOnes 1024, mask := 0, codes := []
    flags := List.replicate 4 (orFlags (rs.map (·.2))) }

/-- vredc: every element of a row is the reduction of the row (R242). -/
def reduceCols (t : BitVec 3) (kind : Nat) (v : VReg) (m : BitVec 1024) : CoreOut :=
  let rs := (List.range 16).map (fun r =>
    reduce t kind ((List.range (rowElems t)).map (fun i => (v.elem t r i, m.getLsbD (64 * r + i / elems t)))))
  { data := { lanes := rs.flatMap (fun x =>
      List.replicate 64 (BitVec.ofNat 32 (laneOf (elemW t) (List.replicate (elems t) x.1)))) }
    lanes := BitVec.allOnes 1024, mask := 0, codes := [], flags := quarters 4 (rs.map (·.2)) }

/-! ### Conversion and packing (R243 to R246) -/

/-- Build a register element by element: element i of row r in active lanes (R243, R245, R246). -/
def rowsOut (t : BitVec 3) (m : BitVec 1024) (f : Nat → Nat → Nat × Byte) : CoreOut :=
  lanesOut m (fun l =>
    let rs := (List.range (elems t)).map (fun j => f (l / 64) (elems t * (l % 64) + j))
    (BitVec.ofNat 32 (laneOf (elemW t) (rs.map (·.1))), orFlags (rs.map (·.2))))

/-- Convert one element of type `src` to type `t`; `sel` the selector code, `d` the draw (R43, R244). -/
def convertElem (t src : BitVec 3) (sel d x : Nat) : Nat × Byte :=
  if isFp src then
    let v := fpOf (fracW src) x
    if isFp t then fpToFp (fracW t) (selOf sel d) v
    else
      let r := fpToInt t (selOf sel d) v
      (wrapInt (elemW t) r.1, r.2)
  else if isFp t then intToFp (fracW t) (selOf sel d) (elemInt src x)
  else if elemW src < elemW t then (wrapInt (elemW t) (elemInt src x), 0)
  else clampTo t (elemInt src x)

/-- vcvt: the low elements of the source row, zeros beyond (R243). Draws are the old lanes of vd (R244). -/
def convertRows (t src : BitVec 3) (sel : Nat) (v old : VReg) (m : BitVec 1024) : CoreOut :=
  rowsOut t m (fun r i =>
    if i < rowElems src then convertElem t src sel (nth old.lanes (64 * r + i % 64) 0).toNat (v.elem src r i) else (0, 0))

/-- vpack: elements of va, then of vb, saturated (R245). -/
def packRows (t src : BitVec 3) (va vb : VReg) (m : BitVec 1024) : CoreOut :=
  let n := rowElems src
  rowsOut t m (fun r i =>
    if i < n then clampTo t (elemInt src (va.elem src r i))
    else if i < 2 * n then clampTo t (elemInt src (vb.elem src r (i - n)))
    else (0, 0))

/-- vunpk: one part of the row, extended (R246). -/
def unpackRows (t src : BitVec 3) (half : Nat) (v : VReg) (m : BitVec 1024) : CoreOut :=
  rowsOut t m (fun r i => (wrapInt (elemW t) (elemInt src (v.elem src r (i + half * rowElems t))), 0))

/-! ### Tile and row access (R232, R233, R247 to R249) -/

/-- Key of byte A on core k, with CORE replaced by k (R13, R79). -/
def State.vectorKey (s : State) (a : W64) (k : Nat) : Nat :=
  scratchKey s.issue.cl k (physOff (s.task s.issueCtx) a)

/-- The port is reserved from the next cycle for `rows` cycles (R232). -/
def State.reservePort (s : State) (rows : Nat) : State :=
  s.modCluster s.issue.cl (fun k => { k with
    portTo := Max.max k.portTo (s.now + 1 + rows)
    tileAt := if rows = 16 then some s.now else k.tileAt
    tileCx := if rows = 16 then s.issue.cx else k.tileCx })

/-- The rows of an access on core `k`: row r moves in the core's cycle 1 + r (R13, R233). -/
def State.rowJob (s : State) (id : Nat) (a : W64) (rows r0 k : Nat) : RowJob :=
  let u := s.issue
  { id := id, cx := u.cx, core := k, write := false, at_ := s.vectorKey a k, time := s.now + 2 * k + 1, left := rows, row := r0
    who := s.issueCtx.who u.cl u.cx, data := [], marks := [], va := a, bpc := u.pc, told := false }

/-- Rows begin to move; those of earlier accesses that are due have moved. -/
def State.addRows (s : State) (jobs : List RowJob) : State :=
  (s.settleRows s.issue.cl).modCluster s.issue.cl (fun k => { k with rows := k.rows ++ jobs })

/-- First sector of an access in which an error stands: the cycle after it is read is the latest in which the read of its
row must be known (R233, R249). -/
def State.firstError (s : State) (j : RowJob) : Option Nat :=
  ((List.range j.left).find? (fun r =>
    (sectorsOf (j.at_ + 256 * r) 256).any (fun x => NMap.getD s.syn x 0 != 0))).map (fun r => j.time + r + 1)

/-- Load `rows` rows from row `r0` of vd: each core reads its own scratchpad, a row a cycle; a poisoned sector raises POISON
after the first such read (R233, R247, R249). -/
def State.vectorLoad (s : State) (lat : Nat) (d : BitVec 4) (a : W64) (r0 rows : Nat) : State :=
  let u := s.issue
  let id := s.uid
  let jobs := (List.range 4).map (s.rowJob id a rows r0)
  let m : BitVec 1024 := maskOf ((List.range 1024).map (fun i => decide (r0 ≤ i / 64) && decide (i / 64 < r0 + rows)))
  let s := (({ s with uid := id + 1 }.reservePort rows).addRows jobs).sendResult id lat (.vreg (s.vnum d)) 0 (fun _ _ =>
    { data := .zero, lanes := m, mask := 0, codes := [], flags := noFlags })
  (jobs.filterMap s.firstError).foldl (fun (s : State) t =>
    s.post t .resultLand { EvArg.at u.cl u.cx 0 with n := 1 }) s

/-- Store `rows` rows from row `r0` of va, active lanes only, a row a cycle; the register and the mask are read at issue
(R153, R233, R247). -/
def State.vectorStore (s : State) (v : BitVec 4) (a : W64) (k : BitVec 2) (r0 rows : Nat) : State :=
  let c := s.issueCtx
  let id := s.uid
  let job (n : Nat) : RowJob :=
    let x := nth c.cores n .fresh
    let rs := (List.range rows).map (· + r0)
    { s.rowJob id a rows r0 n with
      write := true
      data := rs.map (fun r => ((x.vreg (s.vnum v)).lanes.drop (64 * r)).take 64)
      marks := rs.map (fun r => (x.mask k.toNat).extractLsb' (64 * r) 64) }
  ({ s with uid := id + 1 }.reservePort rows).addRows ((List.range 4).map job)

/-! ### Transcendentals, block maximum, draws -/

/-- A transcendental (R250): 12 cycles in the fast grade, 24 in the accurate one. -/
def State.transcend (s : State) (fn : TFun) (d a : BitVec 4) (t : BitVec 1) (k : BitVec 2) (g : BitVec 1) : State :=
  s.elementwise (if g = 1 then 24 else 12) d a a (fpType t) k (one (tElem fn (g == 1) (fracW (fpType t))))

/-- vqmax: the scale codes of the sixteen rows into the bypass (R254). -/
def State.blockMax (s : State) (a : BitVec 4) (t : BitVec 3) (k : BitVec 2) (q : BitVec 2) : State :=
  s.sendCores 6 .bypass q (fun _ x =>
    let v := x.vreg (s.vnum a)
    let m := x.mask k.toNat
    let rs := (List.range 16).map (fun r =>
      blockScale q.toNat ((List.range 64).map (fun i =>
        if m.getLsbD (64 * r + i / elems t) then fpOf (fracW t) (v.elem t r i) else .fin false 0 0)))
    { data := .zero, lanes := BitVec.allOnes 1024, mask := 0, codes := rs.map (fun x => BitVec.ofNat 8 x.1)
      flags := quarters 4 (rs.map (·.2)) })

/-- rng.draw: draws into `rows` rows from `r0`; the counter moves on by those of the gang (R255). -/
def State.drawRows (s : State) (d : BitVec 4) (r0 rows : Nat) : State :=
  let c := s.issueCtx
  let e := 64 * rows
  let m : BitVec 1024 := maskOf ((List.range 1024).map (fun i => decide (r0 ≤ i / 64) && decide (i / 64 < r0 + rows)))
  let s := s.sendCores 6 (.vreg (s.vnum d)) 0 (fun k _ =>
    lanesOut m (fun i => (draw c.key0 c.key1 (c.draw + BitVec.ofNat 128 (k * e + (i - 64 * r0))), 0)))
  s.modIssue (fun c => { c with draw := c.draw + BitVec.ofNat 128 (4 * e) })

/-! ### The operations -/

/-- VADD (R235). -/
def execVadd (d a b : BitVec 4) (t : BitVec 3) (k : BitVec 2) (s : State) : Host.Outcome State Fault Refusal :=
  .next (s.asBundle (.vadd d a b t k) (fun s => s.elementwise 6 d a b t k (two (elemAdd t))))

/-- VSUB (R235). -/
def execVsub (d a b : BitVec 4) (t : BitVec 3) (k : BitVec 2) (s : State) : Host.Outcome State Fault Refusal :=
  .next (s.asBundle (.vsub d a b t k) (fun s => s.elementwise 6 d a b t k (two (elemSub t))))

/-- VMUL (R235). -/
def execVmul (d a b : BitVec 4) (t : BitVec 3) (k : BitVec 2) (s : State) : Host.Outcome State Fault Refusal :=
  .next (s.asBundle (.vmul d a b t k) (fun s => s.elementwise 8 d a b t k (two (elemMul t))))

/-- VFMA (R235). -/
def execVfma (d a b : BitVec 4) (t : BitVec 1) (k : BitVec 2) (s : State) : Host.Outcome State Fault Refusal :=
  .next (s.asBundle (.vfma d a b t k) (fun s => s.elementwise 8 d a b (fpType t) k (elemFma (fpType t))))

/-- VADDS (R235). -/
def execVadds (d a b : BitVec 4) (t : BitVec 3) (k : BitVec 2) (s : State) : Host.Outcome State Fault Refusal :=
  .next (s.asBundle (.vadds d a b t k) (fun s => s.elementwise 6 d a b t k (two (elemAdds t))))

/-- VSUBS (R235). -/
def execVsubs (d a b : BitVec 4) (t : BitVec 3) (k : BitVec 2) (s : State) : Host.Outcome State Fault Refusal :=
  .next (s.asBundle (.vsubs d a b t k) (fun s => s.elementwise 6 d a b t k (two (elemSubs t))))

/-- VMIN (R236). -/
def execVmin (d a b : BitVec 4) (t : BitVec 3) (k : BitVec 2) (s : State) : Host.Outcome State Fault Refusal :=
  .next (s.asBundle (.vmin d a b t k) (fun s => s.elementwise 6 d a b t k (two (elemMinMax t false false))))

/-- VMAX (R236). -/
def execVmax (d a b : BitVec 4) (t : BitVec 3) (k : BitVec 2) (s : State) : Host.Outcome State Fault Refusal :=
  .next (s.asBundle (.vmax d a b t k) (fun s => s.elementwise 6 d a b t k (two (elemMinMax t true false))))

/-- VMINN (R236). -/
def execVminn (d a b : BitVec 4) (t : BitVec 3) (k : BitVec 2) (s : State) : Host.Outcome State Fault Refusal :=
  .next (s.asBundle (.vminn d a b t k) (fun s => s.elementwise 6 d a b t k (two (elemMinMax t false true))))

/-- VMAXN (R236). -/
def execVmaxn (d a b : BitVec 4) (t : BitVec 3) (k : BitVec 2) (s : State) : Host.Outcome State Fault Refusal :=
  .next (s.asBundle (.vmaxn d a b t k) (fun s => s.elementwise 6 d a b t k (two (elemMinMax t true true))))

/-- VABS (R235). -/
def execVabs (d a : BitVec 4) (t : BitVec 3) (k : BitVec 2) (s : State) : Host.Outcome State Fault Refusal :=
  .next (s.asBundle (.vabs d a t k) (fun s => s.elementwise 6 d a a t k (one (elemAbs t))))

/-- VNEG (R235). -/
def execVneg (d a : BitVec 4) (t : BitVec 3) (k : BitVec 2) (s : State) : Host.Outcome State Fault Refusal :=
  .next (s.asBundle (.vneg d a t k) (fun s => s.elementwise 6 d a a t k (one (elemNeg t))))

/-- VAND (R237). -/
def execVand (d a b : BitVec 4) (t : BitVec 3) (k : BitVec 2) (s : State) : Host.Outcome State Fault Refusal :=
  .next (s.asBundle (.vand d a b t k) (fun s => s.elementwise 6 d a b t k (fun x y _ => (x &&& y, 0))))

/-- VOR (R237). -/
def execVor (d a b : BitVec 4) (t : BitVec 3) (k : BitVec 2) (s : State) : Host.Outcome State Fault Refusal :=
  .next (s.asBundle (.vor d a b t k) (fun s => s.elementwise 6 d a b t k (fun x y _ => (x ||| y, 0))))

/-- VXOR (R237). -/
def execVxor (d a b : BitVec 4) (t : BitVec 3) (k : BitVec 2) (s : State) : Host.Outcome State Fault Refusal :=
  .next (s.asBundle (.vxor d a b t k) (fun s => s.elementwise 6 d a b t k (fun x y _ => (x ^^^ y, 0))))

/-- VSHL (R238). -/
def execVshl (d a b c : BitVec 4) (t : BitVec 3) (k : BitVec 2) (m : BitVec 1) (s : State) : Host.Outcome State Fault Refusal :=
  .next (s.asBundle (.vshl d a b c t k m) (fun s => s.shift 0 d a b c t k m))

/-- VSHR (R238). -/
def execVshr (d a b c : BitVec 4) (t : BitVec 3) (k : BitVec 2) (m : BitVec 1) (s : State) : Host.Outcome State Fault Refusal :=
  .next (s.asBundle (.vshr d a b c t k m) (fun s => s.shift 1 d a b c t k m))

/-- VSRA (R238). -/
def execVsra (d a b c : BitVec 4) (t : BitVec 3) (k : BitVec 2) (m : BitVec 1) (s : State) : Host.Outcome State Fault Refusal :=
  .next (s.asBundle (.vsra d a b c t k m) (fun s => s.shift 2 d a b c t k m))

/-- VCMPEQ (R239). -/
def execVcmpeq (d : BitVec 2) (a b : BitVec 4) (t : BitVec 3) (k : BitVec 2) (s : State) : Host.Outcome State Fault Refusal :=
  .next (s.asBundle (.vcmpeq d a b t k) (fun s => s.compare d a b t k 0))

/-- VCMPLT (R239). -/
def execVcmplt (d : BitVec 2) (a b : BitVec 4) (t : BitVec 3) (k : BitVec 2) (s : State) : Host.Outcome State Fault Refusal :=
  .next (s.asBundle (.vcmplt d a b t k) (fun s => s.compare d a b t k 1))

/-- VCMPLE (R239). -/
def execVcmple (d : BitVec 2) (a b : BitVec 4) (t : BitVec 3) (k : BitVec 2) (s : State) : Host.Outcome State Fault Refusal :=
  .next (s.asBundle (.vcmple d a b t k) (fun s => s.compare d a b t k 2))

/-- VSEL (R240). -/
def execVsel (d a b : BitVec 4) (t : BitVec 3) (k : BitVec 2) (s : State) : Host.Outcome State Fault Refusal :=
  .next (s.asBundle (.vsel d a b t k) (fun s => 
    s.sendCores 6 (.vreg (s.vnum d)) 0 (fun _ x =>
      lanesOut (BitVec.allOnes 1024) (fun i =>
        (nth (x.vreg (s.vnum (if (x.mask k.toNat).getLsbD i then a else b))).lanes i 0, 0)))))

/-- VMOV (R240). -/
def execVmov (d a : BitVec 4) (t : BitVec 3) (k : BitVec 2) (s : State) : Host.Outcome State Fault Refusal :=
  .next (s.asBundle (.vmov d a t k) (fun s => s.moveLanes 6 d a k (fun i => i)))

/-- VSPLAT (R240). -/
def execVsplat (d c : BitVec 4) (t : BitVec 3) (k : BitVec 2) (s : State) : Host.Outcome State Fault Refusal :=
  .next (s.asBundle (.vsplat d c t k) (fun s => 
    s.fillLanes d k (fun _ => BitVec.ofNat 32 (laneOf (elemW t)
      (List.replicate (elems t) (s.opG (c.setWidth 6)).toNat)))))

/-- VBCR (R241). -/
def execVbcr (d a c : BitVec 4) (t : BitVec 3) (k : BitVec 2) (s : State) : Host.Outcome State Fault Refusal :=
  .next (s.asBundle (.vbcr d a c t k) (fun s => s.moveLanes 6 d a k (fun i => 64 * c.toNat + i % 64)))

/-- VROTR (R241). -/
def execVrotr (d a c : BitVec 4) (t : BitVec 3) (k : BitVec 2) (s : State) : Host.Outcome State Fault Refusal :=
  .next (s.asBundle (.vrotr d a c t k) (fun s => s.moveLanes 6 d a k (fun i => 64 * ((i / 64 + c.toNat) % 16) + i % 64)))

/-- VREDR (R242). -/
def execVredr (d a c : BitVec 4) (t : BitVec 3) (k : BitVec 2) (n : BitVec 3) (s : State) : Host.Outcome State Fault Refusal :=
  .next (s.asBundle (.vredr d a c t k n) (fun s => 
    s.sendCores 10 (.vreg (s.vnum d)) 0 (fun _ x => reduceRows t n.toNat (x.vreg (s.vnum a)) (x.mask k.toNat))))

/-- VBCC (R241). -/
def execVbcc (d a c : BitVec 4) (t : BitVec 3) (k : BitVec 2) (s : State) : Host.Outcome State Fault Refusal :=
  .next (s.asBundle (.vbcc d a c t k) (fun s => 
    s.moveLanes 8 d a k (fun i => i / 64 * 64 + (s.opG (c.setWidth 6)).toNat % 64)))

/-- VROTC (R241). -/
def execVrotc (d a c : BitVec 4) (t : BitVec 3) (k : BitVec 2) (s : State) : Host.Outcome State Fault Refusal :=
  .next (s.asBundle (.vrotc d a c t k) (fun s => 
    s.moveLanes 10 d a k (fun i => i / 64 * 64 + (i + (s.opG (c.setWidth 6)).toNat) % 64)))

/-- VREDC (R242). -/
def execVredc (d a c : BitVec 4) (t : BitVec 3) (k : BitVec 2) (n : BitVec 3) (s : State) : Host.Outcome State Fault Refusal :=
  .next (s.asBundle (.vredc d a c t k n) (fun s => 
    s.sendCores 14 (.vreg (s.vnum d)) 0 (fun _ x => reduceCols t n.toNat (x.vreg (s.vnum a)) (x.mask k.toNat))))

/-- VCVT (R243). -/
def execVcvt (d a : BitVec 4) (t : BitVec 3) (k : BitVec 2) (q : BitVec 3) (e : BitVec 2) (s : State) : Host.Outcome State Fault Refusal :=
  .next (s.asBundle (.vcvt d a t k q e) (fun s => 
    s.sendCores 8 (.vreg (s.vnum d)) 0 (fun _ x =>
      convertRows t q e.toNat (x.vreg (s.vnum a)) (x.vreg (s.vnum d)) (x.mask k.toNat))))

/-- VPACK (R245). -/
def execVpack (d a b : BitVec 4) (t : BitVec 3) (k : BitVec 2) (q : BitVec 3) (s : State) : Host.Outcome State Fault Refusal :=
  .next (s.asBundle (.vpack d a b t k q) (fun s => 
    s.sendCores 6 (.vreg (s.vnum d)) 0 (fun _ x =>
      packRows t q (x.vreg (s.vnum a)) (x.vreg (s.vnum b)) (x.mask k.toNat))))

/-- VUNPK (R246). -/
def execVunpk (d a : BitVec 4) (t : BitVec 3) (k : BitVec 2) (q : BitVec 3) (h : BitVec 1) (s : State) : Host.Outcome State Fault Refusal :=
  .next (s.asBundle (.vunpk d a t k q h) (fun s => 
    s.sendCores 6 (.vreg (s.vnum d)) 0 (fun _ x => unpackRows t q h.toNat (x.vreg (s.vnum a)) (x.mask k.toNat))))

/-- VLD (R247). -/
def execVld (d c : BitVec 4) (s : State) : Host.Outcome State Fault Refusal :=
  .next (s.asBundle (.vld d c) (fun s => s.vectorLoad 18 d (s.opG (c.setWidth 6)) 0 16))

/-- VST (R247). -/
def execVst (a c : BitVec 4) (k : BitVec 2) (s : State) : Host.Outcome State Fault Refusal :=
  .next (s.asBundle (.vst a c k) (fun s => s.vectorStore a (s.opG (c.setWidth 6)) k 0 16))

/-- VLDR (R247). -/
def execVldr (d c r : BitVec 4) (s : State) : Host.Outcome State Fault Refusal :=
  .next (s.asBundle (.vldr d c r) (fun s => s.vectorLoad 3 d (s.opG (c.setWidth 6)) r.toNat 1))

/-- VSTR (R247). -/
def execVstr (a c : BitVec 4) (k : BitVec 2) (r : BitVec 4) (s : State) : Host.Outcome State Fault Refusal :=
  .next (s.asBundle (.vstr a c k r) (fun s => s.vectorStore a (s.opG (c.setWidth 6)) k r.toNat 1))

/-- VEXP2 (R250). -/
def execVexp2 (d a : BitVec 4) (t : BitVec 1) (k : BitVec 2) (g : BitVec 1) (s : State) : Host.Outcome State Fault Refusal :=
  .next (s.asBundle (.vexp2 d a t k g) (fun s => s.transcend .exp2 d a t k g))

/-- VLOG2 (R250). -/
def execVlog2 (d a : BitVec 4) (t : BitVec 1) (k : BitVec 2) (g : BitVec 1) (s : State) : Host.Outcome State Fault Refusal :=
  .next (s.asBundle (.vlog2 d a t k g) (fun s => s.transcend .log2 d a t k g))

/-- VRCP (R250). -/
def execVrcp (d a : BitVec 4) (t : BitVec 1) (k : BitVec 2) (g : BitVec 1) (s : State) : Host.Outcome State Fault Refusal :=
  .next (s.asBundle (.vrcp d a t k g) (fun s => s.transcend .rcp d a t k g))

/-- VRSQ (R250). -/
def execVrsq (d a : BitVec 4) (t : BitVec 1) (k : BitVec 2) (g : BitVec 1) (s : State) : Host.Outcome State Fault Refusal :=
  .next (s.asBundle (.vrsq d a t k g) (fun s => s.transcend .rsq d a t k g))

/-- VSQRT (R250). -/
def execVsqrt (d a : BitVec 4) (t : BitVec 1) (k : BitVec 2) (g : BitVec 1) (s : State) : Host.Outcome State Fault Refusal :=
  .next (s.asBundle (.vsqrt d a t k g) (fun s => s.transcend .sqrt d a t k g))

/-- VTANH (R250). -/
def execVtanh (d a : BitVec 4) (t : BitVec 1) (k : BitVec 2) (g : BitVec 1) (s : State) : Host.Outcome State Fault Refusal :=
  .next (s.asBundle (.vtanh d a t k g) (fun s => s.transcend .tanh d a t k g))

/-- VSIGM (R250). -/
def execVsigm (d a : BitVec 4) (t : BitVec 1) (k : BitVec 2) (g : BitVec 1) (s : State) : Host.Outcome State Fault Refusal :=
  .next (s.asBundle (.vsigm d a t k g) (fun s => s.transcend .sigm d a t k g))

/-- VSIN (R250). -/
def execVsin (d a : BitVec 4) (t : BitVec 1) (k : BitVec 2) (g : BitVec 1) (s : State) : Host.Outcome State Fault Refusal :=
  .next (s.asBundle (.vsin d a t k g) (fun s => s.transcend .sin d a t k g))

/-- VCOS (R250). -/
def execVcos (d a : BitVec 4) (t : BitVec 1) (k : BitVec 2) (g : BitVec 1) (s : State) : Host.Outcome State Fault Refusal :=
  .next (s.asBundle (.vcos d a t k g) (fun s => s.transcend .cos d a t k g))

/-- VQMAX (R254). -/
def execVqmax (a : BitVec 4) (t : BitVec 1) (k q : BitVec 2) (s : State) : Host.Outcome State Fault Refusal :=
  .next (s.asBundle (.vqmax a t k q) (fun s => s.blockMax a (fpType t) k q))

/-- RNG_DRAW (R255). -/
def execRngDraw (d c n : BitVec 4) (s : State) : Host.Outcome State Fault Refusal :=
  .next (s.asBundle (.rngDraw d c n) (fun s => s.drawRows d c.toNat (n.toNat + 1)))

/-- VCORE (R256). -/
def execVcore (d : BitVec 4) (s : State) : Host.Outcome State Fault Refusal :=
  .next (s.asBundle (.vcore d) (fun s => s.fillLanes d 0 (fun n => BitVec.ofNat 32 n)))

end Sys2Proof.Machine
end

