-- ==== Sys2Proof/Machine/StreamArith.lean ====
section
/-! DEFINITION. Stream arithmetic: the two sequences and their levels, counts of coincidences, contributions, error
bounds, folio additions, drains and the early stop (R55 to R73, R283, R327). -/

namespace Sys2Proof.Machine

/-! ### Sequences and levels (R58, R59) -/

/-- Bit `i` of a number, as 0 or 1. -/
def bitAt (t i : Nat) : Nat := t / 2 ^ i % 2

/-- A(t): the bits of t reversed, XOR sA (R58). -/
def seqA (sa : BitVec 16) (t : Nat) : BitVec 16 :=
  BitVec.ofNat 16 (((List.range 16).map (fun i => bitAt t i * 2 ^ (15 - i))).foldl (· + ·) 0) ^^^ sa

/-- Binomial coefficients modulo 2: C(k, i) is odd where the bits of i lie among those of k. -/
def binomOdd (k i : Nat) : Bool := k &&& i == i

/-- V(k): bit 15 − i is C(k, i) mod 2 (R58). -/
def seqV (k : Nat) : BitVec 16 :=
  BitVec.ofNat 16 (((List.range 16).map (fun i => if binomOdd k i then 2 ^ (15 - i) else 0)).foldl (· + ·) 0)

/-- B(t) (R58). -/
def seqB (sb : BitVec 16) (t : Nat) : BitVec 16 :=
  (List.range 16).foldl (fun b k => if bitAt t k = 1 then b ^^^ seqV k else b) sb

/-- N(k) of R59. -/
def levelN (k : Nat) : BitVec 4 :=
  match k % 4 with
  | 0 => 8
  | 1 => 12
  | 2 => 10
  | _ => 15

/-- α(t): the top nibble of A(t), by R59. -/
def levelA (sa : BitVec 16) (t : Nat) : BitVec 4 :=
  BitVec.ofNat 4 (8 * bitAt t 0 + 4 * bitAt t 1 + 2 * bitAt t 2 + bitAt t 3) ^^^ sa.extractLsb' 12 4

/-- β(t): the top nibble of B(t), by R59. -/
def levelB (sb : BitVec 16) (t : Nat) : BitVec 4 :=
  (List.range 16).foldl (fun b k => if bitAt t k = 1 then b ^^^ levelN k else b) (sb.extractLsb' 12 4)

/-! ### Counts (R57, R61) -/

/-- Stream bit of a 4-bit code at a level (R57). -/
def streamBit (q : Nat) (level : BitVec 4) : Bool := decide (level.toNat < q)

/-- Whether a cell counts a bit at its two levels: XNOR in xnor mode, AND otherwise (R57). -/
def meets (xnor : Bool) (qa qw : Nat) (l : BitVec 4 × BitVec 4) : Bool :=
  let a := streamBit qa l.1
  let w := streamBit qw l.2
  if xnor then a == w else a && w

/-- The levels of bits start .. start+n−1. -/
def levels (sa sb : BitVec 16) (start n : Nat) : List (BitVec 4 × BitVec 4) :=
  (List.range n).map (fun i => (levelA sa (start + i), levelB sb (start + i)))

/-- Count of the bits with some levels (R57). -/
def countIn (xnor : Bool) (ls : List (BitVec 4 × BitVec 4)) (qa qw : Nat) : Nat := (ls.filter (meets xnor qa qw)).length

/-- Count of a whole run at m ≥ 8 (R61). -/
def exactCount (xnor : Bool) (m qa qw : Nat) : Nat :=
  2 ^ (m - 8) * (if xnor then qa * qw + (16 - qa) * (16 - qw) else qa * qw)

/-- The counts of the 256 pairs of codes over a range of bits, at 16·qa + qw. -/
def pairTable (f : Nat → Nat → Nat) : Array Nat := ((List.range 256).map (fun i => f (i / 16) (i % 16))).toArray

/-- The counts of the pairs over bits start .. 2^m − 1; by R61 where a whole run at m ≥ 8 is counted. -/
def runTable (xnor : Bool) (sa sb : BitVec 16) (m start : Nat) : Array Nat :=
  if start = 0 ∧ 8 ≤ m then pairTable (exactCount xnor m)
  else
    let ls := levels sa sb start (2 ^ m - start)
    pairTable (countIn xnor ls)

/-! ### Codes (R57, R62, R270) -/

/-- Value of a code byte in a mode: q4, q4n or q8 (R57, R269). -/
def codeValue (mode : Nat) (b : Byte) : Int :=
  match mode with
  | 0 => sextNat 4 b.toNat
  | 1 => (b.toNat % 16 : Nat)
  | _ => sextNat 8 b.toNat

/-- 4-bit code of a value in a sub-pass; `high` picks the nibble in d8 (R57, R63). -/
def codeQ (mode : Nat) (high : Bool) (v : Int) : Nat :=
  match mode with
  | 0 => (v + 8).toNat
  | 1 => v.toNat
  | _ => if high then (v + 128).toNat / 16 else (v + 128).toNat % 16

/-- Values of an activation vector from its bytes; rows from NROW on are gated (R62, R270). -/
def actValues (mode nrow : Nat) (bs : List Byte) : Array Int :=
  ((List.range 256).map (fun i =>
    if nrow ≤ i then 0
    else if mode = 2 then codeValue 2 (nth bs i 0)
    else codeValue mode (BitVec.ofNat 8 ((nth bs (i / 2) 0).toNat / 16 ^ (i % 2) % 16)))).toArray

/-- Active rows that are not gated (R62, R283, R327). -/
def ungatedRows (act : Array Int) : Nat := (act.toList.filter (fun v => v != 0)).length

/-! ### Sums of a unit of work (R63, R338) -/

/-- Sum over the ungated cells of an array of 1,024 entries, 256·g + j for row group g and column j: `f` of the row's
value and the cell's value. Unlisted shelf bytes are 0 in every mode, so gated. -/
def sumCells (mode : Nat) (act : Array Int) (codes : NMap Byte) (f : Int → Int → Int) (acc : Array Int) : Array Int :=
  codes.foldl (fun acc e =>
    let va := act.getD (e.1 / 256) 0
    let vw := codeValue mode e.2
    if va = 0 ∨ vw = 0 then acc
    else acc.modify (256 * (e.1 / 256 / 64) + e.1 % 256) (fun x => x + f va vw)) acc

/-- 1,024 zeros. -/
def noSums : Array Int := (List.replicate 1024 0).toArray

/-- Counts of one pass: sub-pass `sub` of d8 (0 hh, 1 hl, 2 lh, 3 ll), the single pass of the other modes. -/
def passCounts (mode sub : Nat) (tbl : Array Nat) (act : Array Int) (codes : NMap Byte) (acc : Array Int) : Array Int :=
  sumCells mode act codes (fun va vw =>
    (tbl.getD (16 * codeQ mode (decide (sub < 2)) va + codeQ mode (sub % 2 == 0) vw) 0 : Nat)) acc

/-- Weight of a sub-pass in the d8 combination (R63). -/
def subWeight (sub : Nat) : Int := if sub = 0 then 256 else if sub = 3 then 1 else 16

/-- T of every row group and column from the counts of a mode (the combination, in d8), at exponent m (R63). -/
def unitTotals (mode m : Nat) (act : Array Int) (codes : NMap Byte) (counts : Array Int) : Array Int :=
  let off := sumCells mode act codes (fun va vw =>
    match mode with
    | 0 => -65536
    | 1 => 0
    | _ => -(131072 * (va + 128)) - 131072 * (vw + 128) + 16777216) noSums
  let scale : Int := if mode = 0 then (2 ^ (17 - m) : Nat) else (2 ^ (18 - m) : Nat)
  (Array.range 1024).map (fun i => scale * counts.getD i 0 + off.getD i 0)

/-- T at exact length: Σ 1,024·va·vb (R63, R64). -/
def exactTotals (mode : Nat) (act : Array Int) (codes : NMap Byte) : Array Int :=
  sumCells mode act codes (fun va vw => 1024 * va * vw) noSums

/-- Stream exponent a mode runs at (R63). -/
def usedM (mode m : Nat) : Nat := if mode = 2 then Max.max m 8 else m

/-- All counts of a unit, from its first bit to its last (R63). -/
def wholeCounts (mode m : Nat) (sa sb : BitVec 16) (act : Array Int) (codes : NMap Byte) : Array Int :=
  let tbl := runTable (mode == 0) sa sb (usedM mode m) 0
  if mode = 2 then
    (List.range 4).foldl (fun acc sub =>
      let c := passCounts 2 sub tbl act codes noSums
      (Array.range 1024).map (fun i => acc.getD i 0 + subWeight sub * c.getD i 0)) noSums
  else passCounts mode 0 tbl act codes noSums

/-- Bound on the error of one product (R65). -/
def productBound (mode m : Nat) : Nat :=
  if 8 ≤ m then 0
  else match mode with
    | 0 => (4 * (8 - m) + (if m = 3 then 4 else 0)) * 2 ^ (16 - m)
    | 1 => (8 - m) * 2 ^ (18 - m)
    | _ => 0

/-- DEV and BOUND of one column of a vector on a core (R283). -/
def columnCheck (mode m col nrow : Nat) (sa sb : BitVec 16) (act : Array Int) (codes : NMap Byte) : Nat × Nat :=
  let one := codes.filter (fun e => e.1 % 256 == col)
  let t := unitTotals mode (usedM mode m) act one (wholeCounts mode m sa sb act one)
  let x := exactTotals mode act one
  let dev := ((List.range ((nrow + 63) / 64)).map (fun g =>
    (t.getD (256 * g + col) 0 - x.getD (256 * g + col) 0).natAbs)).foldl (· + ·) 0
  (dev, ungatedRows act * productBound mode m)

/-! ### Folio rows (R66, R67, R71, R73) -/

/-- A row holding zero with base exponent 0 (R92). -/
def FolioRow.zero : FolioRow := { f := List.replicate 256 0, b := 0 }

/-- T·2^sh aligned: exact to the left; to the right rdn under NP1, rne under NP2; true when bits were lost (R67). -/
def alignTo (np : Nat) (t sh : Int) : Int × Bool :=
  if t = 0 ∨ 0 ≤ sh then (t * (2 ^ sh.toNat : Nat), false)
  else
    let d : Int := (2 ^ (-sh).toNat : Nat)
    let q := t.fdiv d
    let r := t.fmod d
    (if np = 2 ∧ (d < 2 * r ∨ (2 * r = d ∧ q % 2 = 1)) then q + 1 else q, decide (r ≠ 0))

/-- Saturate a sum to a folio accumulator; true when it did (R67). -/
def folioSat (z : Int) : BitVec 96 × Bool :=
  let c := satInt z (-(2 ^ 95 : Nat)) ((2 ^ 95 : Nat) - 1)
  (BitVec.ofInt 96 c, decide (c ≠ z))

/-- Add amounts to the columns of a row: the row, and whether one saturated. -/
def FolioRow.add (r : FolioRow) (y : Nat → Int) : FolioRow × Bool :=
  let cols := (List.range 256).map (fun j => folioSat ((nth r.f j 0).toInt + y j))
  ({ r with f := cols.map (·.1) }, cols.any (·.2))

/-- Add a vector's sums to a row (R67): `ea` the scales of the row groups, `ew` those of a column and group. -/
def FolioRow.accumulate (r : FolioRow) (np : Nat) (t : Array Int) (ea : List Byte) (ew : Nat → Nat → Nat) :
    FolioRow × Byte :=
  let part (j g : Nat) : Int × Bool :=
    alignTo np (t.getD (256 * g + j) 0) (((nth ea g 0).toNat : Int) + (ew j g : Nat) - 264 - r.b.toInt)
  let cols := (List.range 256).map (fun j => (List.range ea.length).map (part j))
  let lost := cols.any (fun l => l.any (·.2))
  let res := r.add (fun j => ((nth cols j []).map (·.1)).foldl (· + ·) 0)
  (res.1, (if lost then flagALIGN else 0) ||| (if res.2 then flagOVF else 0))

/-- A drained column: F·2^B rounded once (R71). -/
def drainValue (p : Nat) (f : BitVec 96) (b : BitVec 16) : Nat × Byte :=
  if f = 0 then (0, 0) else fpRound p (decide (f.toInt < 0)) f.toInt.natAbs b.toInt false .rne

/-! ### Early stop (R72, R73) -/

/-- Codes of the ungated cells of a column, each with its row's code. -/
def columnPairs (mode col : Nat) (act : Array Int) (codes : NMap Byte) : List (Nat × Nat) :=
  codes.filterMap (fun e =>
    let va := act.getD (e.1 / 256) 0
    let vw := codeValue mode e.2
    if e.1 % 256 ≠ col ∨ va = 0 ∨ vw = 0 then none else some (codeQ mode true va, codeQ mode true vw))

/-- What bit t adds to S_j: Σ (2·bit − 1) in xnor mode, Σ bit in and mode (R72). -/
def partialBit (mode : Nat) (sa sb : BitVec 16) (ps : List (Nat × Nat)) (t : Nat) : Int :=
  let l := (levelA sa t, levelB sb t)
  ps.foldl (fun n p =>
    let b : Int := if meets (mode == 0) p.1 p.2 l then 1 else 0
    n + (if mode = 0 then 2 * b - 1 else b)) 0

/-- Search the quantum boundaries from bit t on, with D(t): the boundary or L at which the run ends, and D there
(R72). `fuel` bounds the bits left. -/
def stopSearch (mode : Nat) (sa sb : BitVec 16) (xs ys : List (Nat × Nat)) (theta len : Nat) :
    Nat → Nat → Int → Nat × Int
  | 0, t, d => (t, d)
  | fuel + 1, t, d =>
    if len ≤ t then (t, d)
    else if t ≠ 0 ∧ t % 8 = 0 ∧ d ≠ 0 ∧ theta ≤ d.natAbs then (t, d)
    else stopSearch mode sa sb xs ys theta len fuel (t + 1)
      (d + partialBit mode sa sb xs t - partialBit mode sa sb ys t)

/-- The stop record (R73). -/
def stopRecord (x y : Byte) (tstop len : Nat) (d : Int) : W64 :=
  let tie := decide (tstop = len) && decide (d = 0)
  let lead := if d < 0 then y else x
  BitVec.ofNat 64 (lead.toNat * 2 ^ 40 + y.toNat * 2 ^ 32 + x.toNat * 2 ^ 24 +
    (if tie then 2 ^ 18 else 0) + (if tstop < len then 2 ^ 17 else 0) + tstop)

end Sys2Proof.Machine
end

