-- ==== Sys2Proof/Machine/Stream.lean ====
section
/-! DEFINITION. The stream engines: the commands of the S slot at issue, and the chunks in which the engines perform
them (R55, R92, R119, R258 to R285, R316, R327, R336 to R338, R379, R383, R384). -/

namespace Sys2Proof.Machine

/-! ### Issue (R258, R259, R261) -/

/-- A cursor at the start of a command (R337). -/
def Cursor.start : Cursor := { pos := 0, sub := 0, tbit := 0, pv := false, state := 0, cause := 0 }

/-- Queue a command on the four cores with all it takes from the context, each at its own core's cycle 0; a destination is empty
until the four cores are done (R13, R162, R166, R258, R259, R261). -/
def State.pushStream (s : State) (i : Instr) (ops : List W64) (dest : Option (BitVec 6)) (v : Option (BitVec 4))
    (sampled : Bool) : State :=
  let u := s.issue
  let c := s.issueCtx
  let w := (encode i).getD 0
  let tok := s.uid
  let scc := c.scc + 1
  let cmd (x : CoreCtx) : StreamCmd :=
    { cidx := scc.setWidth 32, flags := w.setWidth 8, op := w.extractLsb' 26 6, m := c.sl.toNat, seed := c.seed
      dv := dest.isSome, dest := dest.getD 0, token := tok, opnd := ops
      rows := (v.map (fun n => x.vreg (physV u.rrb n.toNat))).getD .zero, codes := if v.isSome then x.bypass else []
      key0 := c.key0, key1 := c.key1, cur := .start, part := [], sampled := sampled, after := s.earlier u.cl u.cx
      claims := c.claims, bpc := u.pc, faultAt := 0, spent := 0 }
  let s := { s with uid := tok + 1 }
  let s := s.modIssue (fun c =>
    let c : Ctx := { c with scc := scc, cores := c.cores.map (fun x => { x with cmds := x.cmds ++ [cmd x] }) }
    match dest with
    | some r =>
      { (c.emptyG r.toNat tok) with
        gang := c.gang ++ [{ cidx := scc.setWidth 32, reg := r.toNat, token := tok, at_ := s.now + 7, done := [], value := [] }] }
    | none => c)
  (List.range 4).foldl (fun s k =>
    s.post s.now .streamChunk { EvArg.zero with cl := u.cl, id := k, n := 1 }) s

/-- What the scalar plane decides for an S slot comes to its register in cycle 7. DESIGN CHOICE: R264 and R267 give cycle 7;
R261, of every command that names a register, gives the later of cycle 7 and the cycle after all four cores have completed it,
which the example of R285 does not show for a claim on idle engines (log 91). -/
def State.landSeven (s : State) (c : BitVec 6) (v : Nat) : State :=
  let id := s.uid
  let s := ({ s with uid := id + 1 }).modIssue (fun x => x.emptyG c.toNat id)
  s.send (.scalarAt (s.now + 7) (.greg c.toNat id) (BitVec.ofNat 64 v) 0)

/-- A command without destination, capture or sample. -/
def streamPlain (i : Instr) (ops : List (BitVec 6)) (s : State) : State :=
  s.pushStream i (ops.map s.opG) none none false

/-- The first DENIED of a binding: an entry, and 1 to WDENC (R316, R389). -/
def State.denyWidening (s : State) (cl : Nat) (c : Ctx) : State :=
  let r := s.regionOf c
  match s.region r, s.fieldsOf c with
  | some now, some rg =>
    if now.denied then s
    else
      let s := { s with regions := NMap.set s.regions r { now with denied := true } }
      let s := s.logCat (clusterStop cl) 11 8 rg.dom (entryCur (s.domAt (clusterStop cl) rg.dom)) 0 0 0
      if rg.wdenc = 0 then s else (s.deviceAdd (cl / 2) rg.dom rg.wdenc 1).2
  | _, _ => s

/-- The widening share of a die that a context draws on (R265, R316). -/
def State.share (s : State) (cl : Nat) (c : Ctx) : Nat :=
  ((s.region (s.regionOf c)).map (fun r => NMap.getD r.shares (cl / 2) 0)).getD 0

/-- STR_SETL: granted up to the nominal m with which its task was placed, or while the die's widening share lasts (R264, R314,
R316). -/
def strSetlEffect (a c : BitVec 6) (s : State) : State :=
  let u := s.issue
  let x := s.issueCtx
  let m := (s.opG a).toNat
  let ok : Bool := match s.fieldsOf x with
    | some r => decide (m ≤ r.nomm) || decide (0 < s.share u.cl x)
    | none => true
  let s := (s.pushStream (.strSetl a c) [s.opG a] none none false).landSeven c (x.sl.toNat * 256 + if ok then 0 else 7)
  if ok then s.modIssue (fun c => { c with sl := BitVec.ofNat 5 m }) else s.denyWidening u.cl x

/-- STR_SETL (R264). -/
def execStrSetl (a c : BitVec 6) (s : State) : Host.Outcome State Fault Refusal :=
  .next (s.asBundle (.strSetl a c) (strSetlEffect a c))

/-- STR_SEED (R266). -/
def execStrSeed (a : BitVec 6) (s : State) : Host.Outcome State Fault Refusal :=
  .next (s.asBundle (.strSeed a) (fun s =>
    (streamPlain (.strSeed a) [a] s).modIssue (fun c => { c with seed := (s.opG a).setWidth 32 })))

/-- A release of a shelf is on its way: it was claimed when the release issued, and a core has not performed it (R268). -/
def Ctx.releasing (c : Ctx) (now n : Nat) : Bool :=
  let is (x : StreamCmd) : Bool := x.op == 0x04 && (x.flags.toNat % 8 == n) && x.claims.getLsbD n
  c.cores.any (fun k => k.cmds.any is || k.late.any (fun e => decide (now < e.1) && is e.2))

/-- SHF_CLAIM: decided at cycle 0 against the claims of the cluster (R267). -/
def shfClaimEffect (c : BitVec 6) (n : BitVec 3) (s : State) : State :=
  let u := s.issue
  let x := s.issueCtx
  let sh := n.toNat
  let taken := (List.range 8 ++ s.shadows u.cl).any (fun y =>
    let o := s.ctx u.cl y
    o.occ != .free && o.task == x.task && ((y != u.cx && o.claims.getLsbD sh) || o.releasing s.now sh))
  let ok := decide (sh < (s.task x).nsh) && (x.claims.getLsbD sh || !taken)
  ((s.pushStream (.shfClaim c n) [] none none false).landSeven c (if ok then 0 else 7)).modIssue (fun c =>
    if ok then { c with claims := c.claims ||| BitVec.ofNat 8 (2 ^ sh) } else c)

/-- SHF_CLAIM (R267). -/
def execShfClaim (c : BitVec 6) (n : BitVec 3) (s : State) : Host.Outcome State Fault Refusal :=
  .next (s.asBundle (.shfClaim c n) (shfClaimEffect c n))

/-- SHF_REL: gone for the context's later commands, free to others when the four cores have performed it (R268). -/
def execShfRel (n : BitVec 3) (s : State) : Host.Outcome State Fault Refusal :=
  .next (s.asBundle (.shfRel n) (fun s =>
    (streamPlain (.shfRel n) [] s).modIssue (fun c => { c with claims := c.claims &&& ~~~(BitVec.ofNat 8 (2 ^ n.toNat)) })))

/-- WLD (R269). -/
def execWld (a b : BitVec 6) (r : BitVec 1) (n : BitVec 3) (s : State) : Host.Outcome State Fault Refusal :=
  .next (s.asBundle (.wld a b r n) (streamPlain (.wld a b r n) [a, b]))

/-- The charge of a run issued above the nominal m of its task, against the die's share, which stops at zero (R265, R314,
R316). -/
def State.chargeRun (s : State) (mode nvec : Nat) : State :=
  let u := s.issue
  let x := s.issueCtx
  let rn := s.regionOf x
  match s.region rn, s.fieldsOf x with
  | some r, some f =>
    let m := x.sl.toNat
    if m ≤ f.nomm then s
    else
      let amount := if mode = 2 then nvec * 4 * (Max.max 4 (passLen m) - Max.max 4 (passLen f.nomm))
        else nvec * (passLen m - passLen f.nomm)
      { s with regions := NMap.set s.regions rn { r with shares := NMap.modify r.shares (u.cl / 2) 0 (fun v => v - amount) } }
  | _, _ => s

/-- The four registers of a descriptor (R270). -/
def State.descriptor (s : State) (a : BitVec 6) : List W64 := (List.range 4).map (fun j => s.opG (a + BitVec.ofNat 6 j))

/-- A run counts against the sampled check of its task: true when it is the one sampled (R314, R384). -/
def State.countRunCmd (s : State) (stop : Bool) : Bool × State :=
  if stop then (false, s)
  else
    let n := s.issueCtx.runs + 1
    let chkn := ((s.fieldsOf s.issueCtx).map (·.chkn)).getD 0
    (chkn ≠ 0 && n % chkn == 0, s.modIssue (fun c => { c with runs := n }))

/-- An activation run enters the queues: charged, counted, captured (R259, R265, R271, R384). -/
def runEffect (i : Instr) (a : BitVec 6) (mode : BitVec 2) (stop : BitVec 1) (s : State) : State :=
  let ops := s.descriptor a
  let nvec := (actDesc (nth ops 0 0) (nth ops 1 0) (nth ops 2 0) (nth ops 3 0)).nvec
  let r := (s.chargeRun mode.toNat nvec).countRunCmd (stop == 1)
  r.2.pushStream i ops none none r.1

/-- ARUN (R271). -/
def execArun (a : BitVec 6) (r : BitVec 1) (m : BitVec 2) (st : BitVec 1) (n : BitVec 4) (s : State) :
    Host.Outcome State Fault Refusal :=
  .next (s.asBundle (.arun a r m st n) (runEffect (.arun a r m st n) a m st))

/-- ARUN_BT (R273). -/
def execArunBt (a : BitVec 6) (r : BitVec 1) (m : BitVec 2) (st : BitVec 1) (n : BitVec 4) (s : State) :
    Host.Outcome State Fault Refusal :=
  .next (s.asBundle (.arunBt a r m st n) (runEffect (.arunBt a r m st n) a m st))

/-- STOP_CFG (R274). -/
def execStopCfg (a b c : BitVec 6) (s : State) : Host.Outcome State Fault Refusal :=
  .next (s.asBundle (.stopCfg a b c) (streamPlain (.stopCfg a b c) [a, b, c]))

/-- FCLR (R277). -/
def execFclr (a b c : BitVec 6) (s : State) : Host.Outcome State Fault Refusal :=
  .next (s.asBundle (.fclr a b c) (streamPlain (.fclr a b c) [a, b, c]))

/-- DRAIN (R278). -/
def execDrain (a b c : BitVec 6) (r f : BitVec 1) (n : BitVec 4) (s : State) : Host.Outcome State Fault Refusal :=
  .next (s.asBundle (.drain a b c r f n) (streamPlain (.drain a b c r f n) [a, b, c]))

/-- FLD (R279). -/
def execFld (a b c : BitVec 6) (r : BitVec 1) (s : State) : Host.Outcome State Fault Refusal :=
  .next (s.asBundle (.fld a b c r) (streamPlain (.fld a b c r) [a, b, c]))

/-- FST (R279). -/
def execFst (a b c : BitVec 6) (r : BitVec 1) (s : State) : Host.Outcome State Fault Refusal :=
  .next (s.asBundle (.fst a b c r) (streamPlain (.fst a b c r) [a, b, c]))

/-- A quantise captures its rows and codes; under rsr also the counter, which goes on by 4·64·rows (R75, R280). -/
def quantiseEffect (i : Instr) (a b : BitVec 6) (sel : BitVec 2) (v : BitVec 4) (s : State) : State :=
  let ops := [s.opG a, s.opG b]
  if sel = 2 then
    let c := s.issueCtx.draw
    let rows := wbits (s.opG b) 7 4 + 1
    (s.pushStream i (ops ++ [c.setWidth 64, c.extractLsb' 64 64]) none (some v) false).modIssue
      (fun x => { x with draw := x.draw + BitVec.ofNat 128 (256 * rows) })
  else s.pushStream i ops none (some v) false

/-- SQ4 (R280). -/
def execSq4 (a b : BitVec 6) (r : BitVec 1) (sel : BitVec 2) (n : BitVec 1) (v : BitVec 4) (s : State) :
    Host.Outcome State Fault Refusal :=
  .next (s.asBundle (.sq4 a b r sel n v) (quantiseEffect (.sq4 a b r sel n v) a b sel v))

/-- SQ8 (R280). -/
def execSq8 (a b : BitVec 6) (r : BitVec 1) (sel : BitVec 2) (v : BitVec 4) (s : State) :
    Host.Outcome State Fault Refusal :=
  .next (s.asBundle (.sq8 a b r sel v) (quantiseEffect (.sq8 a b r sel v) a b sel v))

/-- SQ_LD (R281). -/
def execSqLd (a b : BitVec 6) (r : BitVec 1) (s : State) : Host.Outcome State Fault Refusal :=
  .next (s.asBundle (.sqLd a b r) (streamPlain (.sqLd a b r) [a, b]))

/-- SQ_CLR (R282). -/
def execSqClr (s : State) : Host.Outcome State Fault Refusal :=
  .next (s.asBundle .sqClr (streamPlain .sqClr []))

/-- CHK (R283). -/
def execChk (a c : BitVec 6) (m : BitVec 2) (n : BitVec 4) (s : State) : Host.Outcome State Fault Refusal :=
  .next (s.asBundle (.chk a c m n) (fun s =>
    (s.chargeRun m.toNat 1).pushStream (.chk a c m n) (s.descriptor a) (some c) none false))

/-- STR_STAT (R276). -/
def execStrStat (c : BitVec 6) (s : State) : Host.Outcome State Fault Refusal :=
  .next (s.asBundle (.strStat c) (fun s => s.pushStream (.strStat c) [] (some c) none false))

/-! ### One unit of work (R261, R262, R337) -/

/-- A unit of the head command of a core: whose it is, the state it has made, the core's context, the command with its
cursor, flags raised, engine cycles and power units used, its fault, its value, its end. -/
structure Chunk where
  cl : Nat
  k : Nat
  cx : Nat
  task : Task
  s : State
  x : CoreCtx
  cmd : StreamCmd
  flags : Byte
  used : Nat
  power : Nat
  fault : Option Nat
  value : Option W64
  finished : Bool

/-- Operand `n` of a command. -/
def Chunk.op (c : Chunk) (n : Nat) : W64 := nth c.cmd.opnd n 0

/-- Key of the scratchpad byte at an offset from an operand address, on the executing core (R13, R260). -/
def Chunk.key (c : Chunk) (a : W64) (off : Nat) : Nat := scratchKey c.cl c.k (physOff c.task a + off)

/-- Stop on a fault before the unit (R262). -/
def Chunk.fail (c : Chunk) (cause : Nat) (addr : W64) : Chunk :=
  { c with fault := some cause, cmd := { c.cmd with faultAt := addr, cur := { c.cmd.cur with state := 2, cause := cause } } }

/-- Rows of V-slot accesses that are due have moved: on core `k`, whose engine keeps its own clock, those of its present cycle
(R13, R233). -/
def State.settleRowsOn (s : State) (cl k : Nat) : State :=
  if (s.cluster cl).rows.isEmpty then s
  else s.settleRowsTo cl (fun j => if j.core = k then s.now + 2 * k else s.now)

/-- Read `n` bytes of the core's scratchpad, for its task (R377, R380, R388). -/
def Chunk.read (c : Chunk) (a : W64) (off n : Nat) : Chunk × Option (List Byte) :=
  let ctx := c.s.ctx c.cl c.cx
  let r := (c.s.settleRowsOn c.cl c.k).readFor (c.key a off) n (ctx.who c.cl c.cx) ctx.task
  ({ c with s := r.1 }, r.2)

/-- Write bytes of the core's scratchpad (R119, R284). -/
def Chunk.write (c : Chunk) (a : W64) (off : Nat) (bs : List Byte) : Chunk :=
  { c with s := ((c.s.settleRowsOn c.cl c.k).decodeRange (c.key a off) bs.length).storeAt (c.key a off) bs }

/-- A unit is done: its cycles, the next position, and the end of the command. -/
def Chunk.advance (c : Chunk) (cycles : Nat) (last : Bool) : Chunk :=
  { c with
    used := c.used + cycles
    cmd := { c.cmd with part := [], spent := 0
                        cur := { c.cmd.cur with pos := c.cmd.cur.pos + 1, sub := 0, tbit := 0, pv := false, state := 1 } }
    finished := last }

/-- Number of folio row `n` of the task on the core (R66, R260). -/
def Chunk.rowKey (c : Chunk) (n : Nat) : Nat := c.k * 512 + c.task.frow + n

/-- Number of shelf `n` of the task on the core (R267, R269). -/
def Chunk.shelfKey (c : Chunk) (n : Nat) : Nat := c.k * 8 + c.task.shelf + n

/-- Folio row `n` of the task on the core. -/
def Chunk.row (c : Chunk) (n : Nat) : FolioRow := NMap.getD (c.s.cluster c.cl).folio (c.rowKey n) .zero

/-- What is written whole is sound again (R379). -/
def soundAgain (l : List StoredErr) (p : ErrPlace) : List StoredErr := if l.isEmpty then [] else l.filter (fun e => e.place != p)

/-- Replace a folio row. -/
def Chunk.setRow (c : Chunk) (n : Nat) (r : FolioRow) : Chunk :=
  { c with s := c.s.modCluster c.cl (fun k => { k with
      folio := NMap.set k.folio (c.rowKey n) r
      errs := soundAgain k.errs (.folio (c.rowKey n)) }) }

/-- Shelf `n` of the task on the core. -/
def Chunk.shelf (c : Chunk) (n : Nat) : Shelf := NMap.getD (c.s.cluster c.cl).shelves (c.shelfKey n) { codes := [], scales := [] }

/-- Replace a shelf. -/
def Chunk.setShelf (c : Chunk) (n : Nat) (x : Shelf) : Chunk :=
  { c with s := c.s.modCluster c.cl (fun k => { k with shelves := NMap.set k.shelves (c.shelfKey n) x }) }

/-- The rewriting of a shelf is over: it is sound again (R269, R379). -/
def Chunk.soundShelf (c : Chunk) (n : Nat) : Chunk :=
  { c with s := c.s.modCluster c.cl (fun k => { k with errs := soundAgain k.errs (.shelf (c.shelfKey n)) }) }

/-- Correct what is read of a cluster's protected state (R379). -/
def State.correctCluster (s : State) (cl : Nat) (ps : List ErrPlace) : State :=
  let k := s.cluster cl
  let hit (e : StoredErr) : Bool := e.single && ps.contains e.place
  if k.errs.any hit then
    (k.errs.filter hit).foldl (fun s e => (s.countPlace cl e.place).1)
      (s.modCluster cl (fun k => { k with errs := k.errs.filter (fun e => !hit e) }))
  else s

/-- A unit reads protected state: what can be corrected is, and an error that cannot be makes it fail with POISON (R262,
R379). -/
def Chunk.guarded (c : Chunk) (ps : List ErrPlace) (f : Chunk → Chunk) : Chunk :=
  let ctx := c.s.ctx c.cl c.cx
  let k := c.s.cluster c.cl
  if ctx.errs.isEmpty && k.errs.isEmpty then f c
  else
    let s := (c.s.correctPlaces c.cl c.cx ps).correctCluster c.cl ps
    match ps.find? (fun p => ctx.badAt p || k.errs.any (fun e => e.place == p && !e.single)) with
    | some p => { c with s := s.notePlace c.cl ctx p }.fail 5 0
    | none => f { c with s := s }

/-- Put bytes at a place of a sparse table, zeros unlisted. -/
def putBytes (m : NMap Byte) (at_ : Nat) (bs : List Byte) : NMap Byte :=
  m.filter (fun e => decide (e.1 < at_)) ++
    ((List.range bs.length).map (fun i => (at_ + i, nth bs i 0))).filter (fun e => e.2 != 0) ++
    m.filter (fun e => decide (at_ + bs.length ≤ e.1))

/-- wld: one array row a cycle, then the scales (R263, R269). -/
def Chunk.wldUnit (c : Chunk) : Chunk :=
  let n := c.cmd.flags.toNat % 8
  let pos := c.cmd.cur.pos
  if pos < 256 then
    match c.read (c.op 0) (256 * pos) 256 with
    | (c, none) => c.fail 5 (c.op 0 + BitVec.ofNat 64 (256 * pos))
    | (c, some bs) => (c.setShelf n { (c.shelf n) with codes := putBytes (c.shelf n).codes (256 * pos) bs }).advance 1 false
  else
    match c.read (c.op 1) 0 1024 with
    | (c, none) => c.fail 5 (c.op 1)
    | (c, some bs) => ((c.setShelf n { (c.shelf n) with scales := putBytes [] 0 bs }).soundShelf n).advance 4 true

/-- Mode of a run command (R172, R270). -/
def StreamCmd.mode (c : StreamCmd) : Nat := c.flags.toNat / 32 % 4
/-- A stop-armed run (R271). -/
def StreamCmd.stop (c : StreamCmd) : Bool := c.op == 0x06 && c.flags.getLsbD 4
/-- Numerics profile of a command (R70). -/
def StreamCmd.np (c : StreamCmd) : Nat := c.flags.toNat % 16
/-- sA and sB of a command (R58). -/
def StreamCmd.sa (c : StreamCmd) : BitVec 16 := c.seed.setWidth 16
/-- sB. -/
def StreamCmd.sb (c : StreamCmd) : BitVec 16 := c.seed.extractLsb' 16 16
/-- Descriptor of a run command (R270). -/
def StreamCmd.desc (c : StreamCmd) : ActDesc :=
  actDesc (nth c.opnd 0 0) (nth c.opnd 1 0) (nth c.opnd 2 0) (nth c.opnd 3 0)

/-- A hardware error of the core's array: an entry of a type, one error counted, the task poisoned. Each core whose own
comparison fails makes its entry and counts one: DESIGN CHOICE, R283 states one EXC for the gang and one entry (R283, R384, R388,
log 92). -/
def Chunk.arrayError (c : Chunk) (type col dev : Nat) : Chunk :=
  let ctx := c.s.ctx c.cl c.cx
  let t := clusterStop c.cl
  let r := c.s.countError t (.column c.cl c.k (col / 64)) 6 col
  { c with s := (r.1.logCat t type 6 ctx.dom ctx.inc col r.2 dev).poisonTask ctx.task }

/-- A run that is sampled, at the first vector or entry of the command (R384). -/
def Chunk.sampledNow (c : Chunk) : Bool := c.cmd.sampled && c.cmd.op != 0x11 && c.cmd.cur.pos == 0

/-- The sampled check, made when vector 0 completes (R384). -/
def Chunk.sample (c : Chunk) (act : Array Int) (codes : NMap Byte) : Chunk :=
  if !c.sampledNow then c
  else
    let col := c.cmd.cidx.toNat % 256
    let (dev, bound) := columnCheck c.cmd.mode c.cmd.m col c.cmd.desc.nrow c.cmd.sa c.cmd.sb act codes
    if bound < dev then c.arrayError 4 col dev else c

/-- Engine cycles that a vector takes before its own passes: a check in d8 forms seven of its eight sums first, and a sample
has the cycles of a check (R263, R384). They may be cut like the stream words of a run (R261). -/
def Chunk.prelude (c : Chunk) : Nat :=
  let p := passLen c.cmd.m
  if c.cmd.op = 0x11 then (if c.cmd.mode = 2 then 7 * Max.max 4 p else 0)
  else if c.sampledNow && c.cmd.cur.sub == 0 && c.cmd.cur.tbit == 0 then
    (if c.cmd.mode = 2 then 8 + 8 * Max.max 4 p else 12 + p)
  else 0

/-- Cycles before the first vector of a command (R263). -/
def StreamCmd.setup (c : StreamCmd) : Nat := if c.op = 0x11 then (if c.mode = 2 then 8 else 12) else 4

/-- Power units of a vector (R327). -/
def vectorPower (mode m : Nat) (act : Array Int) : Nat :=
  passLen m * ((ungatedRows act + 15) / 16) * (if mode = 2 then 4 else 1)

/-- One pass of a vector: its counts are added to the partial area, or, with the last pass, to the folio row, and the
scales are popped (R63, R67, R271, R338). -/
def Chunk.vectorPass (c : Chunk) (act : Array Int) (sh row g nvec : Nat) : Chunk :=
  let mode := c.cmd.mode
  let m := usedM mode c.cmd.m
  let cur := c.cmd.cur
  let part (i : Nat) : Int := if cur.pv then nth c.cmd.part i 0 else 0
  let codes := (c.shelf sh).codes
  let counts := passCounts mode cur.sub (runTable (mode == 0) c.cmd.sa c.cmd.sb m cur.tbit) act codes ((Array.range 1024).map part)
  let cycles := if mode = 2 then Max.max 4 (passLen c.cmd.m) else Max.max 1 ((2 ^ m - cur.tbit) / 64)
  let comb := (Array.range 1024).map (fun i => part (1024 + i) + subWeight cur.sub * counts.getD i 0)
  if mode = 2 ∧ cur.sub < 3 then
    { c with
      used := c.used + cycles
      cmd := { c.cmd with part := List.replicate 1024 0 ++ comb.toList
                          cur := { cur with sub := cur.sub + 1, tbit := 0, pv := true, state := 1 } } }
  else
    let t := unitTotals mode m act codes (if mode = 2 then comb else counts)
    let scales := (c.shelf sh).scales
    let r := (c.row row).accumulate c.cmd.np t (c.x.sq.take g) (fun j g => (NMap.getD scales (256 * g + j) 0).toNat)
    let c : Chunk := { (c.setRow row r.1) with flags := c.flags ||| r.2, x := { c.x with sq := c.x.sq.drop g } }
    (c.sample act codes).advance cycles (decide (cur.pos + 1 = nvec))

/-- A stop-armed run: the search, the unscaled sums, the record (R72, R73, R275). -/
def Chunk.stopRun (c : Chunk) (act : Array Int) (sh row : Nat) : Chunk :=
  let mode := c.cmd.mode
  let cur := c.cmd.cur
  let len := 2 ^ c.cmd.m
  let codes := (c.shelf sh).codes
  let part (i : Nat) : Int := if cur.pv then nth c.cmd.part i 0 else 0
  let ones := sumCells mode act codes (fun _ _ => 1) noSums
  let sums (cnt : Array Int) (t j : Nat) : Int :=
    ((List.range 4).map (fun g =>
      let i := 256 * g + j
      if mode = 0 then 2 * cnt.getD i 0 - (t : Int) * ones.getD i 0 else cnt.getD i 0)).foldl (· + ·) 0
  let start := (Array.range 1024).map part
  let x := c.x.stopX
  let y := c.x.stopY
  let d0 := sums start cur.tbit x.toNat - sums start cur.tbit y.toNat
  let r := stopSearch mode c.cmd.sa c.cmd.sb (columnPairs mode x.toNat act codes) (columnPairs mode y.toNat act codes)
    c.x.theta.toNat len (len - cur.tbit) cur.tbit d0
  let ls := levels c.cmd.sa c.cmd.sb cur.tbit (r.1 - cur.tbit)
  let cnt := passCounts mode 0 (pairTable (countIn (mode == 0) ls)) act codes start
  let row' := (c.row row).add (sums cnt r.1)
  let rec_ := stopRecord x y r.1 len r.2
  let c : Chunk := { (c.setRow row row'.1) with
    flags := c.flags ||| (if row'.2 then flagOVF else 0), x := { c.x with stopRec := rec_ } }
  let c := if c.cmd.desc.rec_ = 0 then c else c.write c.cmd.desc.rec_ 0 (leBytes 8 rec_.toNat)
  c.advance (Max.max 1 ((r.1 - cur.tbit + 63) / 64)) true

/-- Vector of a run: shelf, folio row, address; or the fault of a table entry (R262, R270, R271, R273). -/
def Chunk.vectorOf (c : Chunk) : Chunk × Option (Nat × Nat × W64) :=
  let d := c.cmd.desc
  let pos := c.cmd.cur.pos
  let size := vecBytes c.cmd.mode
  if c.cmd.op ≠ 0x07 then (c, some (d.shelf, d.frow + pos, d.act + BitVec.ofNat 64 (pos * size)))
  else
    let at_ := d.tab + BitVec.ofNat 64 (4 * pos)
    match c.read d.tab (4 * pos) 4 with
    | (c, none) => (c.fail 5 at_, none)
    | (c, some bs) =>
      let w := leNat bs
      let sh := bits w 30 28
      let row := d.frow + bits w 24 16
      let off := bits w 15 0 * size
      let va := d.act + BitVec.ofNat 64 off
      if bits w 31 31 ≠ 0 ∨ bits w 27 25 ≠ 0 then (c.fail 7 at_, none)
      else if c.task.nsh ≤ sh ∨ !c.cmd.claims.getLsbD sh ∨ c.task.tfr ≤ row then (c.fail 6 at_, none)
      else if 0x200000 < addrOff d.act + off + size ∨ !inPages c.task va size then (c.fail 6 va, none)
      else (c, some (sh, row, va))

/-- The column comparison of chk on a core: DEV and BOUND, and the hardware error where DEV is the greater (R283). -/
def Chunk.checkColumn (c : Chunk) (act : Array Int) (sh : Nat) : Chunk :=
  let d := c.cmd.desc
  let col := wbits d.tab 7 0
  let r := columnCheck c.cmd.mode c.cmd.m col d.nrow c.cmd.sa c.cmd.sb act (c.shelf sh).codes
  let c := if r.2 < r.1 then c.arrayError 5 col r.1 else c
  { c with value := some (BitVec.ofNat 64 (r.1 * 2 ^ 32 + r.2)) }.advance
    (if c.cmd.mode = 2 then Max.max 4 (passLen c.cmd.m) else passLen c.cmd.m) true

/-- A vector begins when it has taken nothing yet; it is charged then (R327). -/
def StreamCmd.fresh (c : StreamCmd) : Bool := c.cur.sub == 0 && c.cur.tbit == 0 && !c.cur.pv && c.spent == 0

/-- A vector whose faults have been tested: its charge, the cycles before its passes, at most 1,024 at a time, then a pass, a
search or a comparison (R261, R263, R271, R275, R283, R327). -/
def Chunk.vectorWork (c : Chunk) (act : Array Int) (sh row g : Nat) : Chunk :=
  let c := if c.cmd.cur.state = 0 then { c with used := c.used + c.cmd.setup } else c
  let c := if c.cmd.fresh then { c with power := vectorPower c.cmd.mode c.cmd.m act } else c
  let n := Min.min 1024 (c.prelude - c.cmd.spent)
  if n ≠ 0 then
    { c with used := c.used + n, cmd := { c.cmd with spent := c.cmd.spent + n, cur := { c.cmd.cur with state := 1 } } }
  else if c.cmd.op = 0x11 then c.checkColumn act sh
  else if c.cmd.stop then c.stopRun act sh row
  else c.vectorPass act sh row g c.cmd.desc.nvec

/-- One unit of arun, arun.bt or chk, with its faults in order (R262, R271, R272, R283). -/
def Chunk.runUnit (c : Chunk) : Chunk :=
  let d := c.cmd.desc
  let g := (d.nrow + 63) / 64
  let queued := c.cmd.op != 0x11 && !c.cmd.stop
  match c.vectorOf with
  | (c, none) => c
  | (c, some (sh, row, va)) =>
    c.guarded (.shelf (c.shelfKey sh) :: if c.cmd.op = 0x11 then [] else [.folio (c.rowKey row)]) (fun c =>
      if queued && decide (c.x.sq.length < g) then c.fail 3 0
      else if queued && (c.x.sq.take g).any (· == 255) then c.fail 1 0
      else if queued && (c.shelf sh).scales.any (fun e => decide (e.1 < 256 * g) && e.2 == 255) then c.fail 2 0
      else
        match c.read va 0 (vecBytes c.cmd.mode) with
        | (c, none) => c.fail 5 va
        | (c, some bs) => c.vectorWork (actValues c.cmd.mode d.nrow bs) sh row g)

/-- One row of fclr, drain, fld or fst (R277 to R279). -/
def Chunk.folioUnit (c : Chunk) : Chunk :=
  let pos := c.cmd.cur.pos
  let o (n : Nat) : Nat := (c.op n).toNat
  if c.cmd.op = 0x09 then
    (c.setRow (o 0 + pos) { FolioRow.zero with b := (c.op 2).setWidth 16 }).advance 1 (decide (pos + 1 = o 1))
  else if c.cmd.op = 0x0A then c.guarded [.folio (c.rowKey (o 0 + pos))] (fun c =>
    let f32 := !c.cmd.flags.getLsbD 6
    let r := c.row (o 0 + pos)
    let vs := r.f.map (fun f => drainValue (if f32 then 23 else 7) f r.b)
    let c : Chunk := { c with flags := c.flags ||| orFlags (vs.map (·.2)) }
    (c.write (c.op 1) ((if f32 then 1024 else 512) * pos) (vs.flatMap (fun v => leBytes (if f32 then 4 else 2) v.1))).advance
      4 (decide (pos + 1 = o 2)))
  else if c.cmd.op = 0x0B then
    match c.read (c.op 0) (3136 * pos) 3136 with
    | (c, none) => c.fail 5 (c.op 0 + BitVec.ofNat 64 (3136 * pos))
    | (c, some bs) =>
      let f := (List.range 256).map (fun j => BitVec.ofNat 96 (leNat ((bs.drop (12 * j)).take 12)))
      (c.setRow (o 1 + pos) { f := f, b := BitVec.ofNat 16 (leNat ((bs.drop 3072).take 2)) }).advance 13 (decide (pos + 1 = o 2))
  else c.guarded [.folio (c.rowKey (o 0 + pos))] (fun c =>
    let r := c.row (o 0 + pos)
    let bs := r.f.flatMap (fun f => leBytes 12 f.toNat) ++ leBytes 2 r.b.toNat ++ List.replicate 62 0
    (c.write (c.op 1) (3136 * pos) bs).advance 13 (decide (pos + 1 = o 2)))

/-- One row of sq4 or sq8: 64 codes, one scale pushed (R44, R75, R272, R280). -/
def Chunk.quantiseUnit (c : Chunk) : Chunk :=
  let pos := c.cmd.cur.pos
  let row0 := wbits (c.op 1) 3 0
  let count := wbits (c.op 1) 7 4 + 1
  let four := c.cmd.op == 0x0D
  let target := if four then (if c.cmd.flags.getLsbD 4 then 1 else 0) else 2
  let sel := c.cmd.flags.toNat / 32 % 4
  let base := wide (c.op 2) (c.op 3) + BitVec.ofNat 128 (c.k * (64 * count) + 64 * pos)
  let e := nth c.cmd.codes (row0 + pos) 0
  if 64 ≤ c.x.sq.length then c.fail 4 0
  else
    let rs := (List.range 64).map (fun i =>
      let d := if sel = 2 then (draw c.cmd.key0 c.cmd.key1 (base + BitVec.ofNat 128 i)).toNat else 0
      quantise target e.toNat (selOf sel d) (fpOf 23 (nth c.cmd.rows.lanes (64 * (row0 + pos) + i) 0).toNat))
    let v (i : Nat) : Nat := wrapInt (if four then 4 else 8) (nth rs i (0, 0)).1
    let bs : List Byte := if four then (List.range 32).map (fun i => BitVec.ofNat 8 (v (2 * i) + 16 * v (2 * i + 1)))
      else (List.range 64).map (fun i => BitVec.ofNat 8 (v i))
    let c : Chunk := { c with flags := c.flags ||| orFlags (rs.map (·.2)), x := { c.x with sq := c.x.sq ++ [e] } }
    (c.write (c.op 0) ((if four then 32 else 64) * pos) bs).advance 1 (decide (pos + 1 = count))

/-- sq.ld: all its scales, or none. The index in the cursor of one that fails is that of the first scale in a poisoned sector
(R262, R272, R281). -/
def Chunk.sqLdUnit (c : Chunk) : Chunk :=
  let n := (c.op 1).toNat
  if 64 < c.x.sq.length + n then c.fail 4 0
  else if n = 0 then c.advance 1 true
  else
    match c.read (c.op 0) 0 n with
    | (c, none) =>
      let i := ((List.range n).find? (fun i => c.s.poisonedAt (c.key (c.op 0) i) 1)).getD 0
      let c := c.fail 5 (c.op 0 + BitVec.ofNat 64 i)
      { c with x := { c.x with sqres := 0 }, cmd := { c.cmd with cur := { c.cmd.cur with pos := i } } }
    | (c, some bs) => { c with x := { c.x with sq := c.x.sq ++ bs, sqres := 0 } }.advance (1 + (n + 7) / 8) true

/-- One unit of the head command of a context on a core (R261 to R283, R379). -/
def Chunk.unit (c : Chunk) : Chunk :=
  c.guarded [.stream c.k] (fun c =>
    match c.cmd.op.toNat with
    | 0x05 => c.wldUnit
    | 0x06 | 0x07 | 0x11 => c.runUnit
    | 0x08 =>
      { c with x := { c.x with stopX := (c.op 0).setWidth 8, stopY := (c.op 1).setWidth 8, theta := (c.op 2).setWidth 32 } }.advance 1 true
    | 0x09 | 0x0A | 0x0B | 0x0C => c.folioUnit
    | 0x0D | 0x0E => c.quantiseUnit
    | 0x0F => c.sqLdUnit
    | 0x10 => { c with x := { c.x with sq := [], sqres := 0 } }.advance 1 true
    | 0x12 => { c with value := some c.x.stopRec }.advance 1 true
    | _ => c.advance 1 true)

/-! ### The engine (R258, R261, R284) -/

/-- Engine `k` of a cluster. -/
def Cluster.engine (c : Cluster) (k : Nat) : Engine := nth c.engines k { last := 7, cur := none, used := 0, flags := 0 }

/-- Change engine `k` of a cluster. -/
def State.modEngine (s : State) (cl k : Nat) (f : Engine → Engine) : State :=
  s.modCluster cl (fun c => { c with engines := c.engines.modify k f })

/-- The head command of a context on a core with the unit that comes next. -/
def State.chunkOf (s : State) (cl k cx : Nat) : Option Chunk :=
  let c := s.ctx cl cx
  let x := nth c.cores k .fresh
  x.cmds.head?.map (fun cmd =>
    { cl := cl, k := k, cx := cx, task := s.task c, s := s, x := x, cmd := cmd, flags := 0, used := 0, power := 0
      fault := none, value := none, finished := false })

/-- A context is eligible on a core: resident, or ended with work outstanding, not parked, its head command not stopped
by a fault (R28, R258). -/
def State.eligible (s : State) (cl k cx : Nat) : Bool :=
  let c := s.ctx cl cx
  (c.occ == .resident || c.occ == .ended) && !c.parked &&
    (match (nth c.cores k .fresh).cmds with
      | cmd :: _ => cmd.cur.state != 2
      | [] => false)

/-- The head command may begin its accesses: without REL at once, with REL when every earlier access is performed
(R117, R119). -/
def State.relDone (s : State) (cl k cx : Nat) : Bool :=
  match (nth (s.ctx cl cx).cores k .fresh).cmds with
  | cmd :: _ => !cmd.flags.getLsbD 7 || s.coversDone cl cmd.after
  | [] => false

/-- Start a refill of a die's bucket when it is not full (R327). -/
def State.startRefill (s : State) (f : Nat) : State :=
  if (s.frond f).refilling || decide ((s.frond f).cap ≤ (s.frond f).bucket) then s
  else (s.modFrond f (fun d => { d with refilling := true })).post (s.now + 1) .powerBucketRefill { EvArg.zero with n := f }

/-- Change a core's part of a context. -/
def State.modCore (s : State) (cl cx k : Nat) (f : CoreCtx → CoreCtx) : State :=
  s.modCtx cl cx (fun c => { c with cores := c.cores.modify k f })

/-- Stages of a slot: those that have left it, oldest first, then the one in it (R28). -/
def State.slotStages (s : State) (cl x : Nat) : List Nat :=
  (s.shadows cl).filter (fun y => y % 8 == x) ++ [x]

/-- The engine is with a context until a cycle: a unit is in progress (`n` = 0) or waits (`n` = 2). -/
def State.engage (s : State) (cl k x len n : Nat) (v : W64) : State :=
  (s.modEngine cl k (fun e => { e with last := x % 8, cur := some (x, s.now + len) })).post (s.now + len) .streamChunk
    { EvArg.at cl x k with n := n, who := (s.ctx cl x).who cl x, v := v }

/-- Begin the next unit of a context's head command on a core; it waits while an earlier access is outstanding that REL
names, or while the die's power does not cover its charge. None where the unit would take the chunk past 2,048 cycles
(R117, R119, R261, R327, log 35). -/
def State.startUnit (s : State) (cl k x : Nat) : Option State :=
  (s.chunkOf cl k x).bind (fun c =>
    let f := cl / 2
    let r := c.unit
    let used := ((s.cluster cl).engine k).used
    let len := Max.max 1 r.used
    let v : W64 := c.cmd.cidx.setWidth 64
    if used ≠ 0 ∧ 2048 < used + len then none
    else if !s.relDone cl k x || decide ((s.frond f).bucket < r.power) then some (s.engage cl k x 1 2 v)
    else
      let s := if r.power = 0 then s else (s.modFrond f (fun d => { d with bucket := d.bucket - r.power })).startRefill f
      let s := if c.cmd.op = 0x0F ∧ r.fault.isNone then
          s.modCore cl x k (fun y => { y with sqres := (nth c.cmd.opnd 1 0).toNat })
        else s
      some (s.engage cl k x len 0 v))

/-- A chunk is over: the flags that its units raised are set in the core's copy, and the engine is free (R52, R261). -/
def State.closeChunk (s : State) (cl k x : Nat) : State :=
  let f := ((s.cluster cl).engine k).flags
  (s.modCore cl x k (fun y => y.landFlag s.now f)).modEngine cl k (fun e => { e with cur := none, used := 0, flags := 0 })

/-- An idle engine continues with, or starts, the head command of the next eligible context (R258). -/
def State.chooseStream (s : State) (cl k : Nat) : State :=
  let e := (s.cluster cl).engine k
  if e.cur.isSome then s
  else
    let order := (List.range 8).flatMap (fun i => s.slotStages cl ((e.last + 1 + i) % 8))
    match order.find? (s.eligible cl k) with
    | none => s
    | some x => (s.startUnit cl k x).getD s

/-- The word of R283 from the cores' parts, each DEV and BOUND, in the order of `cores`. -/
def chkWord (cores : List Nat) (parts : List W64) : W64 :=
  let p (k : Nat) : Int × W64 :=
    match (cores.zip parts).find? (fun e => e.1 == k) with
    | some e => ((wbits e.2 63 32 : Int) - (wbits e.2 31 0 : Int), e.2)
    | none => (0, 0)
  let k := (List.range 4).foldl (fun b k => if (p b).1 < (p k).1 then k else b) 0
  let exc := (List.range 4).any (fun k => decide (0 < (p k).1))
  let v := (p k).2
  BitVec.ofNat 64 ((if exc then 2 ^ 63 else 0) + k * 2 ^ 61 + Min.min (wbits v 63 32) (2 ^ 29 - 1) * 2 ^ 32 + wbits v 31 0)

/-- A command with a destination is complete on core `k` in the core's present cycle; after the fourth its value lands, in
cycle 7 or in the cycle after all are complete (R13, R261, R276, R283). -/
def State.gangDone (s : State) (cl cx k : Nat) (cmd : StreamCmd) (v : Option W64) : State :=
  let c := s.ctx cl cx
  match c.gang.find? (fun g => g.cidx == cmd.cidx) with
  | none => s
  | some g =>
    let g := { g with done := g.done ++ [k], value := g.value ++ [v.getD 0], at_ := Max.max g.at_ (s.now + 2 * k + 1) }
    if g.done.length < 4 then
      s.setCtx cl cx { c with gang := c.gang.map (fun x => if x.cidx = g.cidx then g else x) }
    else
      let val := if cmd.op = 0x11 then chkWord g.done g.value else ((g.done.zip g.value).find? (fun e => e.1 == 0)).elim 0 (·.2)
      (s.setCtx cl cx { c with gang := c.gang.filter (fun x => x.cidx != g.cidx)
                               inflight := c.inflight ++ [.scalarAt g.at_ (.greg g.reg g.token) val 0] }).post
        g.at_ .resultLand (EvArg.at cl cx 0)

/-- Trap class of a cause (R262). -/
def causeClass (cause : Nat) : Nat :=
  match cause with
  | 1 | 2 => 10
  | 3 | 4 => 7
  | 5 => 6
  | 6 => 5
  | _ => 1

/-- A core has reported a fault in the command with an index (R262). -/
def Ctx.reported (c : Ctx) (k : Nat) (i : BitVec 32) : Bool :=
  (List.range 4).any (fun j => j != k && (match (nth c.cores j .fresh).cmds with
    | x :: _ => x.cidx == i && x.cur.state == 2
    | [] => false))

/-- Core `k` reports a fault: one record for the command, by whichever core is first, whether or not the context runs, is parked
or is being evicted; after END its task fails and the commands of the core go (R28, R262, R330, R350). -/
def State.streamFailed (s : State) (cl cx k : Nat) (cmd : StreamCmd) (cause : Nat) : State :=
  let c := s.ctx cl cx
  if c.occ = .ended then (if c.parked then s else s.failTask c.task (if cause = 5 then 4 else 7)).modCore cl cx k (fun x => { x with cmds := [] })
  else if c.occ = .free ∨ c.occ = .loading ∨ c.reported k cmd.cidx then s
  else s.takeTrap cl cx
    { s.record c (causeClass cause) 6 cmd.bpc c.pc with
      ord := cmd.token, engine := 3, cidx := cmd.cidx.setWidth 64, addr := cmd.faultAt }

/-- A command has ended on core `k` in the core's present cycle, which is later than core 0's by the skew (R13, R108, R268). -/
def CoreCtx.endCmd (x : CoreCtx) (now k : Nat) (cmd : StreamCmd) : CoreCtx :=
  let old := x.late.filter (fun e => decide (now < e.1))
  { x with cmds := x.cmds.tail, late := if k = 0 then old else old ++ [(now + 2 * k, cmd)] }

/-- A unit ends: its effects on the core, its cursor, the end or the fault of its command; the chunk goes on or is over (R261,
R262). A chunk is over too when its context stops or ends (R338). A context that has gone in the meantime has had its commands
discarded, and one that was terminated has them discarded now (R284). -/
def State.endUnit (s : State) (e : EvArg) : State :=
  let idle (s : State) : State := (s.modEngine e.cl e.id (fun g => { g with cur := none, used := 0, flags := 0 }))
  match s.chunkOf e.cl e.id e.cx with
  | none => idle s
  | some c =>
    if !(s.ctx e.cl e.cx).tagged e.who || c.cmd.cidx.setWidth 64 != e.v then idle s
    else
      let r := c.unit
      let x := if r.finished then r.x.endCmd s.now e.id r.cmd else { r.x with cmds := r.cmd :: r.x.cmds.tail }
      let c := r.s.ctx e.cl e.cx
      let x := if c.occ = .ended ∧ c.parked then { x with cmds := [] } else x
      let s := (r.s.modCore e.cl e.cx e.id (fun _ => x)).modEngine e.cl e.id (fun g => { g with
        used := g.used + Max.max 1 r.used
        flags := g.flags ||| r.flags })
      if r.finished then (s.closeChunk e.cl e.id e.cx).gangDone e.cl e.cx e.id r.cmd r.value
      else match r.fault with
        | some cause => (s.closeChunk e.cl e.id e.cx).streamFailed e.cl e.cx e.id r.cmd cause
        | none => (if s.eligible e.cl e.id e.cx then s.startUnit e.cl e.id e.cx else none).getD (s.closeChunk e.cl e.id e.cx)

/-- A unit that waited is tried again; a context that has stopped gives up the rest of the chunk, and one that was terminated
has its commands discarded (R258, R261, R284). -/
def State.retryUnit (s : State) (e : EvArg) : State :=
  let c := s.ctx e.cl e.cx
  if s.eligible e.cl e.id e.cx && c.tagged e.who then (s.startUnit e.cl e.id e.cx).getD (s.closeChunk e.cl e.id e.cx)
  else
    let s := s.closeChunk e.cl e.id e.cx
    if c.tagged e.who ∧ c.occ = .ended ∧ c.parked then s.modCore e.cl e.cx e.id (fun x => { x with cmds := [] }) else s

/-- STREAM_CHUNK: with `n` = 0 the unit of context `cx` on core `id` ends, with `n` = 2 one that waited is tried again; then, or
with `n` = 1, the engine chooses. The engine of core k counts the core's own cycles (R13, R258, R261). -/
def streamChunkEffect (s : State) : State :=
  let e := s.ev
  let s := if e.n = 0 then s.endUnit e else if e.n = 2 then s.retryUnit e else s
  s.chooseStream e.cl e.id

/-- STREAM_CHUNK (R261). -/
def execStreamChunk (s : State) : Host.Outcome State Fault Refusal := .next (streamChunkEffect s)

end Sys2Proof.Machine
end

