-- ==== Sys2Proof/Machine/Regions.lean ====
section
/-! DEFINITION. Reads and writes that device agents make through a domain's tables, regions and their budgets, and the
binding of a region (R310 to R316, R366, R368, R380). -/

namespace Sys2Proof.Machine

/-! ### Device agents in virtual memory (R366, R368) -/

/-- Parts of a range on single pages; `fuel` bounds their number. -/
def pageSplit : Nat → Nat → Nat → List (Nat × Nat)
  | 0, _, _ => []
  | f + 1, va, n =>
    if n = 0 then []
    else
      let m := Min.min n (2 ^ 16 - va % 2 ^ 16)
      (va, m) :: pageSplit f (va + m) (n - m)

/-- Parts of a range on single pages. -/
def pagesOf (va n : Nat) : List (Nat × Nat) := pageSplit (n / 2 ^ 16 + 2) va n

/-- Physical parts of a range in a domain's tables, for an agent that looks up some buffers: each page translates, its leaf
serves, and all of it is LPDDR (R364, R368, R369). -/
def State.resolve (s : State) (l : List TlbEntry) (d : BitVec 8) (va : W64) (n : Nat) (ok : W64 → Bool) :
    Option (List (Nat × Nat)) :=
  if !globalOk va || decide (2 ^ 52 < va.toNat + n) then none
  else
    (pagesOf va.toNat n).foldl (fun r p =>
      match r, s.translate l d p.1 with
      | some ps, some x => if ok x.leaf && s.inLpddrN x.pa p.2 then some (ps ++ [(x.pa, p.2)]) else none
      | _, _ => none) (some [])

/-- Physical address of an aligned dword in a domain's tables. -/
def State.resolveDword (s : State) (l : List TlbEntry) (d : BitVec 8) (va : W64) (ok : W64 → Bool) : Option Nat :=
  if va.toNat % 8 ≠ 0 then none else (s.resolve l d va 8 ok).bind (fun ps => ps.head?.map (·.1))

/-- An agent of a die has looked the pages of a range up in the die's second-level buffer (R369, R380). -/
def State.touchRange (s : State) (die : Nat) (d : BitVec 8) (va : W64) (n : Nat) : State :=
  if !globalOk va || decide (2 ^ 52 < va.toNat + n) then s
  else (pagesOf va.toNat n).foldl (fun s p => s.touch die d p.1) s

/-- Incarnation under which the device works for a domain (R357). -/
def State.deviceInc (s : State) (d : BitVec 8) : BitVec 10 := entryCur (NMap.getD s.port.doms d.toNat 0)

/-- The dispatch unit of a die reads a range through a domain's tables; none where a page does not serve or holds poison,
which is noted at its stop (R369, R380). -/
def State.readVirtual (s : State) (die : Nat) (d : BitVec 8) (va : W64) (n : Nat) : State × Option (List Byte) :=
  let s := s.touchRange die d va n
  match s.resolve (s.tlb2 die) d va n leafR with
  | none => (s, none)
  | some ps =>
    ps.foldl (fun (r : State × Option (List Byte)) p =>
      let x := r.1.readAgent (frondStop die) p.1 p.2 d (s.deviceInc d)
      match r.2, x.2 with
      | some bs, some b => (x.1, some (bs ++ b))
      | _, _ => (x.1, none)) (s, some [])

/-- Leaf of a page the device may write data to: not a counter page (R94, R368). -/
def leafDeviceW (e : W64) : Bool := leafW e && !leafC e
/-- Leaf of a page the device may add to counters on. -/
def leafCounterW (e : W64) : Bool := leafW e && leafC e
/-- Leaf of a page on which the device may read counters. -/
def leafCounterR (e : W64) : Bool := leafR e && leafC e

/-! ### Regions (R310 to R312, R315) -/

/-- Die of the dispatch unit that holds a region's launch queue (R310). -/
def dispatchDie (r : Nat) : Nat := r % 4096 / 64

/-- Stop of that die. -/
def dispatchStop (r : Nat) : Nat := frondStop (dispatchDie r)

/-- A region and its ancestors; `fuel` bounds the depth of the tree. -/
def State.ancestors (s : State) : Nat → Nat → List Nat
  | 0, _ => []
  | f + 1, r =>
    match s.region r with
    | none => []
    | some g => r :: (match g.parent with
      | some p => s.ancestors f p
      | none => [])

/-- A region and its ancestors; a tree has 8 levels (R313). -/
def State.lineage (s : State) (r : Nat) : List Nat := s.ancestors 9 r

/-- Region `r` is region `anc` or a descendant of it. -/
def State.under (s : State) (anc r : Nat) : Bool := (s.lineage r).contains anc

/-- Clusters of a region, ascending (R20). -/
def Region.clusters (g : Region) : List Nat := (List.range 128).filter (fun c => g.cmask.getLsbD c)

/-- Sum over the tasks that hold storage on a cluster and are charged to a region (R315). -/
def State.chargedOn (s : State) (r cl : Nat) (f : Task → Nat) : Nat :=
  ((s.tasks.filter (fun e => e.2.running && e.2.cluster == cl && s.under r e.2.region)).map (fun e => f e.2)).foldl
    (· + ·) 0

/-- Staging charged to a region (R315). -/
def State.chargedStaging (s : State) (r : Nat) : Nat :=
  ((s.tasks.filter (fun e => e.2.holds && s.under r e.2.region)).map (fun e => e.2.tstg + e.2.csb)).foldl (· + ·) 0

/-! ### Region control blocks (R311, R313) -/

/-- Levels of regions below a region (R313 condition 6). -/
def State.height (s : State) : Nat → Nat → Nat
  | 0, _ => 0
  | f + 1, r =>
    (s.regions.filter (fun e => e.2.parent == some r)).foldl (fun m e => Max.max m (1 + s.height f e.1)) 0

/-- Reserved bits of the dwords of an RCB (R311). -/
def rcbReserved : List W64 :=
  [0xFFFFC000000000FE, 0x00000000FF00F0E0, 0, 0, 0x3FF, 0x0000FF000003FFFF, 0xFFFF000000000000, 0x000000FF00000000,
    0xFFFFFFFFFFFF0000, 0, 0, 0, 0, 0, 0xFFFFFFFFFFFF00FF, 0xFFFFFFFFFFFFFFFF]

/-- Bits of the dwords that each override group holds: group, dword, mask (R311). -/
def rcbGroups : List (Nat × Nat × W64) :=
  [(0, 1, 0xF00), (1, 1, 0xFF0000), (2, 1, 0x1F), (3, 1, 0xFFFF00000000), (4, 1, 0xFFFF000000000000), (5, 2, ~~~0),
    (5, 3, ~~~0), (6, 4, ~~~0), (7, 5, ~~~0), (8, 6, ~~~0), (9, 7, 0xFFFF000000000000), (10, 7, 0x0000FFFFFFFFFFFF),
    (11, 8, ~~~0), (12, 9, ~~~0), (12, 10, ~~~0), (13, 11, ~~~0)]

/-- Fields whose range R311 states: group, dword, high and low bit, least and greatest value. -/
def rcbRanges : List (Nat × Nat × Nat × Nat × Nat × Nat) :=
  [(4, 1, 63, 48, 256, 65535), (3, 1, 47, 32, 1024, 65535), (2, 1, 4, 0, 3, 16), (6, 4, 63, 48, 0, 256),
    (6, 4, 31, 24, 0, 128), (6, 4, 23, 20, 0, 8), (6, 4, 19, 10, 0, 512), (7, 5, 39, 32, 0, 128), (7, 5, 31, 28, 0, 8),
    (7, 5, 27, 18, 0, 512)]

/-- Remaining widening shares after a bind, by die (R316). -/
def widenShares (cmask : BitVec 128) (wcyc : Nat) : NMap Nat :=
  let dies := (List.range 64).filter (fun f => cmask.getLsbD (2 * f) || cmask.getLsbD (2 * f + 1))
  match dies with
  | [] => []
  | d :: r => (d, wcyc / dies.length + wcyc % dies.length) :: r.map (fun f => (f, wcyc / dies.length))

/-- The fields a control block resolves to, inherited groups taken from the parent (R311, R312). -/
def resolveRcb (w : List W64) (par : Option Region) : Region :=
  let x (n : Nat) : W64 := nth w n 0
  let root := (x 0).getLsbD 0
  let own (g : Nat) : Bool := root || (x 0).getLsbD (32 + g)
  let pick (g : Nat) (v : Nat) (f : Region → Nat) : Nat := if own g then v else (par.map f).getD 0
  let word (g : Nat) (v : W64) (f : Region → W64) : W64 := if own g then v else (par.map f).getD 0
  let cmask := if own 5 then x 3 ++ x 2 else (par.map (·.cmask)).getD 0
  let wcyc := pick 8 (wbits (x 6) 47 0) (·.wcyc)
  let rtb := pick 9 (wbits (x 7) 63 48) (·.rtb)
  { parent := if root then none else some (wbits (x 0) 31 16)
    slice := pick 4 (wbits (x 1) 63 48) (·.slice)
    ymax := pick 3 (wbits (x 1) 47 32) (·.ymax)
    dom := if own 1 then (x 1).extractLsb' 16 8 else (par.map (·.dom)).getD 0
    pri := pick 0 (wbits (x 1) 11 8) (·.pri)
    nomm := pick 2 (wbits (x 1) 4 0) (·.nomm)
    cmask := cmask
    tstg := pick 6 (wbits (x 4) 63 48) (·.tstg)
    csb := pick 6 (wbits (x 4) 47 32) (·.csb)
    tsp := pick 6 (wbits (x 4) 31 24) (·.tsp)
    tsh := pick 6 (wbits (x 4) 23 20) (·.tsh)
    tfr := pick 6 (wbits (x 4) 19 10) (·.tfr)
    stb := pick 7 (wbits (x 5) 63 48) (·.stb)
    spb := pick 7 (wbits (x 5) 39 32) (·.spb)
    shb := pick 7 (wbits (x 5) 31 28) (·.shb)
    frb := pick 7 (wbits (x 5) 27 18) (·.frb)
    wcyc := wcyc
    rtb := rtb
    slim := pick 10 (wbits (x 7) 47 40) (·.slim)
    win := pick 10 (wbits (x 7) 31 0) (·.win)
    chkn := pick 11 (wbits (x 8) 15 0) (·.chkn)
    trapa := word 12 (x 9) (·.trapa)
    trapc := word 12 (x 10) (·.trapc)
    wdenc := word 13 (x 11) (·.wdenc)
    slmask := if root then x 13 ++ x 12 else (par.map (·.slmask)).getD 0
    flows := if root then wbits (x 14) 15 8 else (par.map (·.flows)).getD 0
    shares := widenShares cmask wcyc
    denied := false
    rtbLeft := rtb }

/-- The conditions of R313 that hold for a control block, in the order of their numbers; `may` says that the issuer's
domain may bind regions. -/
def State.bindConditions (s : State) (w : List W64) (r : Nat) (may : Bool) : List (Nat × Bool) :=
  let x (n : Nat) : W64 := nth w n 0
  let root := (x 0).getLsbD 0
  let own (g : Nat) : Bool := root || (x 0).getLsbD (32 + g)
  let pn := wbits (x 0) 31 16
  let par := if root then none else s.region pn
  let g := resolveRcb w par
  let up := if root then [] else s.lineage pn
  let l := s.tlb2 (dispatchDie r)
  let others := s.regions.filter (fun e => e.2.parent.isNone && e.1 != r)
  [(1, wbits (x 0) 15 8 != 1),
    (2, (w.zip rcbReserved).any (fun e => e.1 &&& e.2 != 0)),
    (3, !root && (rcbGroups.any (fun e => !own e.1 && x e.2.1 &&& e.2.2 != 0) || x 12 != 0 || x 13 != 0 ||
      wbits (x 14) 15 8 != 0)),
    (4, rcbRanges.any (fun e =>
      let v := wbits (x e.2.1) e.2.2.1 e.2.2.2.1
      own e.1 && (decide (v < e.2.2.2.2.1) || decide (e.2.2.2.2.2 < v)))),
    (5, if root then pn != 0xFFFF else par.isNone),
    (6, up.contains r || decide (8 < 1 + up.length + s.height 9 r)),
    (7, !root && (g.cmask &&& ~~~((par.map (·.cmask)).getD 0)) != 0),
    (8, root && others.any (fun e => e.2.cmask &&& g.cmask != 0 || e.2.slmask &&& g.slmask != 0)),
    (9, root && decide (16 ≤ others.length)),
    (10, root && g.cmask == 0),
    (11, decide (g.spb < g.tsp) || decide (g.frb < g.tfr) || decide (g.shb < g.tsh) || decide (g.stb < g.tstg + g.csb)),
    (12, g.trapa.toNat % 4096 != 0 || (s.resolve l g.dom g.trapa 4096 leafDeviceW).isNone ||
      (s.resolveDword l g.dom g.trapc leafCounterW).isNone ||
      (g.wdenc != 0 && (s.resolveDword l g.dom g.wdenc leafCounterW).isNone)),
    (13, !may),
    (15, root && wbits (x 0) 63 32 != 0)]

/-- The dwords of some bytes. -/
def dwordsOf (n : Nat) (bs : List Byte) : List W64 := (List.range n).map (fun i => leDword ((bs.drop (8 * i)).take 8))

/-- Bind a region from the bytes of its control block: 0, or the number of the condition that fails (R313, R314). -/
def State.bindRegion (s : State) (r : Nat) (bs : List Byte) (may : Bool) : Nat × State :=
  let w := dwordsOf 16 bs
  let par := if (nth w 0 0).getLsbD 0 then none else s.region (wbits (nth w 0 0) 31 16)
  let g := resolveRcb w par
  let s := [(g.trapa, 4096), (g.trapc, 8), (g.wdenc, 8)].foldl (fun s e => s.touchRange (dispatchDie r) g.dom e.1 e.2) s
  match (s.bindConditions w r may).find? (·.2) with
  | some e => (e.1, s)
  | none => (0, { s with regions := NMap.set s.regions r g })

/-- Unbind a region: refused with 14 while a packet, a launch, a task or a bound child is there, and with 13 where the
issuer's domain may not bind (R313, R314). -/
def State.unbindRegion (s : State) (r : Nat) (may : Bool) : Nat × State :=
  if !may then (13, s)
  else if (s.region r).isNone || s.packets.any (fun e => e.2.region == r) || s.launches.any (fun l => l.region == r) ||
      s.tasks.any (fun e => e.2.region == r && !e.2.done) || s.regions.any (fun e => e.2.parent == some r) then (14, s)
  else (0, { s with regions := NMap.erase s.regions r })

/-! ### rcb.bind (R314) -/

/-- RCB_BIND: the request leaves at cycle 6; later K, LSU and S slots of the context are held until its answer. -/
def rcbBindEffect (a b : BitVec 6) (s : State) : State :=
  let u := s.issue
  let id := s.uid
  let r := wbits (s.opG b) 11 0
  let h := hops (clusterStop u.cl) (dispatchStop r)
  let w := s.issueCtx.who u.cl u.cx
  let s := { s with uid := id + 1 }
  (s.modIssue (fun c => { c with hold := some id })).post (s.now + 6 + 25 + 3 * h) .rcbBindAtDispatch
    { EvArg.at u.cl u.cx id with bind := { who := w, addr := s.opG a, region := r, bpc := u.pc } }

/-- RCB_BIND (R314). -/
def execRcbBind (a b : BitVec 6) (s : State) : Host.Outcome State Fault Refusal :=
  .next (s.asBundle (.rcbBind a b) (rcbBindEffect a b))

/-- RCB_BIND_AT_DISPATCH: the control block is read in the issuer's domain and the region bound, rebound or unbound; a
refusal is noted and raises PERM with its number (R313, R314). -/
def rcbBindAtDispatchEffect (s : State) : State :=
  let e := s.ev
  let b := e.bind
  let t := dispatchStop b.region
  let back := s.now + 25 + 3 * hops (clusterStop b.who.cl) t
  if !s.currentWho t b.who then s.dropStale t b.who.dom b.who.inc b.addr.toNat
  else
    let may := entryBind (s.domAt t b.who.dom)
    let r : Nat × State :=
      if b.addr = 0 then s.unbindRegion b.region may
      else if b.addr.toNat % 64 ≠ 0 then (16, s)
      else match s.readVirtual (dispatchDie b.region) b.who.dom b.addr 128 with
        | (s, none) => (16, s)
        | (s, some bs) => s.bindRegion b.region bs may
    if r.1 = 0 then r.2.post back .responseAtSlot { EvArg.zero with n := 3, id := e.id, who := b.who }
    else (r.2.logRefused t 8 b.who.dom b.who.inc b.addr.toNat r.1).deferK back b.who 5 (BitVec.ofNat 64 r.1) b.addr b.bpc 0 0

/-- RCB_BIND_AT_DISPATCH (R314). -/
def execRcbBindAtDispatch (s : State) : Host.Outcome State Fault Refusal := .next (rcbBindAtDispatchEffect s)

end Sys2Proof.Machine
end

