-- ==== Sys2Proof/Machine/Dispatcher.lean ====
section
/-! DEFINITION. Dispatch units: launches, the reading and validation of packets, dependences, the placing of tasks, and
the completion of packets (R19, R20, R24 to R27, R30, R31, R120, R223, R310, R318, R319, R321, R322, R328, R402). -/

namespace Sys2Proof.Machine

/-! ### Queues (R310, R318, R223, R328) -/

/-- Tasks of a packet (R19). -/
def Packet.total (p : Packet) : Nat := p.gx * p.gy * p.gz

/-- The packet holds an entry of its launch queue (R318). -/
def Packet.entered (p : Packet) : Bool := p.phase != .placed && p.phase != .done

/-- The packet holds a slot of its region's window (R318). -/
def Packet.inWindow (p : Packet) : Bool := p.phase == .reading || p.phase == .polling || p.phase == .eligible

/-- Change a packet that exists. -/
def State.modPacket (s : State) (uid : Nat) (f : Packet → Packet) : State :=
  match NMap.get? s.packets uid with
  | some p => { s with packets := NMap.set s.packets uid (f p) }
  | none => s

/-- Entries of a region's launch queue in use. -/
def State.queueLen (s : State) (r : Nat) : Nat := (s.packets.filter (fun e => e.2.region == r && e.2.entered)).length

/-- Round trip of a read from a stop (R87). -/
def State.readTrip (s : State) (t pa : Nat) : Nat :=
  (if decide (2 ^ 48 ≤ pa) || (s.archive (pa / 2 ^ 37)).prefetch.contains (pa / 32) then 44 else 284) + 6 * hops t (homeStop pa)

/-- Key of a launch slot, whose address is in space 11 (R402). -/
def slotKey (a : W64) : Nat := stagingKey (wbits a 30 24) (wbits a 23 0)

/-- Take packets into a region's window while it has room, in enqueue order, and read them (R318). -/
def State.pump (s : State) (r : Nat) : Nat → State
  | 0 => s
  | f + 1 =>
    if 16 ≤ (s.packets.filter (fun e => e.2.region == r && e.2.inWindow)).length then s
    else match s.packets.find? (fun e => e.2.region == r && e.2.phase == .queued) with
      | none => s
      | some (uid, p) =>
        let pa := match p.by_ with
          | .flow _ => slotKey p.addr
          | _ => (s.resolveDword (s.tlb2 (dispatchDie r)) (((s.region r).map (·.dom)).getD 0) p.addr leafR).getD 0
        let s := s.modPacket uid (fun p => if p.phase = .queued then { p with phase := .reading } else p)
        State.pump (s.post (s.now + s.readTrip (dispatchStop r) pa) .packetRead { EvArg.zero with id := uid }) r f

/-- Put a launch into its region's queue (R318). -/
def State.enqueue (s : State) (l : LaunchReq) : State :=
  let p : Packet :=
    { uid := s.uid, region := l.region, addr := l.addr, by_ := l.by_, dom := l.dom, order := s.now, phase := .queued
      ctl := 0, pbase := 0, pdo := 0, cinc := 0, gx := 0, gy := 0, gz := 0, arg := 0, cctr := 0, stw := 0, ddl := 0
      deps := [], usable := false, nstg := 0, entries := [], queues := [], ychk := 0, nextTask := 0, finished := 0
      nfail := 0, rtry := 0, code := 0, status := 0 }
  State.pump { s with uid := s.uid + 1, packets := NMap.set s.packets p.uid p } l.region 16

/-- Cycle in which a dispatch unit's answer reaches who launched: a context, or the Tirel engine (R223, R402). -/
def State.launchBack (s : State) (l : LaunchReq) : Nat :=
  let t := match l.by_ with
    | .flow _ => 0
    | _ => clusterStop l.who.cl
  s.now + 25 + 3 * hops t (dispatchStop l.region)

/-- Answer a launch with a status (R223, R402). -/
def State.answerLaunch (s : State) (l : LaunchReq) (st : Byte) : State :=
  match l.by_ with
  | .flow f => s.post (s.launchBack l) .tirelLaunch { EvArg.zero with n := 1, m := f, launch := l, status := st }
  | _ => s.post (s.launchBack l) .responseAtSlot { EvArg.zero with n := 2, id := l.waitId, who := l.who, status := st }

/-- Rank of launches that arrive in one cycle: clusters, then flows (R223, R328). -/
def LaunchReq.rank (l : LaunchReq) : Nat :=
  match l.by_ with
  | .flow f => 128 + f
  | _ => l.who.cl

/-- A launch goes before another one. -/
def LaunchReq.before (a b : LaunchReq) : Bool :=
  decide (a.arrived < b.arrived) || (a.arrived == b.arrived && decide (a.rank < b.rank))

/-- Keep the waiting launches in their order. -/
def insertLaunch (l : LaunchReq) : List LaunchReq → List LaunchReq
  | [] => [l]
  | x :: r => if l.before x then l :: x :: r else x :: insertLaunch l r

/-- An answer sent now reaches a waiting context by its deadline (R123). -/
def State.inTime (s : State) (l : LaunchReq) : Bool :=
  match l.by_ with
  | .flow _ => decide (s.now ≤ l.deadline)
  | _ => l.deadline == 0 || decide (s.launchBack l ≤ l.deadline)

/-- Give free entries of a region's queue to the launches that wait, in their order; one whose answer would come too late,
or whose incarnation has passed, gets none (R223, R355). -/
def State.serveLaunches (s : State) (r : Nat) : Nat → State
  | 0 => s
  | f + 1 =>
    if 256 ≤ s.queueLen r then s
    else match s.launches.find? (fun l => l.region == r) with
      | none => s
      | some l =>
        let t := dispatchStop r
        let s := { s with launches := s.launches.erase l }
        let s := if !s.current t l.dom l.inc then
            let s := s.dropStale t l.dom l.inc l.addr.toNat
            (match l.by_ with
              | .flow _ => s.answerLaunch l 3
              | _ => s)
          else if s.inTime l then (s.enqueue l).answerLaunch l 0
          else s
        s.serveLaunches r f

/-- A packet has left its queue: the window and the queue go on (R318 step 6). -/
def State.leaveQueue (s : State) (r : Nat) : State := (s.pump r 16).serveLaunches r 256

/-- A launch is refused (R223): the region is not bound or not one the issuer may launch into, or the packet's page is not
readable in the issuer's domain and mode, as its cluster translates it (R2, R359, R369). The Tirel engine has checked a
message's region (R402). -/
def State.launchDenied (s : State) (l : LaunchReq) : Bool :=
  match l.by_ with
  | .task uid =>
    let own := ((NMap.get? s.tasks uid).map (·.region)).getD 0
    let tlb := nth (s.cluster l.who.cl).tlbs 0 [] ++ s.tlb2 (l.who.cl / 2)
    (s.region l.region).isNone || !s.under own l.region ||
      (s.resolve tlb l.dom l.addr 128 (fun e => leafR e && (!l.who.user || leafU e))).isNone
  | _ => (s.region l.region).isNone

/-- LAUNCH_ENQUEUE: a launch arrives at the dispatch unit of its region, and is refused, entered or kept waiting; with
`n` = 2 the deadline of a waiting launch message has passed (R223, R328, R355, R402). -/
def launchEnqueueEffect (s : State) : State :=
  let e := s.ev
  let l := e.launch
  let t := dispatchStop l.region
  if e.n = 2 then
    if s.launches.contains l then ({ s with launches := s.launches.erase l }).answerLaunch l 1 else s
  else if s.agenda.any (fun p => p.ev == .launchEnqueue && decide (p.time ≤ s.now) && p.arg.n == 0 &&
      p.arg.launch.region == l.region && decide (p.arg.launch.rank < l.rank)) then s.post s.now .launchEnqueue e
  else if !s.current t l.dom l.inc then
    let s := s.dropStale t l.dom l.inc l.addr.toNat
    match l.by_ with
    | .flow _ => s.answerLaunch l 3
    | _ => s
  else
    let s := match l.by_ with
      | .task _ => s.touchRange (l.who.cl / 2) l.dom l.addr 128
      | _ => s
    if s.launchDenied l then s.answerLaunch l 7 else
    let flow := match l.by_ with
      | .flow _ => true
      | _ => false
    let l := if flow then { l with arrived := s.now, deadline := s.now + l.deadline } else l
    if s.queueLen l.region < 256 && !s.launches.any (fun x => x.region == l.region) then
      (if s.inTime l then (s.enqueue l).answerLaunch l 0 else s)
    else if l.deadline = 0 then s.answerLaunch l 1
    else
      let s := { s with launches := insertLaunch l s.launches }
      if flow then s.post (l.deadline + 1) .launchEnqueue { e with n := 2, launch := l } else s

/-- LAUNCH_ENQUEUE (R223). -/
def execLaunchEnqueue (s : State) : Host.Outcome State Fault Refusal := .next (launchEnqueueEffect s)

/-! ### The fields of a packet (R24 to R27) -/

/-- Domain in which the addresses inside a packet are translated (R24, R402). -/
def State.packetDom (s : State) (p : Packet) : BitVec 8 :=
  match p.by_ with
  | .flow _ => p.dom
  | _ => ((s.region p.region).map (·.dom)).getD 0

/-- The fields of a packet from its 16 dwords (R24, R25). -/
def Packet.withFields (p : Packet) (w : List W64) : Packet :=
  let x (n : Nat) : W64 := nth w n 0
  { p with
    ctl := x 0, pbase := x 1, pdo := (x 2).setWidth 32, cinc := (x 2).extractLsb' 32 32
    gx := wbits (x 3) 15 0, gy := wbits (x 3) 31 16, gz := wbits (x 3) 47 32, arg := x 4, cctr := x 5, stw := x 6
    ddl := (x 7).setWidth 32
    deps := (List.range (Min.min (wbits (x 0) 10 8) 4)).map (fun i => (x (8 + 2 * i), x (9 + 2 * i), false)) }

/-- The fields of a pipeline declaration from its bytes (R26). -/
def Packet.withPipeline (p : Packet) (b : List Byte) : Packet :=
  let f (o n : Nat) : Nat := leNat ((b.drop o).take n)
  { p with
    nstg := f 0 1 % 8 + 1
    ychk := f 4 2
    entries := (List.range (f 0 1 % 8 + 1)).map (fun j => BitVec.ofNat 28 (f (8 + 4 * j) 4))
    queues := (List.range (Min.min (f 1 1 % 32) 16)).map (fun q =>
      let v := f (0x28 + 2 * q) 2
      { depth := v % 256, producer := v / 2 ^ 8 % 8, consumer := v / 2 ^ 11 % 8, tokens := [], popAt := 0 }) }

/-- Reserved fields of a packet are zero (R24, R25). -/
def packetReservedOk (w : List W64) : Bool :=
  let x (n : Nat) : W64 := nth w n 0
  wbits (x 0) 63 24 == 0 && wbits (x 0) 11 11 == 0 && wbits (x 0) 7 1 == 0 && wbits (x 2) 31 28 == 0 &&
    wbits (x 3) 63 48 == 0 && wbits (x 7) 63 32 == 0

/-- Reserved fields of a declaration are zero (R26). -/
def pipelineReservedOk (b : List Byte) : Bool :=
  let f (o n : Nat) : Nat := leNat ((b.drop o).take n)
  let nstg := f 0 1 % 8 + 1
  let nq := f 1 1 % 32
  f 0 4 / 2 ^ 13 == 0 && f 0 1 / 2 ^ 3 == 0 && f 6 2 == 0 &&
    (List.range 8).all (fun j => if j < nstg then decide (f (8 + 4 * j) 4 < 2 ^ 28) else f (8 + 4 * j) 4 == 0) &&
    (List.range 16).all (fun q => if q < nq then decide (f (0x28 + 2 * q) 2 < 2 ^ 14) else f (0x28 + 2 * q) 2 == 0) &&
    f 0x48 24 == 0

/-- Depths of a pipeline's queues (R20). -/
def depthSum (q : List StageQ) : Nat := (q.map (·.depth)).foldl (· + ·) 0

/-- Virtual address of the entry of a stage (R24, R26). -/
def Packet.entryVa (p : Packet) (e : BitVec 28) : W64 := p.pbase + BitVec.ofNat 64 (4 * e.toNat)

/-- Every stage's entry translates with fetch permission in the region's domain and mode (R24, R27, R368). -/
def State.entriesOk (s : State) (p : Packet) : Bool :=
  let dom := ((s.region p.region).map (·.dom)).getD 0
  let user := !entryMode (s.domAt (dispatchStop p.region) dom)
  p.entries.all (fun e => (s.resolve (s.tlb2 (dispatchDie p.region)) dom (p.entryVa e) 4
    (fun x => leafR x && leafP x && (!user || leafU x))).isSome)

/-- The addresses that a packet and its declaration name have been looked up: domain, address (R24, R369). -/
def State.touchPacket (s : State) (p : Packet) : State :=
  let rdom := ((s.region p.region).map (·.dom)).getD 0
  let dom := s.packetDom p
  ((p.cctr :: p.stw :: p.deps.map (·.1)).map (fun a => (dom, a)) ++ p.entries.map (fun e => (rdom, p.entryVa e))).foldl
    (fun s e => s.touchRange (dispatchDie p.region) e.1 e.2 8) s

/-- The place in R27's list of the first condition that makes a packet invalid; none for a valid packet. `d` is its
declaration, if it can be read. -/
def State.packetFault (s : State) (p : Packet) (w : List W64) (d : Option (List Byte)) : Option Nat :=
  let dom := s.packetDom p
  let tlb := s.tlb2 (dispatchDie p.region)
  let b := d.getD []
  let addrOk := p.addr.toNat % 64 == 0 && wbits p.pbase 15 0 == 0 && p.pdo.toNat % 8 == 0 && d.isSome && p.usable &&
    (s.resolveDword tlb dom p.stw leafDeviceW).isSome &&
    p.deps.all (fun e => (s.resolveDword tlb dom e.1 leafCounterR).isSome) && s.entriesOk p
  ([(1, wbits p.ctl 23 16 != 1),
    (2, decide (4 < wbits p.ctl 10 8)),
    (3, p.cinc == 0),
    (4, p.total == 0 || decide (2 ^ 32 - 1 < p.total)),
    (5, !packetReservedOk w || (d.isSome && !pipelineReservedOk b)),
    (6, d.isSome && decide (16 < leNat ((b.drop 1).take 1) % 32)),
    (7, p.queues.any (fun q => q.depth == 0 || decide (64 < q.depth) || decide (p.nstg ≤ q.producer) ||
      decide (p.nstg ≤ q.consumer) || q.producer == q.consumer)),
    (8, decide (256 < depthSum p.queues)),
    (9, !addrOk)].find? (·.2)).map (·.1)

/-! ### The end of a packet (R27, R30, R31, R322) -/

/-- Post a packet's completion. -/
def State.completeAt (s : State) (uid : Nat) : State := s.post s.now .packetComplete { EvArg.zero with id := uid }

/-- A packet ends without tasks, with a status and a number of failed tasks (R27, R318). -/
def State.endPacket (s : State) (p : Packet) (status nfail : Nat) : State :=
  let s := s.modPacket p.uid (fun p => { p with
    phase := .done, status := Max.max p.status status, nfail := nfail, nextTask := p.total, finished := p.total })
  (s.completeAt p.uid).leaveQueue p.region

/-- Poll for the end of a task, if there is one to end (R28). -/
def State.pollTask (s : State) (uid : Nat) : State :=
  match NMap.get? s.tasks uid with
  | none => s
  | some t => s.post s.now .taskEnd (EvArg.at t.cluster 0 uid)

/-- Number of a read-modify-write among the LSU kinds of its width (R170). -/
def AtomOp.code : AtomOp → Nat
  | .add => 0 | .and => 1 | .or => 2 | .xor => 3 | .min => 4 | .max => 5 | .minn => 6 | .maxn => 7 | .swap => 8 | .cas => 9

/-- ATOP of a read-modify-write of 4 or 8 bytes (R394). -/
def AtomOp.atop (op : AtomOp) (n : Nat) : Nat := (if n = 4 then 0x10 else 0x20) + op.code

/-- Perform a staged write of a packet at its home, unless its incarnation has passed there, or send it out through a window
(R322, R355, R401). -/
def State.commitWrite (s : State) (tag : Nat) (e : StagedWrite) : State :=
  if inWindow e.pa then
    s.post s.now .windowAccessSend
      { EvArg.zero with
        n := 2, m := if e.red.isNone then 1 else 2, id := tag, v := BitVec.ofNat 64 e.pa, who := { Who.zero with dom := e.dom, inc := e.inc }
        status := BitVec.ofNat 8 ((e.red.map (fun (op : AtomOp) => op.atop e.bytes.length)).getD 0)
        frame := { Frame.zero with payload := e.bytes } }
  else if !s.current (homeStop e.pa) e.dom e.inc then s.dropStale (homeStop e.pa) e.dom e.inc e.pa
  else match e.red with
  | none => (s.settle e.pa e.bytes.length).storeAt e.pa e.bytes
  | some op =>
    match s.readHome e.pa e.bytes.length e.dom e.inc with
    | (s, none) => s
    | (s, some old) =>
      match atomNew op e.bytes.length (leNat old) (leNat e.bytes) 0 with
      | some new => s.storeAt e.pa (leBytes e.bytes.length new)
      | none => s

/-- Tasks of a packet, in ascending index (R322). -/
def State.tasksOf (s : State) (uid : Nat) : List Task :=
  ((s.tasks.filter (fun e => e.2.pkt == uid)).map (·.2)).mergeSort (fun a b => decide (a.index ≤ b.index))

/-- Status word (R31). -/
def Packet.statusWord (p : Packet) : Nat := p.nfail % 2 ^ 32 * 2 ^ 32 + p.rtry * 2 ^ 20 + p.code * 2 ^ 8 + p.status

/-- Staged writes of a packet are still on their way through windows (R322, R431). -/
def State.committing (s : State) (uid : Nat) : Bool :=
  s.agenda.any (fun p => p.ev == .windowAccessSend && p.arg.n == 2 && p.arg.id == uid) ||
    s.port.flows.any (fun f => (f.2.held ++ f.2.waiting).any (fun h => h.acc == .device uid))

/-- PACKET_COMPLETE: the staged writes of tasks that did not fail are committed, the status word is written, and the
completion counter gets its add (R31, R322). A packet with an unusable counter leaves its catalogue entry alone (R27); so
does one that is DENIED without a task when its status word has no place, since it has its entry. -/
def packetCompleteEffect (s : State) : State :=
  match NMap.get? s.packets s.ev.id with
  | none => s
  | some p =>
    let t := dispatchStop p.region
    let dom := s.packetDom p
    let s := if p.ctl.getLsbD 0 then
        (s.tasksOf p.uid).foldl (fun (s : State) t =>
          let s := if t.fail.isEmpty then t.staged.foldl (fun (s : State) e => s.commitWrite p.uid e) s else s
          { s with tasks := NMap.set s.tasks t.uid { t with staged := [] } }) s
      else s
    if s.committing p.uid then s.post (s.now + 1) .packetComplete s.ev else
    let s := if !p.usable then s
      else
        let s := s.touchRange (dispatchDie p.region) dom p.stw 8
        let s := match s.resolveDword (s.tlb2 (dispatchDie p.region)) dom p.stw leafDeviceW with
          | some pa => (s.settle pa 8).storeAt pa (leBytes 8 p.statusWord)
          | none => if p.status = 7 ∧ p.nfail = 0 then s else s.logRefused t 8 dom (s.deviceInc dom) p.stw.toNat 9
        let r := s.deviceAdd (dispatchDie p.region) dom p.cctr (p.cinc.toNat + (if p.status = 0 then 0 else 2 ^ 48))
        if r.1 then r.2 else r.2.logRefused t 8 dom (s.deviceInc dom) p.cctr.toNat 9
    let s := { s with tasks := s.tasks.filter (fun e => e.2.pkt != p.uid), packets := NMap.erase s.packets p.uid }
    match p.by_ with
    | .task uid => s.pollTask uid
    | _ => s

/-- PACKET_COMPLETE (R31). -/
def execPacketComplete (s : State) : Host.Outcome State Fault Refusal := .next (packetCompleteEffect s)

/-! ### Reading a packet (R24, R27, R318, R402) -/

/-- Free a launch slot of a flow (R402). -/
def State.freeSlot (s : State) (f : Nat) (a : W64) : State :=
  match NMap.get? s.port.flows f with
  | none => s
  | some x =>
    let n := (wbits a 23 0 - (0xE00000 + 0x2000 * f)) / 128
    s.modPort (fun p => { p with flows := NMap.set p.flows f { x with slots := x.slots.filter (· != n) } })

/-- The launch slot of a flow from which a packet has been read, or whose launch was refused, is freed at the end of the cycle:
a launch that finds the area full in this cycle is DENIED (R402, R406). -/
def State.releaseSlot (s : State) (f : Nat) (a : W64) : State :=
  s.post s.now .tirelLaunch { EvArg.zero with n := 3, m := f, v := a }

/-- Read a packet and its declaration, and judge it; the fields read, and the place in R27's list of what is wrong
(R24 to R27, R366, R402). -/
def State.readPacket (s : State) (p : Packet) : State × Packet × Option Nat :=
  let dom := s.packetDom p
  let r : State × Option (List Byte) := match p.by_ with
    | .flow f =>
      let s := s.releaseSlot f p.addr
      s.readAgent (dispatchStop p.region) (slotKey p.addr) 128 p.dom (s.deviceInc p.dom)
    | _ => s.readVirtual (dispatchDie p.region) dom p.addr 128
  match r.2 with
  | none => (r.1, p, some 9)
  | some b =>
    let w := dwordsOf 16 b
    let p := p.withFields w
    let s := r.1.touchRange (dispatchDie p.region) dom p.cctr 8
    let p := { p with usable := (s.resolveDword (s.tlb2 (dispatchDie p.region)) dom p.cctr leafCounterW).isSome }
    let x := if wbits p.pbase 15 0 ≠ 0 ∨ p.pdo.toNat % 8 ≠ 0 then (s, none)
      else s.readVirtual (dispatchDie p.region) dom (p.pbase + BitVec.ofNat 64 (4 * p.pdo.toNat)) 96
    let p := match x.2 with
      | some d => p.withPipeline d
      | none => p
    let s := x.1.touchPacket p
    (s, p, s.packetFault p w x.2)

/-- An invalid packet: DENIED with no failed task, and a catalogue entry naming it (R27). -/
def State.invalidPacket (s : State) (p : Packet) (why : Nat) : State :=
  let dom := ((s.region p.region).map (·.dom)).getD 0
  (s.logRefused (dispatchStop p.region) 8 dom (s.deviceInc dom) p.addr.toNat why).endPacket p 7 0

/-! ### Eligibility (R318) -/

/-- Slices of a mask, ascending. -/
def slicesOf (m : BitVec 128) : List Nat := (List.range 128).filter (fun i => m.getLsbD i)

/-- Longest run of staging units that a slice set can ever give a task (R84). -/
def longestRun (slmask : BitVec 128) : Nat :=
  match slicesOf slmask with
  | [] => 0
  | [_] => 224
  | _ => 256

/-- Staging units that a slice set can ever give (R84). -/
def unitsOf (slmask : BitVec 128) : Nat := (slicesOf slmask).length * 256 - (if slmask = 0 then 0 else 32)

/-- The place, in step 4 of R318, of a need of a packet that its region can never meet. -/
def State.unmetNeed (s : State) (p : Packet) (g : Region) : Option Nat :=
  let up := (s.lineage p.region).filterMap s.region
  if p.ychk = 0 ∨ g.ymax < p.ychk then some 3
  else if up.any (fun x => decide (x.stb < g.tstg + g.csb) || decide (x.spb < g.tsp) || decide (x.frb < g.tfr) ||
      decide (x.shb < g.tsh)) || decide (longestRun g.slmask < g.tstg) || decide (unitsOf g.slmask < g.tstg + g.csb) ||
      g.cmask == 0 then some 4
  else none

/-- Ask a dispatch unit to place tasks (R318). -/
def State.wantPlace (s : State) (die : Nat) : State :=
  if s.agenda.any (fun p => p.ev == .taskPlace && p.arg.n == die && decide (p.time ≤ s.now)) then s
  else s.post s.now .taskPlace { EvArg.zero with n := die }

/-- Let every dispatch unit with packets to place go on: an entry of a cluster's queue has become free (R319). -/
def State.wakePlace (s : State) : State :=
  s.packets.foldl (fun (s : State) e => if e.2.phase == .eligible then s.wantPlace (e.2.region / 64) else s) s

/-- A packet's dependences are met: its needs are checked, and its tasks may be placed (R318). -/
def State.makeEligible (s : State) (p : Packet) : State :=
  match s.region p.region with
  | none => s.endPacket p 7 0
  | some g =>
    match s.unmetNeed p g with
    | some n => (s.logRefused (dispatchStop p.region) 8 g.dom (s.deviceInc g.dom) p.addr.toNat n).endPacket p 7 0
    | none => (s.modPacket p.uid (fun p => { p with phase := .eligible })).wantPlace (p.region / 64)

/-- PACKET_READ: the packet at the head of its queue is read and judged; a valid one has its dependences read
(R24, R27, R318). -/
def packetReadEffect (s : State) : State :=
  match NMap.get? s.packets s.ev.id with
  | none => s
  | some p =>
    if p.phase ≠ .reading then s
    else
      let r := s.readPacket p
      let s := { r.1 with packets := NMap.set r.1.packets p.uid r.2.1 }
      let p := r.2.1
      match r.2.2 with
      | some why => s.invalidPacket p why
      | none =>
        if p.deps.isEmpty then s.makeEligible p
        else
          let dom := s.packetDom p
          let t := dispatchStop p.region
          let trip := (p.deps.map (fun e =>
            (s.resolveDword (s.tlb2 (dispatchDie p.region)) dom e.1 leafCounterR).elim 44 (s.readTrip t))).foldl Max.max 0
          let s := s.modPacket p.uid (fun p => { p with phase := .polling })
          let s := s.post (s.now + trip) .dependencePoll { EvArg.zero with id := p.uid }
          if p.ddl = 0 then s else s.post (p.order + p.ddl.toNat + 1) .dependenceTimeout { EvArg.zero with id := p.uid }

/-- PACKET_READ (R24). -/
def execPacketRead (s : State) : Host.Outcome State Fault Refusal := .next (packetReadEffect s)

/-- Read the dependence counters still short of their thresholds, each as an acquire; one that holds poison stays short (R120,
R318, R377, R380, log 73). -/
def State.readDeps (s : State) (p : Packet) : State × List (W64 × W64 × Bool) :=
  let die := dispatchDie p.region
  let dom := s.packetDom p
  p.deps.foldl (fun (r : State × List (W64 × W64 × Bool)) e =>
    if e.2.2 then (r.1, r.2 ++ [e])
    else
      let s := r.1.touchRange die dom e.1 8
      match s.resolveDword (s.tlb2 die) dom e.1 leafCounterR with
      | some pa =>
        match s.readAgent (frondStop die) pa 8 dom (s.deviceInc dom) with
        | (s, some b) => (s, r.2 ++ [(e.1, e.2.1, decide (e.2.1.toNat ≤ leNat b))])
        | (s, none) => (s, r.2 ++ [e])
      | none => (s, r.2 ++ [e])) (s, [])

/-- DEPENDENCE_POLL: the counters still short are read, and again every 512 cycles; with DDL = 0 the first reading decides; a
reading that comes after DDL has run out does not count (R27, R318). -/
def dependencePollEffect (s : State) : State :=
  match NMap.get? s.packets s.ev.id with
  | none => s
  | some p =>
    if p.phase ≠ .polling ∨ (p.ddl ≠ 0 ∧ p.order + p.ddl.toNat < s.now) then s
    else
      let r := s.readDeps p
      let p := { p with deps := r.2 }
      let s := { r.1 with packets := NMap.set s.packets p.uid p }
      if p.deps.all (·.2.2) then s.makeEligible p
      else if p.ddl = 0 then s.endPacket p 1 p.total
      else s.post (s.now + 512) .dependencePoll s.ev

/-- DEPENDENCE_POLL (R318). -/
def execDependencePoll (s : State) : Host.Outcome State Fault Refusal := .next (dependencePollEffect s)

/-- DEPENDENCE_TIMEOUT: the deadline has passed and the packet is not eligible, so it runs no task (R27, R318). -/
def dependenceTimeoutEffect (s : State) : State :=
  match NMap.get? s.packets s.ev.id with
  | none => s
  | some p => if p.phase = .polling then s.endPacket p 1 p.total else s

/-- DEPENDENCE_TIMEOUT (R27). -/
def execDependenceTimeout (s : State) : Host.Outcome State Fault Refusal := .next (dependenceTimeoutEffect s)

/-! ### Placing tasks (R20, R318, R319) -/

/-- Cluster of task `i` of a region (R20). -/
def Region.clusterOf (g : Region) (i : Nat) : Nat := nth g.clusters (i % g.clusters.length) 0

/-- A cluster's queue of a level has a free entry (R319). -/
def State.levelFree (s : State) (cl level : Nat) : Bool :=
  decide (((s.cluster cl).queue.filter (fun q => q.level == level)).length < 64)

/-- Ask a cluster to start tasks (R320). -/
def State.wantStart (s : State) (cl : Nat) : State :=
  if (s.cluster cl).queue.isEmpty ||
      s.agenda.any (fun p => p.ev == .taskStart && p.arg.cl == cl && decide (p.time ≤ s.now)) then s
  else s.post s.now .taskStart (EvArg.at cl 0 0)

/-- A packet whose next task can be placed, with its region. -/
def State.placeable (s : State) (die : Nat) : List (Packet × Region) :=
  s.packets.filterMap (fun e =>
    match s.region e.2.region with
    | some g =>
      if e.2.phase == .eligible && e.2.region / 64 == die && s.levelFree (g.clusterOf e.2.nextTask) g.pri then some (e.2, g)
      else none
    | none => none)

/-- Complete a packet's part that has not started, as KILLED: tasks waiting in cluster queues end with it and free their
entries (R319, R357). -/
def State.killPacket (s : State) (p : Packet) : State :=
  let waiting := (s.tasksOf p.uid).filter (fun t => !t.holds && !t.done)
  let ids := waiting.map (·.uid)
  let s := waiting.foldl (fun (s : State) t =>
    let s := s.modCluster t.cluster (fun k => { k with queue := k.queue.filter (fun q => q.uid != t.uid) })
    { s with tasks := NMap.set s.tasks t.uid { t with done := true, fail := [3] } }) s
  let lost := p.total - p.nextTask + ids.length
  let s := s.modPacket p.uid (fun p => { p with
    phase := .done, status := Max.max p.status 3, nfail := p.nfail + lost, nextTask := p.total
    finished := p.finished + lost })
  let s := if p.finished + lost = p.total then s.completeAt p.uid else s
  (s.leaveQueue p.region).wakePlace

/-- TASK_PLACE: a dispatch unit places one task, by priority, enqueue order and index; the packet leaves its queue with its
last task (R318, R319, R355). -/
def taskPlaceEffect (s : State) : State :=
  let die := s.ev.n
  let t := frondStop die
  match (s.placeable die).foldl (fun (m : Option (Packet × Region)) e =>
      match m with
      | none => some e
      | some x => if e.2.pri < x.2.pri then some e else m) none with
  | none => s
  | some (p, g) =>
    if !entryValid (s.domAt t g.dom) then (s.killPacket p).post s.now .taskPlace s.ev
    else
      let cl := g.clusterOf p.nextTask
      let task : Task :=
        { Task.none with
          uid := s.uid, pkt := p.uid, index := p.nextTask, cluster := cl, region := p.region, dom := g.dom
          inc := entryCur (s.domAt t g.dom), nstg := p.nstg, tsp := g.tsp, tfr := g.tfr, nsh := g.tsh, tstg := g.tstg
          csb := g.csb, queues := p.queues, pri := g.pri, ymax := g.ymax, rg := some g }
      let s := { s with uid := s.uid + 1, tasks := NMap.set s.tasks task.uid task }
      let s := s.modCluster cl (fun k => { k with queue := k.queue ++ [{ uid := task.uid, level := g.pri }] })
      let last : Bool := p.nextTask + 1 = p.total
      let s := s.modPacket p.uid (fun p => { p with
        nextTask := p.nextTask + 1, phase := if last then .placed else p.phase })
      let s := if last then s.leaveQueue p.region else s
      (s.wantStart cl).post s.now .taskPlace s.ev

/-- TASK_PLACE (R319). -/
def execTaskPlace (s : State) : Host.Outcome State Fault Refusal := .next (taskPlaceEffect s)

end Sys2Proof.Machine
end

