-- ==== Sys2Proof/Machine/Tasks.lean ====
section
/-! DEFINITION. Tasks on their cluster: the start of the head task that fits, with its storage and its stages, and the
end or the re-run of a task (R17 to R20, R28, R30, R82, R84, R92, R315, R317, R320, R352, R357, R388, R416). -/

namespace Sys2Proof.Machine

/-! ### Storage (R82, R84, R315, R320) -/

/-- First run of `n` free items below `limit`, given the runs in use. -/
def firstRun (n limit : Nat) (used : List (Nat × Nat)) : Option Nat :=
  if n = 0 then some 0
  else (List.range (limit + 1 - n)).find? (fun b => used.all (fun u => decide (b + n ≤ u.1) || decide (u.1 + u.2 ≤ b)))

/-- Scratchpad pages in use on a cluster: runs of first page and count. -/
def State.pagesUsed (s : State) (cl : Nat) : List (Nat × Nat) :=
  (s.tasks.filter (fun e => e.2.running && e.2.cluster == cl && decide (0 < e.2.tsp))).map (fun e => (e.2.spbase, e.2.tsp))

/-- Staging units of a slice in use for runs or commit space, withdrawn, or withheld for launch areas (R84, R315, R385). -/
def State.unitsUsed (s : State) (slmask : BitVec 128) (sl : Nat) : List (Nat × Nat) :=
  ((s.tasks.filter (fun e => e.2.holds && decide (0 < e.2.tstg) && e.2.sbase / 2 ^ 24 == sl)).map
      (fun e => (e.2.sbase % 2 ^ 24 / 2 ^ 16, e.2.tstg))) ++
    ((s.tasks.filter (fun e => e.2.holds)).flatMap (fun e => e.2.cunits.filter (·.1 == sl))).map (fun u => (u.2, 1)) ++
    ((s.archive (sl / 8)).withdrawn.filter (fun u => u.1 == sl)).map (fun u => (u.2, 1)) ++
    (if (slicesOf slmask).head? = some sl then [(224, 32)] else [])

/-- Base of a free staging run: 31-bit staging offset of its first unit. -/
def State.stagingRun (s : State) (slmask : BitVec 128) (n : Nat) : Option Nat :=
  if n = 0 then some 0
  else (slicesOf slmask).findSome? (fun sl => (firstRun n 256 (s.unitsUsed slmask sl)).map (fun u => sl * 2 ^ 24 + u * 2 ^ 16))

/-- Units for a task's commit space beside its own run: the lowest free ones, of the slices in order (R84, R315, log 44). -/
def State.commitUnits (s : State) (slmask : BitVec 128) (n sbase tstg : Nat) : Option (List (Nat × Nat)) :=
  if n = 0 then some []
  else
    let free := (slicesOf slmask).flatMap (fun sl =>
      let used := s.unitsUsed slmask sl ++ (if sbase / 2 ^ 24 = sl then [(sbase % 2 ^ 24 / 2 ^ 16, tstg)] else [])
      ((List.range 256).filter (fun u => !used.any (fun r => decide (r.1 ≤ u) && decide (u < r.1 + r.2)))).map (fun u => (sl, u)))
    if free.length < n then none else some (free.take n)

/-- The budgets of a region and its ancestors have room for a task's storage on a cluster (R315). -/
def State.clusterBudget (s : State) (r cl tsp tfr nsh : Nat) : Bool :=
  (s.lineage r).all (fun x =>
    match s.region x with
    | none => true
    | some g =>
      decide (s.chargedOn x cl (·.tsp) + tsp ≤ g.spb) && decide (s.chargedOn x cl (·.tfr) + tfr ≤ g.frb) &&
        decide (s.chargedOn x cl (·.nsh) + nsh ≤ g.shb))

/-- The staging budgets of a region and its ancestors have room (R315). -/
def State.stagingBudget (s : State) (r n : Nat) : Bool :=
  (s.lineage r).all (fun x =>
    match s.region x with
    | none => true
    | some g => decide (s.chargedStaging x + n ≤ g.stb))

/-- Free context slots of a cluster, lowest first. -/
def State.freeSlots (s : State) (cl : Nat) : List Nat := (List.range 8).filter (fun x => (s.ctx cl x).occ == .free)

/-- Stage-queue entries in use on a cluster. -/
def State.entriesUsed (s : State) (cl : Nat) : Nat :=
  ((s.tasks.filter (fun e => e.2.running && e.2.cluster == cl)).map (fun e => depthSum e.2.queues)).foldl (· + ·) 0

/-- Sum over the tasks that hold storage on a cluster. -/
def State.heldOn (s : State) (cl : Nat) (f : Task → Nat) : Nat :=
  ((s.tasks.filter (fun e => e.2.running && e.2.cluster == cl)).map (fun e => f e.2)).foldl (· + ·) 0

/-- Storage of a task on a cluster: its scratchpad base, when everything a cluster gives is free at once: entries of the
stage-queue store, folio rows and shelves of each core, what the budgets leave, and a run of pages (R3, R12, R20, R315, R320). -/
def State.fitCluster (s : State) (t : Task) (r cl : Nat) : Option Nat :=
  if decide (s.entriesUsed cl + depthSum t.queues ≤ 1024) && decide (s.heldOn cl (·.tfr) + t.tfr ≤ 512) &&
      decide (s.heldOn cl (·.nsh) + t.nsh ≤ 8) && s.clusterBudget r cl t.tsp t.tfr t.nsh then
    firstRun t.tsp 128 (s.pagesUsed cl)
  else none

/-- A place is a folio row or a shelf of a task. -/
def Task.owns (t : Task) (p : ErrPlace) : Bool :=
  match p with
  | .folio n => decide (t.frow ≤ n) && decide (n < t.frow + 4096)
  | .shelf n => decide (t.shelf ≤ n) && decide (n < t.shelf + 64)
  | _ => false

/-- A cluster without a task's folio rows and shelves: all zero, with no error in them (R92, R379). -/
def Cluster.without (k : Cluster) (t : Task) : Cluster :=
  { k with
    folio := k.folio.filter (fun e => !t.owns (.folio e.1))
    shelves := k.shelves.filter (fun e => !t.owns (.shelf e.1))
    errs := k.errs.filter (fun e => !t.owns e.place) }

/-- Scrub a task's scratchpad pages, folio rows and shelves on its cluster; rows of earlier V-slot accesses have moved (R92,
R233). -/
def State.scrubCluster (s : State) (t : Task) : State :=
  let s := (List.range 4).foldl (fun (s : State) k => s.scrub (scratchKey t.cluster k (t.spbase * 16384)) (t.tsp * 16384))
    (s.settleRows t.cluster)
  s.modCluster t.cluster (fun k => k.without t)

/-- Scrub a task's staging run (R92). -/
def State.scrubStaging (s : State) (t : Task) : State :=
  if t.tstg = 0 then s else s.scrub (2 ^ 48 + t.sbase) (t.tstg * 65536)

/-- Scrub and give a task its scratchpad pages, folio rows and shelves on a cluster (R82, R92, R315). -/
def State.giveCluster (s : State) (t : Task) (cl spbase : Nat) : State × Task :=
  let t := { t with running := true, cluster := cl, spbase := spbase, frow := 4096 * t.uid, shelf := 64 * t.uid }
  ((s.scrubCluster t).modCluster cl (fun k => { k with tasks := t.uid :: k.tasks }), t)

/-- Take a task's storage on its cluster back (R315). -/
def State.takeCluster (s : State) (t : Task) : State × Task :=
  ((s.settleRows t.cluster).modCluster t.cluster (fun k => { k.without t with tasks := k.tasks.filter (· != t.uid) }),
    { t with running := false })

/-! ### The start of a task (R18, R20, R320) -/

/-- s.ctx of a stage (R17). -/
def ctxWord (index stage : Nat) (inc : BitVec 10) (dom : BitVec 8) (super : Bool) (cl cx : Nat) : W64 :=
  BitVec.ofNat 64 (index * 2 ^ 32 + stage * 2 ^ 29 + inc.toNat * 2 ^ 19 + dom.toNat * 2 ^ 11 +
    (if super then 2 ^ 10 else 0) + cl * 2 ^ 3 + cx)

/-- s.grid of a task (R17, R19). -/
def gridWord (p : Packet) (i : Nat) : W64 :=
  BitVec.ofNat 64 (i / (p.gx * p.gy) * 2 ^ 32 + i / p.gx % p.gy * 2 ^ 16 + i % p.gx)

/-- What a context holds when a stage starts in it (R18, R22, R356). -/
def Ctx.started (old : Ctx) (now : Nat) (t : Task) (p : Packet) (stage nomm : Nat) (super : Bool) (cx : Nat) : Ctx :=
  let sctx := ctxWord t.index stage t.inc t.dom super t.cluster cx
  let grid := gridWord p t.index
  { Ctx.empty with
    occ := .resident, serial := old.serial + 1, task := t.uid, pc := nth p.entries stage 0 ++ 0#2, pbase := p.pbase
    pkt := p.addr
    g := [p.arg, BitVec.ofNat 64 t.index, grid, BitVec.ofNat 64 stage] ++ List.replicate 60 0
    sl := BitVec.ofNat 5 nomm, sctx := sctx, grid := grid, arg := p.arg, ccyAt := now
    seg := { count := 0, bound := t.ymax, rb := t.ymax, chk := false, sig := 0, crc := 0xFFFF, tested := false }, segAt := now
    nextIssue := now, tLast := now - 1, readyAt := now }

/-- Start the stages of a task in the lowest free slots of its cluster, in one cycle (R18, R20, R352). -/
def State.startStages (s : State) (t : Task) (p : Packet) : State :=
  let e := s.domAt (clusterStop t.cluster) t.dom
  let nomm := (t.rg.map (·.nomm)).getD 3
  let slots := (s.freeSlots t.cluster).take t.nstg
  let s := (slots.zip (List.range t.nstg)).foldl (fun (s : State) x =>
    s.modCtx t.cluster x.1 (fun c => c.started s.now t p x.2 nomm (entryMode e) x.1)) s
  s.post s.now .arbiterDecide (EvArg.at t.cluster 0 0)

/-- Let every cluster with waiting tasks look at its queue. -/
def State.wakeStarts (s : State) : State := s.clusters.foldl (fun (s : State) e => s.wantStart e.1) s

/-- Head of a cluster's highest non-empty level (R320). -/
def Cluster.head (k : Cluster) : Option Placed :=
  k.queue.foldl (fun m q => match m with
    | none => some q
    | some x => if q.level < x.level then some q else m) none

/-- Start a task: take it from its queue, allocate what it does not hold yet, scrub what it holds, so that a re-run begins as
the first run did, and start its stages (R34, R92, R320). -/
def State.startTask (s : State) (q : Placed) (t : Task) (p : Packet) (spbase sbase : Nat) (cu : List (Nat × Nat)) : State :=
  let s := s.modCluster t.cluster (fun k => { k with queue := k.queue.erase q })
  let t := { t with inc := entryCur (s.domAt (clusterStop t.cluster) t.dom) }
  let r : State × Task :=
    if t.holds then ((s.scrubCluster t).scrubStaging t, t)
    else
      let g := s.giveCluster { t with holds := true, sbase := sbase, cunits := cu } t.cluster spbase
      (g.1.scrubStaging g.2, g.2)
  ({ r.1 with tasks := NMap.set r.1.tasks t.uid r.2 }).startStages r.2 p

/-- A task has ended or failed: its storage is freed and its packet counts it. CODE counts the codes of the tasks that have not
failed: DESIGN CHOICE, R31 says ended tasks and names failed ones beside them (R28, R31, R315, log 93). -/
def State.finishTask (s : State) (t : Task) : State :=
  let fail := if t.poisoned then 4 :: t.fail else t.fail
  let r := if t.running then s.takeCluster t else (s, t)
  let t := { r.2 with done := true, holds := false, cunits := [], fail := fail }
  let s := { r.1 with tasks := NMap.set r.1.tasks t.uid t, kept := r.1.kept.filter (fun e => e.1 / 8 != t.uid) }
  let s := match NMap.get? s.packets t.pkt with
    | none => s
    | some p =>
      let p := { p with
        finished := p.finished + 1, nfail := if fail.isEmpty then p.nfail else p.nfail + 1
        rtry := Max.max p.rtry t.reruns, code := if fail.isEmpty then Max.max p.code t.code else p.code
        status := fail.foldl Max.max p.status }
      let s := { s with packets := NMap.set s.packets p.uid p }
      if p.finished = p.total then s.completeAt p.uid else s
  s.wakeStarts

/-- TASK_START: after the other steps of its cycle (`Pending.rank`), a cluster starts the head task of its highest level if all it needs is
free at once, and looks again; on a withdrawn cluster it ends DENIED (R320, R328, R385). -/
def taskStartEffect (s : State) : State :=
  let cl := s.ev.cl
  match (s.cluster cl).head with
  | none => s
  | some q =>
    match NMap.get? s.tasks q.uid with
    | none => (s.modCluster cl (fun k => { k with queue := k.queue.erase q })).wantStart cl
    | some t =>
      match NMap.get? s.packets t.pkt with
      | none => (s.modCluster cl (fun k => { k with queue := k.queue.erase q })).wantStart cl
      | some p =>
        if (s.cluster cl).withdrawn then
          ((s.modCluster cl (fun k => { k with queue := k.queue.erase q })).finishTask { t with fail := 7 :: t.fail }).wakePlace.wantStart cl
        else if (s.freeSlots cl).length < t.nstg || !entryValid (s.domAt (clusterStop cl) t.dom) then s
        else if t.holds then ((s.startTask q t p 0 0 []).wakePlace).wantStart cl
        else
          let slmask := (t.rg.map (·.slmask)).getD 0
          let sbase := s.stagingRun slmask t.tstg
          match s.fitCluster t t.region cl, sbase, s.commitUnits slmask t.csb (sbase.getD 0) t.tstg with
          | some spbase, some sbase, some cu =>
            if s.stagingBudget t.region (t.tstg + t.csb) then
              ((s.startTask q t p spbase sbase cu).wakePlace).wantStart cl
            else s
          | _, _, _ => s

/-- TASK_START (R320). -/
def execTaskStart (s : State) : Host.Outcome State Fault Refusal := .next (taskStartEffect s)

/-! ### The end of a task (R28, R317, R357, R388, R416) -/

/-- Nothing of a context's outstanding work remains (R28). -/
def State.workDone (s : State) (cl cx : Nat) : Bool :=
  let c := s.ctx cl cx
  c.accs.isEmpty && c.streamsDone s.now && c.pend.isEmpty && c.wait.isNone && !s.rowsLeft cl cx &&
    (s.cluster cl).engines.all (fun e => match e.cur with
      | some (x, _) => x != cx
      | none => true)

/-- Steps that carry on an access or a wait of a context by its identifier. -/
def carriesAccess (ev : Instr) : Bool :=
  match ev with
  | .requestLeavesCluster | .accessAtHome | .counterOpAtHome | .windowAccessSend | .windowCounterPoll | .deferredFault
  | .loadExpire | .waitComplete | .waitDeadlineExpire | .waitCancelAtHome | .arwIndeterminate => true
  | _ => false

/-- A step still to come that names a stage by its slot names it by its new number. -/
def Pending.follow (p : Pending) (cl cx n : Nat) (w : Who) (ids : List Nat) : Pending :=
  let here := p.arg.cl == cl && p.arg.cx == cx
  let moved : EvArg := { p.arg with cx := n, who := { p.arg.who with cx := n } }
  if carriesAccess p.ev && here && ids.contains p.arg.id then { p with arg := moved }
  else if p.ev == .responseAtSlot && p.arg.n == 0 && p.arg.who == w && ids.contains p.arg.id then { p with arg := moved }
  else if p.ev == .contextStop && here && p.arg.who == w then { p with arg := moved }
  else if p.ev == .streamChunk && p.arg.n != 1 && here then { p with arg := { p.arg with cx := n } }
  else match p.arg.walker with
    | .access a b id =>
      if p.ev == .tableWalk && a == cl && b == cx && ids.contains id then
        { p with arg := { p.arg with walker := .access a n id, who := { p.arg.who with cx := n } } }
      else p
    | _ => p

/-- A stage that has ended leaves its slot; the work that is outstanding is kept under a new number (R28, R417). -/
def State.retire (s : State) (cl cx : Nat) : State :=
  let c := s.ctx cl cx
  let n := 8 * (s.uid + 1) + cx
  let w := c.who cl cx
  let ids := c.accs.map (·.id) ++ c.wait.toList.map (·.id)
  let renamed (v : Who) (id : Nat) : Who := if v = w ∧ ids.contains id then { v with cx := n } else v
  let held (h : HeldReq) : HeldReq := match h.acc with
    | .access a b id => if a = cl ∧ b = cx ∧ ids.contains id then { h with acc := .access a n id } else h
    | _ => h
  let s := s.setCtx cl n { c with accs := c.accs.map (fun a => { a with who := { a.who with cx := n } }) }
  let s := s.modCluster cl (fun k => { k with
    engines := k.engines.map (fun e => { e with cur := e.cur.map (fun x => if x.1 = cx then (n, x.2) else x) })
    rows := k.rows.map (fun j => if j.cx = cx then { j with cx := n } else j) })
  let s := s.modPort (fun p => { p with
    flows := p.flows.map (fun f => (f.1, { f.2 with held := f.2.held.map held, waiting := f.2.waiting.map held })) })
  { s with
    uid := s.uid + 1, agenda := s.agenda.map (fun p => p.follow cl cx n w ids)
    waiters := s.waiters.map (fun x => { x with who := renamed x.who x.accId })
    winWaiters := s.winWaiters.map (fun x => { x with who := renamed x.who x.accId }) }

/-- Free the slots of a cluster whose stage has ended; the serial stays. Work that was outstanding and is done is forgotten
(R28, R356). -/
def State.freeEnded (s : State) (cl : Nat) : State :=
  let s := (List.range 8).foldl (fun (s : State) cx =>
    let c := s.ctx cl cx
    if c.occ = .ended then
      ((if s.workDone cl cx then s else s.retire cl cx).setCtx cl cx { Ctx.empty with serial := c.serial }).wantStart cl
    else s) s
  (s.shadows cl).foldl (fun (s : State) x =>
    if s.workDone cl x then { s with ctxs := NMap.erase s.ctxs (ctxKey cl x) } else s) s

/-- Work of a task whose stages have ended is outstanding on its cluster. -/
def State.outstanding (s : State) (t : Task) : Bool :=
  (List.range 8 ++ s.shadows t.cluster).any (fun x =>
    (s.ctx t.cluster x).occ == .ended && (s.ctx t.cluster x).task == t.uid)

/-- A copy command of a task is not over (R28, R357). -/
def Channel.busyFor (k : Channel) (task : Nat) : Bool := k.task == task && (k.state == 1 || k.state == 2 || !k.unanswered.isEmpty)

/-- Children of a task: packets it launched, and launches on their way (R30). -/
def State.hasChildren (s : State) (uid : Nat) : Bool :=
  s.packets.any (fun e => e.2.by_ == .task uid) || s.launches.any (fun l => l.by_ == .task uid) ||
    s.agenda.any (fun p => p.ev == .launchEnqueue && p.arg.launch.by_ == .task uid)

/-- Every stage has ended, its outstanding work is complete, and its children are (R28). -/
def State.taskOver (s : State) (t : Task) : Bool :=
  !t.done && decide (t.nstg ≤ t.ended.length) && t.evicted.isEmpty &&
    (List.range 8 ++ s.shadows t.cluster).all (fun x => let c := s.ctx t.cluster x; c.occ == .free || c.task != t.uid) &&
    !((s.cluster t.cluster).chans.any (fun k => k.busyFor t.uid)) && !s.hasChildren t.uid

/-- A re-run is granted after poison: staged commit, re-runs left to the task and to the region, no other failure
(R25, R317, R388). -/
def State.rerunGranted (s : State) (t : Task) : Bool :=
  match NMap.get? s.packets t.pkt, s.region t.region with
  | some p, some g =>
    p.ctl.getLsbD 0 && (t.poisoned || !t.fail.isEmpty) && t.fail.all (· == 4) && decide (t.reruns < wbits p.ctl 15 12) &&
      decide (0 < g.rtbLeft)
  | _, _ => false

/-- A channel without what it remembers of a task's commands (R213, R224). -/
def Channel.forget (k : Channel) (task : Nat) : Channel := { k with hist := k.hist.filter (fun h => h.1 != task) }

/-- Re-run a task: its staged writes are discarded, it keeps its holdings, its channels have no command of it since stage
entry, and it goes to the head of its level's queue (R213, R214, R317, R322, R388). -/
def State.rerunTask (s : State) (t : Task) : State :=
  let t' := { t with
    ended := [], fail := [], code := 0, poisoned := false, staged := [], reruns := t.reruns + 1
    queues := t.queues.map (fun q => { q with tokens := [], popAt := 0 }) }
  let s := { s with
    tasks := NMap.set s.tasks t.uid t'
    regions := match s.region t.region with
      | some g => NMap.set s.regions t.region { g with rtbLeft := g.rtbLeft - 1 }
      | none => s.regions }
  let s := s.logCat (clusterStop t.cluster) 3 8 t.dom t.inc (if t.tstg = 0 then 0 else 3 * 2 ^ 62 + t.sbase) 0 0
  (s.modCluster t.cluster (fun k => { k with
    queue := { uid := t.uid, level := t.pri } :: k.queue
    chans := k.chans.map (fun c => (if c.task = t.uid then { Channel.none with hist := c.hist } else c).forget t.uid) })).wantStart
    t.cluster

/-- TASK_END: the slots of ended stages are freed, and the task ends, fails or is re-run once nothing of
it remains; while work is outstanding the test is made again (R28, R357, R388, R416). -/
def taskEndEffect (s : State) : State :=
  let e := s.ev
  match NMap.get? s.tasks e.id with
  | none => s
  | some t =>
    let s := s.freeEnded t.cluster
    if s.taskOver t then (if s.rerunGranted t then s.rerunTask t else s.finishTask t)
    else if s.agenda.any (fun p => p.ev == .taskEnd && p.arg.id == e.id) then s
    else if !t.done && (s.outstanding t ||
        (s.cluster t.cluster).chans.any (fun k => k.busyFor t.uid)) then
      let next := ((s.agenda.filter (fun p => p.ev != .taskEnd)).map (·.time)).foldl Min.min (s.now + 16)
      s.post (Max.max (s.now + 1) next) .taskEnd e
    else s

/-- TASK_END (R28). -/
def execTaskEnd (s : State) : Host.Outcome State Fault Refusal := .next (taskEndEffect s)

end Sys2Proof.Machine
end

