-- ==== Sys2Proof/Machine/Preempt.lean ====
section
/-! DEFINITION. Park, resume, terminate, and the reading of a snapshot (R28, R137, R284, R330, R335, R346, R349, R350). -/

namespace Sys2Proof.Machine

/-! ### Requests to a target context (R346) -/

/-- Cycle in which a request of the bundle in issue reaches a target's sequencer (R346). -/
def State.targetAt (s : State) (w : W64) : Nat :=
  let cl := s.issue.cl
  if targetCl w = cl then s.now + 7 else s.now + 56 + 6 * hops (clusterStop cl) (clusterStop (targetCl w))

/-- Send a posted request to a target. -/
def State.sendTarget (s : State) (ev : Instr) (target image cctr : W64) : State :=
  let u := s.issue
  let c := s.issueCtx
  s.post (s.targetAt target) ev
    { EvArg.at u.cl u.cx 0 with
      target := { who := c.who u.cl u.cx, target := target, image := image, cctr := cctr, after := s.earlier u.cl u.cx } }

/-- CTX_PARK (R346). -/
def execCtxPark (a : BitVec 6) (s : State) : Host.Outcome State Fault Refusal :=
  .next (s.asBundle (.ctxPark a) (fun s => s.sendTarget .ctxParkAtTarget (s.opG a) 0 0))

/-- CTX_RESUME (R346). -/
def execCtxResume (a : BitVec 6) (s : State) : Host.Outcome State Fault Refusal :=
  .next (s.asBundle (.ctxResume a) (fun s => s.sendTarget .ctxResumeAtTarget (s.opG a) 0 0))

/-- SNAP_READ (R349). -/
def execSnapRead (a b c : BitVec 6) (s : State) : Host.Outcome State Fault Refusal :=
  .next (s.asBundle (.snapRead a b c) (fun s => s.askRegister c (s.targetAt (s.opG a)) 4 (s.opG a) (s.opG b)))

/-! ### Termination (R137, R284, R346) -/

/-- Deliver every record of a context that waits for its delivery (R341). -/
def State.flushRecords (s : State) (cl cx : Nat) : State :=
  let c := s.ctx cl cx
  let s := s.setCtx cl cx { c with pend := [], lastCls := (c.pend.getLast?.map (·.cls)).getD c.lastCls }
  c.pend.foldl (fun (s : State) r =>
    let s := if r.cls = 6 then s.poisonTask c.task else s
    s.deliverRecord (c.streamRecord r) (cl / 2)) s

/-- Withdraw the wait of a context that ends: its registration is cancelled, and no status is delivered (R137). -/
def State.withdrawWait (s : State) (cl cx : Nat) : State :=
  match (s.ctx cl cx).wait with
  | none => s
  | some w =>
    let s := s.sendCancel cl cx w.id
    let keep (a : Access) : Bool := a.id != w.id || (a.kind == .ctrArw && !a.performed)
    let s := s.modCtx cl cx (fun c => { c with wait := none, accs := c.accs.filter keep })
    { s with
      launches := s.launches.filter (fun l => !(l.who.cl == cl && l.who.cx == cx && l.waitId == w.id))
      port := { s.port with reclaims := s.port.reclaims.filter (fun r => r.waitId != w.id) } }

/-- End a context's stage as failed with a code: it is stopped at once, its snapshot and its queued commands are discarded
(a chunk in progress is finished), and its slot is freed when its outstanding work is done (R28, R137, R284, R330, R357). -/
def State.terminate (s : State) (cl cx code : Nat) : State :=
  let s := s.flushRecords cl cx
  let s := (s.releaseSeq cl cx).withdrawWait cl cx
  let c := s.ctx cl cx
  let busy (k : Nat) : Bool := match ((s.cluster cl).engine k).cur with
    | some (x, _) => x == cx
    | none => false
  let s := s.setCtx cl cx { c with
    occ := .ended, parked := true, held := none, snap := [], inflight := [], hold := none, gang := [], lq := [], ghosts := [], claims := 0
    accs := c.accs.filter (fun a => !a.performed)
    cores := (List.range 4).map (fun k =>
      let x := nth c.cores k .fresh
      { x with cmds := if busy k then x.cmds.take 1 else [] }) }
  let s := s.modTask c.task (fun t => { t.endStage c.stage 0 with fail := code :: t.fail })
  s.post (s.now + 1) .taskEnd (EvArg.at cl cx c.task)

/-! ### At the target (R346, R350) -/

/-- Judge a request at its target: whether it is current, and whether its target is in order; what is wrong is noted. -/
def State.judgeTarget (s : State) (r : TargetReq) (term : Bool) : Bool × State :=
  let t := clusterStop (targetCl r.target)
  if !s.currentWho t r.who then (false, s.dropStale t r.who.dom r.who.inc r.target.toNat)
  else
    let why := s.targetFault r.target r.who.dom term
    if why ≠ 0 then (false, s.logRefused t 8 r.who.dom r.who.inc r.target.toNat why) else (true, s)

/-- CTX_PARK_AT_TARGET: the target stops at its boundary and is parked, without a record (R330, R346). -/
def parkAtTargetEffect (s : State) : State :=
  let r := s.ev.target
  let x := s.judgeTarget r false
  if x.1 then x.2.stopCtx (targetCl r.target) (targetCx r.target) else x.2

/-- CTX_PARK_AT_TARGET (R346). -/
def execCtxParkAtTarget (s : State) : Host.Outcome State Fault Refusal := .next (parkAtTargetEffect s)

/-- CTX_RESUME_AT_TARGET: after a park that arrives with it (`Pending.rank`), a parked target is resumed, or with TERM its stage
ends as failed, with POISON when its latest record is of class 6 (R346, R350). -/
def resumeAtTargetEffect (s : State) : State :=
  let e := s.ev
  let r := e.target
  let x := s.judgeTarget r true
  let cl := targetCl r.target
  let cx := targetCx r.target
  let s := x.2
  if !x.1 || (s.ctx cl cx).occ != .resident || !(s.ctx cl cx).parked then s
  else if r.target.getLsbD 10 then
    let s := s.flushRecords cl cx
    s.terminate cl cx (if (s.ctx cl cx).lastCls = 6 then 4 else 7)
  else s.resumeCtx cl cx

/-- CTX_RESUME_AT_TARGET (R346). -/
def execCtxResumeAtTarget (s : State) : Host.Outcome State Fault Refusal := .next (resumeAtTargetEffect s)

end Sys2Proof.Machine
end

