-- ==== Sys2Proof/Machine/Image.lean ====
section
/-! DEFINITION. The context image as bytes: header, scalar section, core sections, task section (R279, R332, R336 to
R338, R343 to R345, R383, R434). -/

namespace Sys2Proof.Machine

/-- A part of an image: its offset and its bytes. Bytes no part gives are zero. -/
abbrev Section := Nat × List Byte

/-- A dword at an offset. -/
def dwordAt (o v : Nat) : Section := (o, leBytes 8 v)

/-- Size of the base part (R343). -/
def imageBase : Nat := 0x101000

/-- Bytes of a task's storage on one core in an image (R345). -/
def taskBlock (tfr nsh tsp : Nat) : Nat := (tfr * 3136 + nsh * 66560 + tsp * 16384 + 65535) / 65536 * 65536

/-- Size of an image (R343, R345). -/
def imageSize (kind : Nat) (tfr nsh tsp : Nat) : Nat :=
  if kind = 0 then imageBase else imageBase + 0x1000 + 4 * taskBlock tfr nsh tsp

/-! ### Header and scalar section (R343, R344, R383, R434) -/

/-- Bits n = pn, n = 1 to 7 (R344). -/
def predWord (p : BitVec 8) : Nat := p.toNat / 2 * 2

/-- Code of a load-queue entry (R344). -/
def LqState.code : LqState → Nat
  | .waiting | .expired => 1
  | .arrived => 0
  | .poisoned => 2
  | .denied => 3

/-- Segment state (R383). -/
def Segment.word (g : Segment) : Nat :=
  g.bound % 2 ^ 16 + (if g.chk then 2 ^ 16 else 0) + g.sig.toNat * 2 ^ 32 + g.crc.toNat * 2 ^ 48

/-- Wait record of a context under eviction, whose wait holds in `deadline` the cycles that remained at the stop (R434). -/
def Ctx.waitRecord (c : Ctx) : List Nat :=
  match c.wait, c.held with
  | some w, _ =>
    let rstat := (w.rstat.map (·.toNat)).getD 0xFF
    [rstat * 2 ^ 16 + w.arr * 2 ^ 8 + kop w.kword, w.kword.toNat, w.s0, if w.d = 0 then 0 else w.deadline
      , if w.d = 0 then w.deadline else 0, (nth w.ops 0 0).toNat, (nth w.ops 1 0).toNat, (nth w.ops 2 0).toNat]
  | none, some h => [0xFF0080, 0, 0, h.budget, 0, 0, 0, 0]
  | none, none =>
    if c.heldEnd = 0 then [0xFF0000, 0, 0, 0, 0, 0, 0, 0]
    else [0xFF0080, 0, 0, if c.heldEnd = 1 then c.mdl.toNat else c.heldEnd - 3, 0, 0, 0, 0]

/-- Dwords of ports and latches, in the order of R344. -/
def Ctx.portWords (c : Ctx) : List W64 :=
  [c.alu0.o, c.alu0.o2, c.alu0.q, c.alu1.o, c.alu1.o2, c.alu1.q, c.prd.o, c.prd.o2, c.prd.q, c.mul.o, c.mul.o2, c.mul.q,
    c.mul.qh, c.lsu.o, c.lsu.o2, c.lsu.dl, c.lsu.sc, c.lsu.cmp, c.lsu.hi]

/-- Number the entries of a list from 0. -/
def numbered {α : Type} (l : List α) : List (Nat × α) := (List.range l.length).zip l

/-- Parts of the header and of the scalar section (R343, R344). -/
def Ctx.scalarParts (c : Ctx) (kind size region nstg : Nat) (now : Nat) : List Section :=
  let words (o : Nat) (l : List Nat) : List Section := (numbered l).map (fun e => dwordAt (o + 8 * e.1) e.2)
  words 0
      [2 ^ 40 + kind * 2 ^ 32 + size, c.sctx.toNat, c.pc.toNat, c.pbase.toNat, (c.ccy now).toNat
        , region + (nstg - 1) * 2 ^ 16, c.arg.toNat, c.grid.toNat, c.pkt.toNat] ++
    words 0x100 (c.g.map (·.toNat)) ++
    words 0x300 [c.full.toNat, c.expd.toNat, predWord c.p] ++
    words 0x318 (c.lx.map (·.toNat)) ++
    [dwordAt 0x348 (c.loops.length + c.links.length * 2 ^ 8)] ++
    (numbered c.loops).map (fun e => (0x350 + 16 * e.1,
      leBytes 8 e.2.start.toNat ++ leBytes 4 e.2.rem ++ leBytes 4 e.2.max)) ++
    words 0x3B0 (c.links.map (·.toNat)) ++
    words 0x3F0 [c.stat.toNat, c.fflg.toNat, c.sl.toNat, c.seed.toNat, c.mdl.toNat, c.rrb.toNat, c.scc.toNat] ++
    words 0x430 (c.portWords.map (·.toNat)) ++
    words 0x4D0 [c.key0.toNat, c.key1.toNat, c.draw.toNat % 2 ^ 64, c.draw.toNat / 2 ^ 64] ++
    [dwordAt 0x4F0 c.lq.length] ++
    (numbered c.lq).map (fun e => (0x4F8 + 16 * e.1, leBytes 8 e.2.value.toNat ++ leBytes 8 e.2.state.code)) ++
    words 0x6F8 c.waitRecord ++
    words 0x738 [c.pass, c.seg.count, c.seg.word, c.streak, c.streakAt.toNat, c.claims.toNat]

/-! ### Core sections (R332, R336 to R338, R344) -/

/-- A number of bits as bytes. -/
def leBits (n : Nat) (v : Nat) : List Byte := leBytes (n / 8) v

/-- The 1,088 bytes of a snapshot entry (R332). -/
def SnapEntry.bytes (x : SnapEntry) (k e : Nat) : List Byte :=
  let lanes := (((nth x.l.vec k .zero).lanes.drop (256 * x.qtr)).take 256).flatMap bytesOfWord
  let m := nth x.l.lmask k 0
  let mask := match x.l.dest with
    | .vreg _ => m.toNat / 2 ^ (256 * x.qtr) % 2 ^ 256
    | _ => 2 ^ 256 - 1
  let data := match x.l.dest with
    | .vreg _ => lanes
    | .mask _ => leBits 1024 (nth x.l.masks k 0).toNat
    | _ => (nth x.l.codes k []) ++ [x.l.target.setWidth 8]
  leBytes 8 (x.dword0 k e).toNat ++ leBytes 8 0 ++ leBits 256 mask ++ data

/-- CUR of a command (R337). -/
def Cursor.word (c : Cursor) : Nat :=
  c.pos % 2 ^ 16 * 2 ^ 48 + c.sub * 2 ^ 46 + c.tbit * 2 ^ 29 + (if c.pv then 2 ^ 28 else 0) + c.state * 2 ^ 8 + c.cause

/-- The 64 bytes of a stream command (R336). -/
def StreamCmd.bytes (c : StreamCmd) : List Byte :=
  let d0 := c.cidx.toNat * 2 ^ 32 + c.flags.toNat * 2 ^ 24 + c.op.toNat * 2 ^ 18 + c.m * 2 ^ 13 +
    (if c.dv then 2 ^ 12 + c.dest.toNat * 2 ^ 6 else 0)
  leBytes 8 d0 ++ leBytes 8 c.seed.toNat ++ leBytes 8 c.cur.word ++
    (List.range 4).flatMap (fun i => leBytes 8 (nth c.opnd i 0).toNat) ++ leBytes 8 0

/-- Bytes of a vector register (R344). -/
def VReg.bytes (v : VReg) : List Byte := v.lanes.flatMap bytesOfWord

/-- A command quantises vector rows: sq4, sq8 (R336). -/
def StreamCmd.quantises (c : StreamCmd) : Bool := c.op == 0x0D || c.op == 0x0E

/-- A command quantises under rsr, so that its entry has a key (R336). -/
def StreamCmd.keyed (c : StreamCmd) : Bool := c.quantises && c.flags.toNat / 32 % 4 == 2

/-- Parts of the core section of gang position `k` (R344). -/
def Ctx.coreParts (c : Ctx) (k : Nat) : List Section :=
  let o := 0x1000 + 0x40000 * k
  let x := nth c.cores k .fresh
  let cmds := numbered x.cmds
  let snap := c.snapEntries k
  (numbered x.v).filterMap (fun e => if e.2 = .zero then none else some (o + 4096 * e.1, e.2.bytes)) ++
    (numbered x.k).map (fun e => (o + 0x10000 + 128 * e.1, leBits 1024 e.2.toNat)) ++
    [dwordAt (o + 0x10180) x.fflg.toNat, dwordAt (o + 0x10188) (x.sq.length + x.sqres * 2 ^ 32), (o + 0x10190, x.sq)
      , (o + 0x101D0, x.bypass ++ [x.target.setWidth 8])
      , dwordAt (o + 0x101E8) (x.stopX.toNat + x.stopY.toNat * 2 ^ 8 + x.theta.toNat * 2 ^ 32)
      , dwordAt (o + 0x101F0) x.stopRec.toNat] ++
    cmds.map (fun e => (o + 0x10400 + 64 * e.1, e.2.bytes)) ++
    (match x.cmds with
      | cmd :: _ =>
        if cmd.cur.pv then
          (numbered cmd.part).map (fun e => dwordAt (o + 0x10800 + 8 * e.1) (BitVec.ofInt 64 e.2).toNat)
        else []
      | [] => []) ++
    [dwordAt (o + 0x14800) snap.length] ++
    (numbered snap).map (fun e => (o + 0x14840 + 1088 * e.1, e.2.bytes k e.1)) ++
    (cmds.filter (fun e => e.2.quantises)).flatMap (fun e =>
      [(o + 0x2F000 + 4096 * e.1, e.2.rows.bytes), (o + 0x3F000 + 16 * e.1, e.2.codes)]) ++
    (cmds.filter (fun e => e.2.keyed)).map (fun e =>
      (o + 0x3F100 + 16 * e.1, leBytes 8 e.2.key0.toNat ++ leBytes 8 e.2.key1.toNat))

/-! ### Task section (R279, R345) -/

/-- A folio row as bytes (R279). -/
def FolioRow.bytes (r : FolioRow) : List Byte := r.f.flatMap (fun v => leBytes 12 v.toNat) ++ leBytes 2 r.b.toNat

/-- Bytes of a channel record (R345). -/
def Channel.record (k : Channel) : List Byte :=
  leBytes 8 (k.state * 2 ^ 60 + k.sc.toNat * 2 ^ 34 + k.len) ++ leBytes 8 k.src.toNat ++ leBytes 8 k.dst.toNat ++
    leBytes 8 k.cctr.toNat ++ leBytes 8 k.wp ++ leBytes 8 k.faultVa.toNat

/-- A channel as its latest command of a task left it: the command itself, or the end state of one that another task's has
followed (R224, R345). -/
def Channel.ofTask (k : Channel) (task : Nat) : Option Channel :=
  if k.task = task then (if k.state = 0 then none else some k)
  else (k.hist.find? (fun h => h.1 == task)).map (fun h => { Channel.none with state := h.2, task := task })

/-- Where each queue's tokens begin among the tokens (R345). -/
def tokenHeads (q : List StageQ) : List Nat :=
  (q.foldl (fun r x => (r.1 ++ [r.2], r.2 + x.tokens.length)) (([] : List Nat), 0)).1

/-- Place of core `k`'s block in an image (R345). -/
def blockAt (tfr nsh tsp k : Nat) : Nat := imageBase + 0x1000 + k * taskBlock tfr nsh tsp

/-- Place of a task's scratchpad page `n` of core `k` in its image, and the key of the page (R82, R345). -/
def Task.pageAt (t : Task) (k n : Nat) : Nat × Nat :=
  (blockAt t.tfr t.nsh t.tsp k + t.tfr * 3136 + t.nsh * 66560 + n * 16384,
    scratchKey t.cluster k ((t.spbase + n) * 16384))

/-- Parts of a core's block: folio rows, shelves, scratchpad pages (R345). -/
def State.blockParts (s : State) (t : Task) (k : Nat) : List Section :=
  let o := blockAt t.tfr t.nsh t.tsp k
  let cl := s.cluster t.cluster
  let sh := o + t.tfr * 3136
  let pages := (List.range t.tsp).map (fun n => ((t.pageAt k n).1, s.readN (t.pageAt k n).2 16384))
  (List.range t.tfr).filterMap (fun n =>
      (NMap.get? cl.folio (k * 512 + t.frow + n)).map (fun r => (o + n * 3136, r.bytes))) ++
    (List.range t.nsh).flatMap (fun n =>
      match NMap.get? cl.shelves (k * 8 + t.shelf + n) with
      | none => []
      | some x =>
        x.codes.map (fun e => (sh + n * 66560 + e.1, [e.2])) ++ x.scales.map (fun e => (sh + n * 66560 + 65536 + e.1, [e.2]))) ++
    pages.filter (fun p => p.2.any (· != 0))

/-- Parts of the task section (R345). -/
def State.taskParts (s : State) (t : Task) : List Section :=
  let o := imageBase
  let words (a : Nat) (l : List Nat) : List Section := (numbered l).map (fun e => dwordAt (a + 8 * e.1) e.2)
  words o [t.index, t.nsh, t.tsp, t.tfr, if t.tstg = 0 then 0 else 3 * 2 ^ 62 + t.sbase, t.tstg, 0] ++
    (numbered (s.cluster t.cluster).chans).filterMap (fun e =>
      (e.2.ofTask t.uid).map (fun k => (o + 0x100 + 64 * e.1, k.record))) ++
    words (o + 0x500) ((t.queues.zip (tokenHeads t.queues)).map (fun e => e.2 + e.1.tokens.length * 2 ^ 32)) ++
    words (o + 0x580) (t.queues.flatMap (fun q => q.tokens.map (fun v => v.2.toNat))) ++
    (List.range 4).flatMap (s.blockParts t)

/-! ### Pages of an image (R343, R366, R369, R387) -/

/-- Core whose buffer the page at an offset of an image is looked up in: its section's, or its block's (R343, R345, R369). -/
def imageCore (tb o : Nat) : Nat :=
  Min.min 3 (if o < imageBase then (o - 0x1000) / 0x40000 else (o - imageBase - 0x1000) / Max.max 1 tb)

/-- A core has looked an address up: on a miss the second-level buffer of its die is asked, and fills the core's (R369). -/
def State.coreTouch (s : State) (cl k : Nat) (d : BitVec 8) (va : Nat) : State :=
  if (tlbFind (nth (s.cluster cl).tlbs (1 + k) []) d va).isSome then s
  else
    let s := s.touch (cl / 2) d va
    match tlbFind (s.tlb2 (cl / 2)) d va with
    | some e => s.modCluster cl (fun c => { c with tlbs := c.tlbs.modify (1 + k) (fun l => tlbAdd (tlbCap (1 + k)) l e) })
    | none => s

/-- Pages of an image at an address of a domain, each with its length; none where one does not serve (R343, R366, R369). -/
def State.imagePages (s : State) (cl : Nat) (d : BitVec 8) (va : W64) (size tb : Nat) (ok : W64 → Bool) :
    Option (List (Nat × Nat)) × State :=
  if va.toNat % 65536 ≠ 0 ∨ !globalOk va ∨ 2 ^ 52 < va.toNat + size then (none, s)
  else
    (pagesOf 0 size).foldl (fun (r : Option (List (Nat × Nat)) × State) p =>
      match r with
      | (none, s) => (none, s)
      | (some ps, s) =>
        let k := imageCore tb p.1
        let s := s.coreTouch cl k d (va.toNat + p.1)
        let bufs := nth (s.cluster cl).tlbs (1 + k) [] ++ s.tlb2 (cl / 2)
        ((s.resolve bufs d (va + BitVec.ofNat 64 p.1) p.2 ok).map (fun x => ps ++ x), s)) (some [], s)

/-- Key of a byte of an image whose pages are known. -/
def imageKey (ps : List (Nat × Nat)) (o : Nat) : Nat := (nth ps (o / 65536) (0, 0)).1 + o % 65536

/-- Sectors of a range that hold poison, by their distance from its beginning (R378, R387). -/
def State.badSectors (s : State) (a n : Nat) : List Nat :=
  ((sectorsOf a n).filter (fun x => s.poisonedAt (32 * x) 32)).map (fun x => 32 * x - a)

/-- Decode the sectors of a range that are not clean (R377). -/
def State.settleListed (s : State) (a n : Nat) : State :=
  ((s.syn.filter (fun e => decide (a ≤ 32 * e.1) && decide (32 * e.1 < a + n))).map (·.1)).foldl State.settleSector s

/-! ### Writing (R343, R347) -/

/-- Bytes of a range whose pages are known, at an offset of the image. -/
def State.putPart (s : State) (ps : List (Nat × Nat)) (x : Section) : State :=
  ((pagesOf x.1 x.2.length).foldl (fun (r : State × List Byte) p =>
    let a := imageKey ps p.1
    (if r.1.retiredAt a then r.1 else r.1.writeN a (r.2.take p.2), r.2.drop p.2)) (s, x.2)).1

/-- Write an image onto its pages: zero where no part gives a byte, every sector clean; what a retired frame drops leaves one
entry (R344, R378, R387). -/
def State.putImage (s : State) (ps : List (Nat × Nat)) (parts : List Section) : State :=
  parts.foldl (fun s x => s.putPart ps x)
    (ps.foldl (fun (s : State) p =>
      if s.retiredAt p.1 then s.logCat (homeStop p.1) 3 (homeSrc p.1) 0 0 p.1 0 0 else s.scrub p.1 p.2) s)

/-- Pages of a task's scratchpads: core and page. -/
def Task.pagesOn (t : Task) : List (Nat × Nat) :=
  (List.range 4).flatMap (fun k => (List.range t.tsp).map (fun n => (k, n)))

/-- A task's storage is read for its image: its sectors are decoded, and an error that stands in a row or a shelf and cannot be
corrected poisons the task (R377, R379; log 86). -/
def State.readStorage (s : State) (t : Task) : State :=
  let s := t.pagesOn.foldl (fun (s : State) p => s.settleListed (t.pageAt p.1 p.2).2 16384) s
  if (s.cluster t.cluster).errs.any (fun e => t.owns e.place && !e.single) then s.poisonTask t.uid else s

/-- The image of a task's scratchpads has poison where they do: DESIGN CHOICE, no rule says what a poisoned sector becomes in an
image (R378, R387, log 52). -/
def State.poisonImage (s : State) (ps : List (Nat × Nat)) (t : Task) : State :=
  t.pagesOn.foldl (fun (s : State) p =>
    let x := t.pageAt p.1 p.2
    (s.badSectors x.2 16384).foldl (fun s o => s.poisonSector (imageKey ps (x.1 + o) / 32)) s) s

/-! ### Reading (R348) -/

/-- Bytes from an address up, 0 where their sector is poisoned. -/
def State.readSound (s : State) (a n : Nat) : List Byte :=
  if (s.badSectors a n).isEmpty then s.readN a n
  else (List.range n).map (fun i => if s.poisonedAt (a + i) 1 then 0 else memGet s.mem (a + i))

/-- Read part of an image from its pages. -/
def State.getPart (s : State) (ps : List (Nat × Nat)) (o n : Nat) : List Byte :=
  (pagesOf o n).flatMap (fun p => s.readSound (imageKey ps p.1) p.2)

end Sys2Proof.Machine
end

