-- ==== Sys2Proof/Machine/Evict.lean ====
section
/-! DEFINITION. ctx.evict: the stop, the cancelled wait, the drain, and the image (R135, R329, R334, R335, R345, R347,
R350, R434). -/

namespace Sys2Proof.Machine

/-- CTX_EVICT: a posted request to its target (R347). -/
def execCtxEvict (a b c : BitVec 6) (s : State) : Host.Outcome State Fault Refusal :=
  .next (s.asBundle (.ctxEvict a b c) (fun s => s.sendTarget .ctxEvictAtTarget (s.opG a) (s.opG b) (s.opG c)))

/-- The completion add of an eviction or a load, in the issuer's domain (R347, R348). -/
def State.finishRequest (s : State) (r : TargetReq) (ok : Bool) : State :=
  let x := s.deviceAdd (targetCl r.target / 2) r.who.dom r.cctr (if ok then 1 else 1 + 2 ^ 48)
  if x.1 then x.2 else x.2.logRefused (clusterStop (targetCl r.target)) 8 r.who.dom r.who.inc r.cctr.toNat 1

/-- A request that failed: an entry with the place of the condition, and the failure add (R347, R348). -/
def State.refuseRequest (s : State) (r : TargetReq) (addr why : Nat) : State :=
  (s.logRefused (clusterStop (targetCl r.target)) 8 r.who.dom r.who.inc addr why).finishRequest r false

/-- Every other stage of a task has ended, or has been evicted (R345). -/
def Task.othersGone (t : Task) (stage : Nat) : Bool :=
  (List.range t.nstg).all (fun j => j == stage || t.ended.contains j || t.evicted.any (fun e => e.2.1 == j))

/-- Pages of the image that an eviction writes, in the issuer's domain (R347, R366). -/
def State.evictPages (s : State) (r : TargetReq) (t : Task) (kind : Nat) : Option (List (Nat × Nat)) × State :=
  s.imagePages (targetCl r.target) r.who.dom r.image (imageSize kind t.tfr t.nsh t.tsp) (taskBlock t.tfr t.nsh t.tsp) leafDeviceW

/-- Cancel what a blocked context has registered elsewhere, and keep the budget that remains (R130, R135). A counter read
is only sent again after the restore. -/
def State.cancelForEviction (s : State) (cl cx : Nat) : State :=
  let c := s.ctx cl cx
  match c.wait with
  | none => s
  | some w =>
    let s := match w.kind with
      | .ctrWait | .ctrArw | .ctrRead => if w.cancelSent then s else s.sendCancel cl cx w.id
      | _ => s
    let s := { s with
      launches := s.launches.filter (fun l => !(l.who == c.who cl cx && l.waitId == w.id))
      agenda := s.agenda.filter (fun (p : Pending) =>
        !((p.ev == Instr.launchEnqueue && p.arg.launch.who == c.who cl cx && p.arg.launch.waitId == w.id) ||
          (p.ev == Instr.reclaimAtController && p.arg.id == w.id)))
      port := { s.port with reclaims := s.port.reclaims.filter (fun r => r.waitId != w.id) } }
    s.modCtx cl cx (fun c => { c with wait := some { w with deadline := w.deadline - s.now, rstat := none } })

/-- Wait form of a K-slot operation number (R173). -/
def waitKindOf (op : Nat) : Option WaitKind :=
  match op with
  | 0x03 => some .wpwait
  | 0x0A => some .ctrRead
  | 0x0B => some .ctrWait
  | 0x0C => some .ctrArw
  | 0x10 => some .fence
  | 0x11 => some .qsend
  | 0x12 => some .qrecv
  | 0x1A => some .launch
  | 0x25 => some .reclaim
  | 0x26 => some .tlbInv
  | _ => none

/-- What a wait record says (R434), and what the device keeps beside it: the value that came with a status received, and the
offset of the waiting bundle, which an ESCALATE record names (R133; DESIGN CHOICE, log 52). -/
structure WaitRecord where
  op : Nat
  arr : Nat
  rstat : Nat
  kword : W32
  s0 : Nat
  bud : Nat
  alw : Nat
  ops : List W64
  rval : W64
  bpc : BitVec 30
  deriving DecidableEq, Repr

/-- The record of a wait under eviction. -/
def Wait.record (w : Wait) : WaitRecord :=
  { op := kop w.kword, arr := w.arr, rstat := (w.rstat.map (·.toNat)).getD 0xFF, kword := w.kword, s0 := w.s0
    bud := if w.d = 0 then 0 else w.deadline, alw := if w.d = 0 then w.deadline else 0, ops := w.ops
    rval := w.rval, bpc := w.bpc }

/-- Send a wait again from its record with the budget that remains: a status received during the cancel is delivered,
a ctr.arw that had arrived goes on as a ctr.wait, every other form is evaluated anew (R135, R434). -/
def State.reissueWait (s : State) (cl cx : Nat) (r : WaitRecord) : State :=
  match waitKindOf r.op with
  | none => s
  | some asked =>
    let kind := if asked = .ctrArw ∧ r.arr = 1 then .ctrWait else asked
    let c := s.ctx cl cx
    let id := s.uid
    let k := r.kword
    let gc := (k.extractLsb' 8 6).toNat
    let gval := match kind with
      | .ctrRead | .qrecv => some (k.extractLsb' 14 6).toNat
      | _ => none
    let budget := if r.bud = 0 then r.alw else r.bud
    let sc : BitVec 2 := if kind = .wpwait then k.extractLsb' 4 2 else k.extractLsb' 0 2
    let w : Wait :=
      { id := id, kind := kind, kword := k, s0 := r.s0, d := r.bud, gc := gc, gval := gval, tokC := id, tokV := id + 1
        ops := r.ops, esc := k.getLsbD 7, scope := sc, bpc := r.bpc, covers := s.earlier cl cx, upto := c.scc
        cancelSent := false, reset := false, arr := r.arr, rstat := none, rval := 0, mask := none, deadline := s.now + budget, sent := false }
    let s := { s with uid := id + 2, issue := { Issue.none with cl := cl, cx := cx, pc := r.bpc } }
    let s := s.modCtx cl cx (fun c =>
      let c := { (c.emptyG gc id) with wait := some w }
      match gval with
      | some v => c.emptyG v (id + 1)
      | none => c)
    let o (n : Nat) : W64 := nth r.ops n 0
    let s := s.post (w.deadline + 1) .waitDeadlineExpire (EvArg.at cl cx id)
    let s := if kind = .fence then s.post w.deadline .waitDeadlineExpire { EvArg.at cl cx id with n := 1 } else s
    let s :=
      if r.rstat ≠ 0xFF then
        s.post (s.now + 1) .waitComplete
          { EvArg.at cl cx id with
            n := 1, status := BitVec.ofNat 8 r.rstat, v := r.rval, m := if kind = .fence ∧ r.rstat = 0 then 2 ^ 20 - 1 else 0 }
      else match kind with
        | .ctrRead => s.counterAccess id .ctrRead (o 0) 0 0 sc r.bud none
        | .ctrWait => s.counterAccess id .ctrWait (o 0) (if asked = .ctrArw then o 2 else o 1) 0 sc r.bud none
        | .ctrArw => s.counterAccess id .ctrArw (o 0) (o 1) (o 2) sc r.bud none
        | .reclaim => s.post (s.now + 6) .reclaimAtController { EvArg.at cl cx id with n := 2, who := c.who cl cx }
        | .tlbInv => s.sendTlbInv cl cx w (c.who cl cx)
        | _ => s.post (s.now + 6) .waitComplete (EvArg.at cl cx id)
    { s with issue := .none }

/-- Registers that may still await a result when the image is written: those of the cancelled wait, and those of stream
commands (R434). -/
def Ctx.mayAwait (c : Ctx) (reg tok : Nat) : Bool :=
  (match c.wait with
    | some w => (reg == w.gc && tok == w.tokC) || (w.gval == some reg && tok == w.tokV)
    | none => false) || c.gang.any (fun g => g.reg == reg && g.token == tok)

/-- Everything an eviction waits for is there: loads and answers have come, stores have left, results have landed, rows have moved, engines have finished
their chunks, records are delivered, cancels are answered (R135, R329, R344, R347, R434). -/
def State.drainedForEviction (s : State) (cl cx : Nat) : Bool :=
  let c := s.ctx cl cx
  let own (a : Access) : Bool := c.wait.any (fun w => w.id == a.id)
  let mine (p : Pending) : Bool :=
    ((p.ev == .responseAtSlot || p.ev == .deferredFault || p.ev == .contextStop) && p.arg.who == c.who cl cx) ||
      (p.ev == .waitCancelAtHome && p.arg.cl == cl && p.arg.cx == cx && p.arg.who == c.who cl cx)
  c.accs.all (fun a => own a && (a.performed || a.kind == .ctrRead || a.kind == .ctrWait)) && c.inflight.isEmpty && c.pend.isEmpty &&
    c.hold.isNone && !s.rowsLeft cl cx && c.cores.all (fun k => k.late.all (fun x => decide (x.1 ≤ s.now))) &&
    c.await.all (fun e => c.mayAwait e.1 e.2) && !s.agenda.any mine &&
    (s.cluster cl).engines.all (fun e => match e.cur with
      | some (x, _) => x != cx
      | none => true)

/-- No other stage of the task has ended with work that is not done. -/
def State.othersFreed (s : State) (cl cx : Nat) : Bool :=
  (List.range 8 ++ s.shadows cl).all (fun x => x == cx || (s.ctx cl x).occ != .ended || (s.ctx cl x).task != (s.ctx cl cx).task)

/-- Copy commands of a task are stopped between steps: an abort on its way takes effect, window writes are answered
(R345). -/
def State.settleCopies (s : State) (cl uid : Nat) : State :=
  (List.range 16).foldl (fun (s : State) n =>
    match (s.cluster cl).chan n with
    | some k => if k.task = uid ∧ (k.state = 1 ∨ k.state = 2) ∧ k.abortAt.isSome then s.endCopy cl n k 4 else s
    | none => s) s

/-- Take the copy commands of a task off its cluster's channels; what an image has no field for is kept by the device (R342,
R345; log 52). -/
def State.takeCopies (s : State) (cl : Nat) (t : Task) : State × Task :=
  let taken := (numbered (s.cluster cl).chans).filterMap (fun e => (e.2.ofTask t.uid).map (fun k => (e.1, k)))
  (s.modCluster cl (fun k => { k with
    chans := k.chans.map (fun c => (if c.task = t.uid then { Channel.none with hist := c.hist } else c).forget t.uid) }),
    { t with kchans := taken })

/-- Write the image, free the slot, and for KIND 1 the storage; the stage is recorded as evicted, with its state as the device
keeps it beside the image, or has ended where its incarnation has passed in the meantime (R345, R347, R348, R351, R357; log 52). -/
def State.writeImage (s : State) (r : TargetReq) (cl cx kind : Nat) (ps : List (Nat × Nat)) : State :=
  let s := s.settleRows cl
  let s := if kind = 1 then s.readStorage (s.task (s.ctx cl cx)) else s
  let c := s.ctx cl cx
  let t := s.task c
  let size := imageSize kind t.tfr t.nsh t.tsp
  let parts := c.scalarParts kind size t.region t.nstg s.now ++ (List.range 4).flatMap c.coreParts ++
    (if kind = 1 then s.taskParts t else [])
  let s := s.putImage ps parts
  let s := if kind = 1 then s.poisonImage ps t else s
  let live := s.currentWho (clusterStop cl) (c.who cl cx)
  let s := s.setCtx cl cx { Ctx.empty with serial := c.serial }
  let t := if live then { t with evicted := (wbits c.sctx 63 32, c.stage, c.inc) :: t.evicted }
    else { t.endStage c.stage 0 with fail := 3 :: t.fail }
  let s := if live then { s with kept := NMap.set s.kept (8 * t.uid + c.stage) c } else s
  let x := if kind = 1 then (let y := s.takeCopies cl t; y.1.takeCluster y.2) else (s, t)
  let s := { x.1 with tasks := NMap.set x.1.tasks t.uid x.2 }
  ((s.finishRequest r true).pollTask t.uid).wakeStarts

/-- An image that can no longer be written: its context stays, parked, with its wait sent again; one whose incarnation has
passed is ended (R347, R357). -/
def State.keepEvicted (s : State) (r : TargetReq) (cl cx : Nat) : State :=
  let c := s.ctx cl cx
  let s := if !s.currentWho (clusterStop cl) (c.who cl cx) then s.terminate cl cx 3
    else
      let s := s.setCtx cl cx { c with occ := .resident }
      match c.wait with
      | some w => s.reissueWait cl cx w.record
      | none => s
  s.refuseRequest r r.image.toNat 4

/-- CTX_EVICT_AT_TARGET: the request is judged, its target stops and its wait is cancelled; with `n` = 1 the drain is
looked at again, and the image is written when it is complete (R347, R350). -/
def evictAtTargetEffect (s : State) : State :=
  let e := s.ev
  let r := e.target
  let cl := targetCl r.target
  let cx := targetCx r.target
  let c := s.ctx cl cx
  let again (s : State) : State := s.post (s.now + 1) .ctxEvictAtTarget { e with n := 1, who := c.who cl cx }
  if e.n = 0 then
    let t := clusterStop cl
    if !s.currentWho t r.who then s.dropStale t r.who.dom r.who.inc r.target.toNat
    else
      let why := s.targetFault r.target r.who.dom false
      let task := s.task c
      let kind := if task.othersGone c.stage then 1 else 0
      if why ≠ 0 ∨ c.occ ≠ .resident then s.refuseRequest r r.target.toNat (if why = 0 then 1 else why)
      else if r.image.toNat % 65536 ≠ 0 then s.refuseRequest r r.image.toNat 3
      else match s.evictPages r task kind with
        | (none, s) => s.refuseRequest r r.image.toNat 4
        | (some _, s) =>
          again (((s.stopCtx cl cx).modCtx cl cx (fun c => { c with occ := .evicting })).cancelForEviction cl cx)
  else if c.occ ≠ .evicting ∨ !c.tagged e.who then s
  else if !s.drainedForEviction cl cx || !s.othersFreed cl cx then again s
  else
    let task := s.task c
    let kind := if task.othersGone c.stage then 1 else 0
    let s := if kind = 1 then s.settleCopies cl task.uid else s
    if kind = 1 && (s.cluster cl).chans.any (fun k => k.task == task.uid && !k.unanswered.isEmpty) then again s
    else match s.evictPages r task kind with
      | (some ps, s) => s.writeImage r cl cx kind ps
      | (none, s) => s.keepEvicted r cl cx

/-- CTX_EVICT_AT_TARGET (R347). -/
def execCtxEvictAtTarget (s : State) : Host.Outcome State Fault Refusal := .next (evictAtTargetEffect s)

end Sys2Proof.Machine
end

