-- ==== Sys2Proof/Machine/Load.lean ====
section
/-! DEFINITION. ctx.load: the conditions under which a load fails, and what a load restores from the bytes of an image
(R82, R135, R279, R315, R332, R336 to R338, R343 to R345, R348, R383, R410, R434). -/

namespace Sys2Proof.Machine

/-- CTX_LOAD: a posted request to its target (R348). -/
def execCtxLoad (a b c : BitVec 6) (s : State) : Host.Outcome State Fault Refusal :=
  .next (s.asBundle (.ctxLoad a b c) (fun s => s.sendTarget .ctxLoadPerform (s.opG b) (s.opG a) (s.opG c)))

/-! ### Reading the image (R343 to R345) -/

/-- An image in memory: its pages. -/
structure ImageAt where
  pages : List (Nat × Nat)
  deriving DecidableEq, Repr

/-- A number of `n` bytes at an offset. -/
def State.imgN (s : State) (m : ImageAt) (o n : Nat) : Nat := leNat (s.getPart m.pages o n)

/-- The dword at an offset. -/
def State.img (s : State) (m : ImageAt) (o : Nat) : Nat := s.imgN m o 8

/-- `n` dwords from an offset on. -/
def State.imgs (s : State) (m : ImageAt) (o n : Nat) : List W64 := dwordsOf n (s.getPart m.pages o (8 * n))

/-- Words of a vector register. -/
def VReg.ofBytes (bs : List Byte) : VReg :=
  { lanes := (List.range 1024).map (fun i => BitVec.ofNat 32 (leNat ((bs.drop (4 * i)).take 4))) }

/-- Header fields (R343). -/
structure ImageHead where
  kind : Nat
  size : Nat
  fmt : Nat
  reserved : Bool
  ctx : W64
  pc : BitVec 30
  pbase : W64
  ccy : W64
  region : Nat
  nstg : Nat
  arg : W64
  grid : W64
  pkt : W64
  deriving DecidableEq, Repr

/-- Read the header from its 256 bytes (R343). -/
def ImageHead.ofBytes (bs : List Byte) : ImageHead :=
  let w := dwordsOf 32 bs
  let x (n : Nat) : W64 := nth w n 0
  { kind := wbits (x 0) 39 32, size := wbits (x 0) 31 0, fmt := wbits (x 0) 47 40
    reserved := wbits (x 0) 63 48 != 0 || wbits (x 5) 63 19 != 0 || (w.drop 9).any (· != 0)
    ctx := x 1, pc := (x 2).setWidth 30, pbase := x 3, ccy := x 4, region := wbits (x 5) 15 0
    nstg := wbits (x 5) 18 16 + 1, arg := x 6, grid := x 7, pkt := x 8 }

/-- Header of the task section (R345): index, NSH, TSP, TFR, staging base and size. -/
structure TaskHead where
  index : Nat
  nsh : Nat
  tsp : Nat
  tfr : Nat
  sbase : Nat
  tstg : Nat
  deriving DecidableEq, Repr

/-- Read the header of the task section; an image of KIND 0 has none (R345). -/
def State.imgTask (s : State) (m : ImageAt) (kind : Nat) : TaskHead :=
  let w := if kind = 1 then s.imgs m imageBase 6 else []
  let x (n : Nat) : Nat := (nth w n 0).toNat
  { index := x 0, nsh := x 1, tsp := x 2, tfr := x 3, sbase := x 4 % 2 ^ 31, tstg := x 5 }

/-! ### Whether an image may be loaded (R348) -/

/-- The stage that an image names by its CTX: task index, stage, incarnation (R348). -/
def ImageHead.named (h : ImageHead) : Nat × Nat × BitVec 10 := (wbits h.ctx 63 32, wbits h.ctx 31 29, targetInc h.ctx)

/-- The task an image belongs to: of the packet at PKT and the domain of CTX, one that records the stage as evicted, or else
one with the index of CTX. -/
def State.taskOfImage (s : State) (h : ImageHead) : Option Task :=
  let l := (s.tasks.map (·.2)).filter (fun t =>
    !t.done && t.dom == targetDom h.ctx && (NMap.get? s.packets t.pkt).any (fun p => p.addr == h.pkt))
  (l.find? (fun t => t.evicted.contains h.named)).or (l.find? (fun t => t.index == h.named.1))

/-- The state of a channel in an image (R345). -/
def State.recordState (s : State) (m : ImageAt) (n : Nat) : Nat := s.img m (imageBase + 0x100 + 64 * n) / 2 ^ 60

/-- A channel is busy with a command. -/
def Cluster.chanBusy (k : Cluster) (n : Nat) : Bool :=
  (k.chan n).any (fun c => c.state == 1 || c.state == 2 || !c.unanswered.isEmpty)

/-- What the storage of an image's task needs of its cluster is free (R315, R348). -/
def State.storageFits (s : State) (m : ImageAt) (t : Task) (x : TaskHead) (region cl : Nat) : Bool :=
  let s' := { s with tasks := NMap.set s.tasks t.uid { t with holds := false } }
  !t.running && (s.fitCluster { t with tsp := x.tsp, tfr := x.tfr, nsh := x.nsh } region cl).isSome &&
    s'.stagingBudget region (x.tstg + t.csb) &&
    (List.range 16).all (fun n =>
      !((s.recordState m n == 1 || s.recordState m n == 2) && (s.cluster cl).chanBusy n))

/-- The conditions of R348 under which a load fails, in the order of its list. -/
def State.loadConditions (s : State) (r : TargetReq) (m : ImageAt) (h : ImageHead) (x : TaskHead) : List (Nat × Bool) :=
  let cl := targetCl r.target
  let t := s.taskOfImage h
  let rg := s.region h.region
  [(1, h.reserved || wbits r.target 63 10 != 0),
    (2, h.fmt != 1 || decide (1 < h.kind) || h.size != imageSize h.kind x.tfr x.nsh x.tsp),
    (3, !s.current (clusterStop cl) (targetDom h.ctx) (targetInc h.ctx)),
    (4, (s.ctx cl (targetCx r.target)).occ != .free),
    (5, !rg.any (fun g => g.cmask.getLsbD cl)),
    (6, h.kind == 1 && !t.any (fun t => s.storageFits m t x h.region cl)),
    (7, h.kind == 1 && decide (0 < x.tstg) && !rg.any (fun g => g.slmask.getLsbD (x.sbase / 2 ^ 24))),
    (8, h.kind == 0 && !t.any (fun t => t.running && t.cluster == cl)),
    (9, !t.any (fun t => t.evicted.contains h.named))]

/-! ### The cores (R332, R336, R337, R344) -/

/-- A stream command from its 64 bytes, with what the areas beside the queue hold at its position (R336 to R338). What its entry
has no field for is as the device has kept it of the same command: the shelves claimed when it issued, its sample, its place,
the cycles spent on its comparison (R69, R268, R273, R351; DESIGN CHOICE, log 52). The claims of a command that an edit has put
there are those of the image. -/
def State.imgCmd (s : State) (m : ImageAt) (o p : Nat) (pc : BitVec 30) (claims : Byte) (kept : List StreamCmd) : StreamCmd :=
  let w := s.imgs m (o + 0x10400 + 64 * p) 8
  let x (n : Nat) : W64 := nth w n 0
  let cur := x 2
  let quant := (x 0).extractLsb' 18 6 == 0x0D#6 || (x 0).extractLsb' 18 6 == 0x0E#6
  let old := kept.find? (fun c => c.cidx == (x 0).extractLsb' 32 32 && c.op == (x 0).extractLsb' 18 6)
  { cidx := (x 0).extractLsb' 32 32, flags := (x 0).extractLsb' 24 8, op := (x 0).extractLsb' 18 6, m := wbits (x 0) 17 13
    seed := (x 1).setWidth 32, dv := (x 0).getLsbD 12, dest := (x 0).extractLsb' 6 6, token := old.elim 0 (·.token)
    opnd := [x 3, x 4, x 5, x 6]
    rows := if quant then .ofBytes (s.getPart m.pages (o + 0x2F000 + 4096 * p) 4096) else .zero
    codes := if quant then s.getPart m.pages (o + 0x3F000 + 16 * p) 16 else []
    key0 := BitVec.ofNat 64 (s.img m (o + 0x3F100 + 16 * p)), key1 := BitVec.ofNat 64 (s.img m (o + 0x3F108 + 16 * p))
    cur := { pos := wbits cur 63 48, sub := wbits cur 47 46, tbit := wbits cur 45 29, pv := cur.getLsbD 28
             state := wbits cur 11 8, cause := wbits cur 7 0 }
    part := if p = 0 ∧ cur.getLsbD 28 then (s.imgs m (o + 0x10800) 2048).map (·.toInt) else []
    sampled := old.any (·.sampled), after := [], claims := old.elim claims (·.claims), bpc := old.elim pc (·.bpc), faultAt := 0
    spent := old.elim 0 (·.spent) }

/-- The stream commands of a core, up to the first unused entry (R336). -/
def State.imgCmds (s : State) (m : ImageAt) (o : Nat) (pc : BitVec 30) (claims : Byte) (kept : List StreamCmd) :
    List StreamCmd :=
  ((List.range 16).map (fun p => s.imgCmd m o p pc claims kept)).takeWhile (fun c => c.op != 0)

/-- Core `k` of an image (R344). -/
def State.imgCore (s : State) (m : ImageAt) (k : Nat) (pc : BitVec 30) (claims : Byte) (kept : List StreamCmd) : CoreCtx :=
  let o := 0x1000 + 0x40000 * k
  let q := s.img m (o + 0x10188)
  { CoreCtx.fresh with
    v := (List.range 16).map (fun n => .ofBytes (s.getPart m.pages (o + 4096 * n) 4096))
    k := (List.range 3).map (fun n => BitVec.ofNat 1024 (s.imgN m (o + 0x10000 + 128 * n) 128))
    fflg := BitVec.ofNat 8 (s.img m (o + 0x10180))
    sq := s.getPart m.pages (o + 0x10190) (Min.min 64 (q % 2 ^ 32)), sqres := q / 2 ^ 32
    bypass := s.getPart m.pages (o + 0x101D0) 16, target := BitVec.ofNat 2 (s.img m (o + 0x101E0))
    stopX := BitVec.ofNat 8 (s.img m (o + 0x101E8)), stopY := BitVec.ofNat 8 (s.img m (o + 0x101E8) / 2 ^ 8)
    theta := BitVec.ofNat 32 (s.img m (o + 0x101E8) / 2 ^ 32)
    stopRec := BitVec.ofNat 64 (s.img m (o + 0x101F0)), cmds := s.imgCmds m o pc claims kept }

/-- Put a value at place `k` of four. -/
def atCore {α : Type} (k : Nat) (z v : α) : List α := (List.replicate 4 z).set k v

/-- Snapshot entry `e` of core `k` (R332). -/
def State.imgSnap (s : State) (m : ImageAt) (k e : Nat) : Landing :=
  let o := 0x1000 + 0x40000 * k + 0x14840 + 1088 * e
  let d := BitVec.ofNat 64 (s.img m o)
  let q := wbits d 39 38
  let kind := wbits d 55 48
  let reg := wbits d 47 40
  let lmask := s.imgN m (o + 16) 32
  let dest : Dest := if kind = 0 then .vreg (reg % 16) else if kind = 1 then .mask (Max.max 1 (reg % 4)) else .bypass
  let lanes : VReg :=
    if kind = 0 then
      { lanes := List.replicate (256 * q) 0 ++
          (List.range 256).map (fun i => BitVec.ofNat 32 (s.imgN m (o + 48 + 4 * i) 4)) ++
          List.replicate (768 - 256 * q) 0 }
    else .zero
  { time := wbits d 31 16, dest := dest, lo := 0, hi := 0, vec := atCore k .zero lanes
    lmask := atCore k 0 (if kind = 0 then BitVec.ofNat 1024 (lmask * 2 ^ (256 * q)) else BitVec.allOnes 1024)
    masks := if kind = 1 then atCore k 0 (BitVec.ofNat 1024 (s.imgN m (o + 48) 128)) else []
    codes := if kind = 0 ∨ kind = 1 then [] else atCore k [] (s.getPart m.pages (o + 48) 16)
    target := BitVec.ofNat 2 (s.imgN m (o + 64) 1)
    flags := (List.replicate 16 0).set (4 * k + q) (BitVec.ofNat 8 (wbits d 15 8)), part := some (k, q), tok := 0 }

/-- Snapshot entries of the four cores (R332). -/
def State.imgSnaps (s : State) (m : ImageAt) : List Landing :=
  (List.range 4).flatMap (fun k =>
    (List.range (Min.min 96 (s.img m (0x1000 + 0x40000 * k + 0x14800)))).map (fun e => s.imgSnap m k e))

/-! ### Commands with a destination (R261, R336) -/

/-- Commands with DV = 1 of four queues: on which cores each is complete, and what those cores have returned, as the device has
kept it; 0 of a command it has not kept (R261, R276, R283, R336, R351; DESIGN CHOICE, log 52). A queue that has the most commands
left has all of them. -/
def gangOf (cores : List CoreCtx) (kept : List GangPart) (now uid : Nat) : List GangPart :=
  let longest := cores.foldl (fun l x => if l.length < x.cmds.length then x.cmds else l) []
  (numbered (longest.filter (·.dv))).map (fun e =>
    let cmd := e.2
    match kept.find? (fun g => g.cidx == cmd.cidx) with
    | some g => { g with reg := cmd.dest.toNat }
    | none =>
      let done := (List.range 4).filter (fun k => !(nth cores k .fresh).cmds.any (fun c => c.cidx == cmd.cidx))
      { cidx := cmd.cidx, reg := cmd.dest.toNat, token := uid + e.1, at_ := now, done := done, value := List.replicate done.length 0 })

/-- What each empty register of an image awaits: the result of the latest command with DV = 1 that names it. A register that
something else has been moved to in the meantime is full, and the command's result is discarded (R159, R336, R434). -/
def awaitOf (full expd : W64) (gang : List GangPart) : NMap Nat :=
  gang.foldl (fun a g => if full.getLsbD g.reg || expd.getLsbD g.reg then a else NMap.set a g.reg g.token) []

/-! ### The context (R344, R383, R434) -/

/-- State of a load-queue entry (R344). -/
def lqStateOf (n : Nat) : LqState := nth [.arrived, .expired, .poisoned, .denied] (n % 4) .arrived

/-- Segment state (R383). The word has no field for RB, nor for whether a failed closing test has trapped: they are as the
device has kept them; where the bound has been edited it is RB too (R344, R351; DESIGN CHOICE, log 52). -/
def segmentOf (count : Nat) (w : W64) (kept : Segment) : Segment :=
  { count := count, bound := wbits w 15 0, rb := if kept.bound = wbits w 15 0 then kept.rb else wbits w 15 0
    chk := w.getLsbD 16, sig := w.extractLsb' 32 16, crc := w.extractLsb' 48 16, tested := kept.tested }

/-- A context as its image gives it, parked in slot `cx` of cluster `cl` (R344, R348, R410); `uid` names what it still
awaits. What an image has no field for is as the device has kept it in `kept`: STALL cycles owed, the mark of a yield, the count
of sampled runs, the escalation marks of the load queue, the offset of the last bundle, the class of the latest record, errors
that stand in its state, and for commands and segment as said there (R351; DESIGN CHOICE, log 52). -/
def State.imgCtx (s : State) (m : ImageAt) (h : ImageHead) (old kept : Ctx) (cl cx task : Nat) : Ctx :=
  let w (o n : Nat) : List W64 := s.imgs m o n
  let sp := w 0x3F0 8
  let po := w 0x430 19
  let o (n : Nat) : W64 := nth po n 0
  let key := w 0x4D0 4
  let lq := s.img m 0x4F0
  let depth := s.img m 0x348
  let claims := BitVec.ofNat 8 (s.img m 0x760)
  let cores := (List.range 4).map (fun k => s.imgCore m k h.pc claims (nth kept.cores k .fresh).cmds)
  let gang := gangOf cores kept.gang s.now s.uid
  let full := BitVec.ofNat 64 (s.img m 0x300)
  let expd := BitVec.ofNat 64 (s.img m 0x308)
  { Ctx.empty with
    occ := .resident, parked := true, serial := old.serial + 1, task := task, pc := h.pc, pbase := h.pbase, pkt := h.pkt
    g := w 0x100 64, full := full, expd := expd, await := awaitOf full expd gang
    p := BitVec.ofNat 8 (s.img m 0x310 / 2 * 2 + 1), lx := w 0x318 6
    loops := (List.range (Min.min 6 (bits depth 2 0))).map (fun i =>
      { start := BitVec.ofNat 30 (s.img m (0x350 + 16 * i)), rem := s.imgN m (0x358 + 16 * i) 4
        max := s.imgN m (0x35C + 16 * i) 4 })
    links := (List.range (Min.min 8 (bits depth 11 8))).map (fun i => BitVec.ofNat 30 (s.img m (0x3B0 + 8 * i)))
    stat := (nth sp 0 0).setWidth 8, fflg := (nth sp 1 0).setWidth 8, sl := (nth sp 2 0).setWidth 5, seed := (nth sp 3 0).setWidth 32
    mdl := (nth sp 4 0).setWidth 32, rrb := (nth sp 5 0).setWidth 3, scc := nth sp 6 0
    alu0 := { o := o 0, o2 := o 1, q := o 2, qh := 0 }, alu1 := { o := o 3, o2 := o 4, q := o 5, qh := 0 }
    prd := { o := o 6, o2 := o 7, q := o 8, qh := 0 }, mul := { o := o 9, o2 := o 10, q := o 11, qh := o 12 }
    lsu := { o := o 13, o2 := o 14, dl := o 15, sc := o 16, cmp := o 17, hi := o 18 }
    key0 := nth key 0 0, key1 := nth key 1 0, draw := nth key 3 0 ++ nth key 2 0
    lq := (List.range (Min.min 32 lq)).map (fun i =>
      { id := s.uid + gang.length + i, half := 0, state := lqStateOf (s.img m (0x500 + 16 * i))
        value := BitVec.ofNat 64 (s.img m (0x4F8 + 16 * i)), esc := kept.lq[i]?.any (·.esc) })
    sctx := BitVec.ofNat 64 (h.ctx.toNat / 2 ^ 10 * 2 ^ 10 + 8 * cl + cx), grid := h.grid, arg := h.arg
    ccy0 := h.ccy, ccyAt := s.now, cores := cores, snap := s.imgSnaps m
    pass := s.img m 0x738, seg := segmentOf (s.img m 0x740) (BitVec.ofNat 64 (s.img m 0x748)) kept.seg, segAt := s.now
    streak := s.img m 0x750, streakAt := BitVec.ofNat 64 (s.img m 0x758), claims := claims, begun := true
    nextIssue := s.now, tLast := s.now - 1, bpc := kept.bpc, readyAt := s.now, gang := gang, owed := kept.owed
    yielded := kept.yielded, runs := kept.runs, lastCls := kept.lastCls, errs := kept.errs }

/-- The wait record of an image (R434); the offset of the waiting bundle and the value of a status received are as the device has
kept them (R133; DESIGN CHOICE, log 52). -/
def State.imgWait (s : State) (m : ImageAt) (kept : Ctx) : WaitRecord :=
  let w := s.imgs m 0x6F8 8
  let x (n : Nat) : W64 := nth w n 0
  { op := wbits (x 0) 7 0, arr := wbits (x 0) 15 8, rstat := wbits (x 0) 23 16, kword := (x 1).setWidth 32
    s0 := (x 2).toNat, bud := wbits (x 3) 31 0, alw := (x 4).toNat, ops := [x 5, x 6, x 7]
    rval := kept.wait.elim 0 (·.rval), bpc := kept.wait.elim kept.bpc (·.bpc) }

/-- Put back what a context waited for: a wait is sent again, a held bundle issues again within what remains of its
bound (R135, R334, R434). -/
def State.restoreWait (s : State) (cl cx : Nat) (w : WaitRecord) : State :=
  if w.op = 0x80 then
    s.modCtx cl cx (fun c => { c with held := some { since := s.now, budget := w.bud, g := [], lq := 0, mul := false, wide := false } })
  else s.reissueWait cl cx w

/-! ### The task's storage (R82, R279, R345) -/

/-- A folio row of its 3,136 bytes (R279). -/
def FolioRow.ofBytes (bs : List Byte) : FolioRow :=
  { f := (List.range 256).map (fun j => BitVec.ofNat 96 (leNat ((bs.drop (12 * j)).take 12)))
    b := BitVec.ofNat 16 (leNat ((bs.drop 3072).take 2)) }

/-- Bytes that are not zero, by their place. -/
def sparseBytes (bs : List Byte) : NMap Byte := (numbered bs).filter (fun e => e.2 != 0)

/-- Give core `k` the rows, shelves and pages of an image; where a page of the image has poison, the scratchpad has it again (R345,
R378; log 52). -/
def State.loadBlock (s : State) (m : ImageAt) (t : Task) (k : Nat) : State :=
  let o := blockAt t.tfr t.nsh t.tsp k
  let sh := o + t.tfr * 3136
  let rows := (List.range t.tfr).map (fun n => (k * 512 + t.frow + n, s.getPart m.pages (o + n * 3136) 3136))
  let shelves := (List.range t.nsh).map (fun n =>
    (k * 8 + t.shelf + n, ({ codes := sparseBytes (s.getPart m.pages (sh + n * 66560) 65536)
                             scales := sparseBytes (s.getPart m.pages (sh + n * 66560 + 65536) 1024) } : Shelf)))
  let s := s.modCluster t.cluster (fun c => { c with
    folio := (rows.filter (fun e => e.2.any (· != 0))).foldl (fun f e => NMap.set f e.1 (FolioRow.ofBytes e.2)) c.folio
    shelves := (shelves.filter (fun e => !(e.2.codes.isEmpty && e.2.scales.isEmpty))).foldl
      (fun f e => NMap.set f e.1 e.2) c.shelves })
  (List.range t.tsp).foldl (fun (s : State) n =>
    let x := t.pageAt k n
    (List.range 512).foldl (fun (s : State) i =>
      if s.poisonedAt (imageKey m.pages (x.1 + 32 * i)) 32 then s.poisonSector ((x.2 + 32 * i) / 32) else s)
      (s.writeN x.2 (s.getPart m.pages x.1 16384))) s

/-- The queues of a task with the tokens of its image (R345). -/
def State.loadQueues (s : State) (m : ImageAt) (q : List StageQ) : List StageQ :=
  let tokens := s.imgs m (imageBase + 0x580) 256
  (numbered q).map (fun e =>
    let w := BitVec.ofNat 64 (s.img m (imageBase + 0x500 + 8 * e.1))
    { e.2 with tokens := (((tokens.drop (wbits w 31 0)).take (wbits w 63 32)).map (fun v => (0, v))), popAt := 0 })

/-- A copy channel of an image goes on on its channel: one that ran or was suspended resumes. The s.ctx that its records name,
and who it belongs to, are those of its start as the device has kept them; of a command it has not kept, those of the context that
is loaded (R342, R345, R348; DESIGN CHOICE, log 95). A command that is over is the task's latest on the channel, also where another
task's has followed it (R224). -/
def State.loadChannel (s : State) (m : ImageAt) (t : Task) (cx n : Nat) : State :=
  let x := s.imgs m (imageBase + 0x100 + 64 * n) 6
  let st := wbits (nth x 0 0) 63 60
  if st = 0 then s
  else
    let c := s.ctx t.cluster cx
    let old := (t.kchans.find? (fun e => e.1 == n)).map (·.2)
    let now := nth (s.cluster t.cluster).chans n .none
    let len := wbits (nth x 0 0) 31 0
    let wp := Min.min len (nth x 4 0).toNat
    let run := decide (st = 1 ∨ st = 2)
    let id := s.uid
    let k : Channel :=
      { state := if run then 1 else st, task := t.uid, stage := old.elim c.stage (·.stage), cmd := id
        who := { c.who t.cluster cx with user := old.elim (!c.super) (·.who.user) }, ctxw := old.elim c.sctx (·.ctxw), src := nth x 1 0
        dst := nth x 2 0, len := len, cctr := nth x 3 0, sc := (nth x 0 0).extractLsb' 34 2, wp := wp
        begun := decide (0 < wp), abortAt := none, faultDst := false, faultVa := nth x 5 0, after := []
        hist := s.chanHist now t.uid, unanswered := [], buf := [] }
    if !run && now.state != 0 then
      s.setChan t.cluster n { now with hist := (t.uid, st) :: now.hist.filter (fun h => h.1 != t.uid) }
    else
      let s := { s with uid := id + 1 }.setChan t.cluster n k
      if run then s.post (s.now + 1) (if 0 < wp then .copySectorStep else .copyCommandBegin) (EvArg.at t.cluster n id) else s

/-- Give a task its storage again, in what is free on its cluster, charged to the region of the image; index and staging run are
those of the task section (R82, R345, R410). -/
def State.loadTask (s : State) (m : ImageAt) (t : Task) (x : TaskHead) (region cl : Nat) : State × Task :=
  let spbase := (firstRun x.tsp 128 (s.pagesUsed cl)).getD 0
  let t := { t with
    region := region, index := x.index, nsh := x.nsh, tsp := x.tsp, tfr := x.tfr, sbase := x.sbase, tstg := x.tstg
    queues := s.loadQueues m t.queues }
  let r := s.giveCluster t cl spbase
  ((List.range 4).foldl (fun (s : State) k => s.loadBlock m r.2 k) r.1, r.2)

/-! ### The load (R348) -/

/-- A sector of an image is that of a scratchpad page, where poison stays poison (log 52). -/
def TaskHead.inScratch (x : TaskHead) (o : Nat) : Bool :=
  let b := taskBlock x.tfr x.nsh x.tsp
  decide (blockAt x.tfr x.nsh x.tsp 0 ≤ o) && decide (x.tfr * 3136 + x.nsh * 66560 ≤ (o - blockAt x.tfr x.nsh x.tsp 0) % b)

/-- An image is read: its sectors are decoded. Poison in it reads as 0, is noted once for each page, and poisons the task whose
state it was (R377, R379, R380; DESIGN CHOICE, log 52). -/
def State.readImage (s : State) (w : Who) (cl : Nat) (ps : List (Nat × Nat)) (x : TaskHead) (uid : Nat) : State :=
  let s := ps.foldl (fun (s : State) p => s.settleListed p.1 p.2) s
  let bad := (numbered ps).filterMap (fun e =>
    ((s.badSectors e.2.1 e.2.2).find? (fun o => !x.inScratch (65536 * e.1 + o))).map (fun o => e.2.1 + o))
  let s := bad.foldl (fun (s : State) a => s.notePoisonAt (clusterStop cl) a w.dom w.inc) s
  if bad.isEmpty then s else s.poisonTask uid

/-- Load an image that may be loaded; the record of the eviction, and what the device has kept with it, are gone (R348). -/
def State.loadImage (s : State) (r : TargetReq) (m : ImageAt) (h : ImageHead) (x : TaskHead) (t : Task) : State :=
  let cl := targetCl r.target
  let cx := targetCx r.target
  let key := 8 * t.uid + wbits h.ctx 31 29
  let kept := NMap.getD s.kept key { Ctx.empty with bpc := h.pc }
  let t : Task := { t with evicted := t.evicted.erase h.named, nstg := h.nstg, region := h.region, inc := targetInc h.ctx }
  let a : State × Task := if h.kind = 1 then s.loadTask m t x h.region cl else (s, t)
  let s := { a.1 with tasks := NMap.set a.1.tasks t.uid a.2, kept := NMap.erase a.1.kept key }
  let c := s.imgCtx m h (s.ctx cl cx) kept cl cx t.uid
  let s := { s with uid := s.uid + c.gang.length + c.lq.length }.setCtx cl cx c
  let s := s.restoreWait cl cx (s.imgWait m kept)
  let s := if h.kind = 1 then
      ((List.range 16).foldl (fun (s : State) n => s.loadChannel m a.2 cx n) s).modTask t.uid (fun t => { t with kchans := [] })
    else s
  s.finishRequest r true

/-- Pages of an image that is read, in the issuer's domain (R348, R366). -/
def State.loadPages (s : State) (r : TargetReq) (size tb : Nat) : Option (List (Nat × Nat)) × State :=
  s.imagePages (targetCl r.target) r.who.dom r.image size tb leafR

/-- CTX_LOAD_PERFORM: once every earlier access of its issuer is performed, wherever the issuer's stage now stands, the conditions
are tested in their order, and the image is loaded or the load fails (R9, R348, R366). -/
def loadPerformEffect (s : State) : State :=
  let e := s.ev
  let r := e.target
  let t := clusterStop (targetCl r.target)
  if !s.currentWho t r.who then s.dropStale t r.who.dom r.who.inc r.target.toNat
  else if !s.coversDone r.who.cl r.after then s.post (s.now + 1) .ctxLoadPerform e
  else
    match s.loadPages r 256 0 with
    | (none, s) => s.refuseRequest r r.image.toNat 1
    | (some ps, s) =>
      let s := s.settleListed (imageKey ps 0) 256
      let h := ImageHead.ofBytes (s.getPart ps 0 256)
      match s.loadPages r (if h.kind = 1 then imageBase + 0x500 else imageBase) 0 with
      | (none, s) => s.refuseRequest r r.image.toNat (if h.reserved then 1 else 2)
      | (some ps, s) =>
        let m : ImageAt := { pages := ps }
        let s := if h.kind = 1 then s.settleListed (imageKey ps imageBase) 0x500 else s
        let x := s.imgTask m h.kind
        match (s.loadConditions r m h x).find? (·.2) with
        | some f => s.refuseRequest r (if f.1 = 4 then r.target.toNat else r.image.toNat) f.1
        | none =>
          match s.loadPages r h.size (if h.kind = 1 then taskBlock x.tfr x.nsh x.tsp else 0), s.taskOfImage h with
          | (some ps, s), some t =>
            let s := s.readImage r.who (targetCl r.target) ps x t.uid
            match s.taskOfImage h with
            | some t => s.loadImage r { pages := ps } h x t
            | none => s
          | (_, s), _ => s.refuseRequest r r.image.toNat 2

/-- CTX_LOAD_PERFORM (R348). -/
def execCtxLoadPerform (s : State) : Host.Outcome State Fault Refusal := .next (loadPerformEffect s)

end Sys2Proof.Machine
end

