-- ==== Sys2Proof/Machine/Domains.lean ====
section
/-! DEFINITION. The domain controller at stop 0: dom.set and inc.adv, the broadcast of an entry to the stops, what a kill
leaves, and reclaim (R137, R284, R330, R352 to R361, R416). -/

namespace Sys2Proof.Machine

/-! ### Requests to the domain controller (R353, R359 to R361) -/

/-- Cycle in which a request of a cluster reaches stop 0 after it leaves (R361). -/
def State.controllerAt (s : State) (cl : Nat) : Nat := s.now + 50 + 6 * hops (clusterStop cl) 0

/-- Cycle in which an answer of stop 0 reaches a cluster. -/
def State.controllerBack (s : State) (cl : Nat) : Nat := s.now + answerDelay 0 cl

/-- Send a dom.set or an inc.adv: it leaves at cycle 6 (R359, R360). -/
def State.sendDomain (s : State) (target : W64) (value : Option W64) (token : Nat) : State :=
  let u := s.issue
  s.post (s.controllerAt u.cl + 6) .domainControllerRequest
    { EvArg.at u.cl u.cx 0 with
      domreq := { who := s.issueCtx.who u.cl u.cx, target := target.setWidth 8, value := value, token := token, bpc := u.pc } }

/-- DOM_SET (R359). -/
def execDomSet (a b : BitVec 6) (s : State) : Host.Outcome State Fault Refusal :=
  .next (s.asBundle (.domSet a b) (fun s => s.sendDomain (s.opG a) (some (s.opG b)) 0))

/-- INC_ADV: its register is empty until the answer (R360). -/
def incAdvEffect (a c : BitVec 6) (s : State) : State :=
  let id := s.uid
  let s := ({ s with uid := id + 1 }).sendDomain (s.opG a) none (64 * id + c.toNat)
  s.modIssue (fun x => x.emptyG c.toNat id)

/-- INC_ADV (R360). -/
def execIncAdv (a c : BitVec 6) (s : State) : Host.Outcome State Fault Refusal :=
  .next (s.asBundle (.incAdv a c) (incAdvEffect a c))

/-- RECLAIM: a wait; its request leaves at cycle 6 (R361). -/
def reclaimEffect (a c : BitVec 6) (e : BitVec 1) (s : State) : State :=
  let u := s.issue
  let id := s.uid
  (s.startWait .reclaim ((encode (.reclaim a c e)).getD 0) c none (deadlineOf (s.opG c)) [s.opG a] (e == 1) 0).post (s.now + 6)
    .reclaimAtController { EvArg.at u.cl u.cx id with n := 2, who := s.issueCtx.who u.cl u.cx }

/-- RECLAIM (R361). -/
def execReclaim (a c : BitVec 6) (e : BitVec 1) (s : State) : Host.Outcome State Fault Refusal :=
  .next (s.asBundle (.reclaim a c e) (reclaimEffect a c e))

/-! ### The master table (R352, R353, R358 to R360) -/

/-- Master entry of a domain. -/
def State.master (s : State) (d : BitVec 8) : W64 := NMap.getD s.port.doms d.toNat 0

/-- Cycles of a broadcast to a stop, and of an acknowledgement back. -/
def broadcastTrip (t : Nat) : Nat := 22 + 3 * hops 0 t

/-- Cycles until every stop has acknowledged a broadcast. -/
def broadcastAcks : Nat := (List.range 81).foldl (fun m t => Max.max m (2 * broadcastTrip t)) 0

/-- Change a master entry and broadcast it to the 81 stops (R353). -/
def State.broadcast (s : State) (d : BitVec 8) (e : W64) : State :=
  (List.range 81).foldl (fun (s : State) t =>
    s.post (s.now + broadcastTrip t) .domainUpdateAtStop { EvArg.zero with n := t, dom := d, v := e })
    (s.modPort (fun p => { p with doms := NMap.set p.doms d.toNat e }))

/-- An entry from its fields (R352). -/
def domEntry (fields : W64) (wm cur : BitVec 10) : W64 :=
  (fields &&& 0x0000FF0380000000) ||| (wm.setWidth 64 <<< 10) ||| cur.setWidth 64

/-- A region or a task of a domain exists (R359). -/
def State.domInUse (s : State) (d : BitVec 8) : Bool :=
  s.regions.any (fun e => e.2.dom == d) || s.tasks.any (fun e => e.2.dom == d && !e.2.done)

/-- Refusal code of a dom.set; 0 for none (R359). -/
def State.domSetRefusal (s : State) (issuer d : BitVec 8) (v : W64) : Nat :=
  let e := s.master d
  if wbits v 19 10 ≠ 0 ∨ wbits v 63 48 ≠ 0 ∨ wbits v 39 34 ≠ 0 ∨ wbits v 30 20 ≠ 0 then 1
  else if (entryValid e && entrySupv e != issuer) || d == issuer then 2
  else if !entryValid e && entrySupv v != issuer then 2
  else if !entryValid e && !entryValid v then 4
  else if entryValid e && !entryValid v && (s.domInUse d || entryWm e != entryCur e) then 3
  else 0

/-- The entry a dom.set leaves (R359). -/
def domSetEntry (e v : W64) : W64 :=
  if !entryValid e && entryValid v then domEntry v (entryCur v) (entryCur v) else domEntry v (entryWm e) (entryCur e)

/-- The result of an inc.adv: BUSY, and the dword (R358, R360). -/
def incAdvResult (e : W64) : Bool × W64 :=
  let cur := entryCur e
  let wm := entryWm e
  if cur + 1 = wm then (true, (1#64 <<< 30) ||| (wm.setWidth 64 <<< 20) ||| (cur.setWidth 64 <<< 10) ||| cur.setWidth 64)
  else (false, (wm.setWidth 64 <<< 20) ||| (cur.setWidth 64 <<< 10) ||| (cur + 1).setWidth 64)

/-- Domain operations that wait their turn at the controller, and are after the cycle `t` (R353). -/
def State.domainWaiting (s : State) (t : Nat) : Bool :=
  s.agenda.any (fun p => decide (t ≤ p.time) &&
    ((p.ev == .domainControllerRequest && p.arg.n == 2) || (p.ev == .reclaimAtController && p.arg.n == 3)))

/-- A domain operation is being broadcast. -/
def State.domainBusy (s : State) : Bool := s.agenda.any (fun p => p.ev == .domainControllerRequest && p.arg.n == 1)

/-- Refuse a domain operation: PERM with the code and the domain (R209, R359). `waits` marks a wait that ends with it. -/
def State.refuseDomain (s : State) (w : Who) (code : Nat) (d : BitVec 8) (bpc : BitVec 30) (token : Nat) (waits : Bool) : State :=
  s.post (s.controllerBack w.cl) .deferredFault
    { EvArg.at w.cl w.cx 0 with
      n := 5, who := w, v := d.setWidth 64, w := BitVec.ofNat 64 code, value := bpc.setWidth 128, m := token
      status := if waits then 1 else 0 }

/-- Perform a domain operation on the master table. -/
def State.performDomain (s : State) (r : DomReq) : State :=
  let e := s.master r.target
  let done (v : W64) (s : State) : State :=
    s.post (s.now + broadcastAcks) .domainControllerRequest { EvArg.at r.who.cl r.who.cx 0 with n := 1, domreq := r, v := v }
  match r.value with
  | some v =>
    let code := s.domSetRefusal r.who.dom r.target v
    if code ≠ 0 then s.refuseDomain r.who code r.target r.bpc r.token false
    else done 0 (s.broadcast r.target (domSetEntry e v))
  | none =>
    if !(entryValid e && entrySupv e == r.who.dom) || r.target == r.who.dom then
      s.refuseDomain r.who 2 r.target r.bpc r.token false
    else
      let x := incAdvResult e
      if x.1 then
        s.post (s.controllerBack r.who.cl) .responseAtSlot
          { EvArg.zero with n := 1, who := r.who, m := r.token, value := x.2.setWidth 128 }
      else done x.2 (s.broadcast r.target (domEntry e (entryWm e) (entryCur e + 1)))

/-- DOMAIN_CONTROLLER_REQUEST: operations are performed one at a time in the order of their arrival; with `n` = 1 every
acknowledgement is in, and an inc.adv is answered; with `n` = 2 the operation has waited (R353, R359, R360). -/
def domainControllerEffect (s : State) : State :=
  let e := s.ev
  let r := e.domreq
  let wait (t : Nat) (s : State) : State := s.post t .domainControllerRequest { e with n := 2 }
  if e.n = 1 then
    if r.value.isSome then s
    else
      s.post (s.controllerBack r.who.cl) .responseAtSlot
        { EvArg.zero with n := 1, who := r.who, m := r.token, value := e.v.setWidth 128 }
  else if e.n = 0 && s.domainWaiting 0 then wait s.now s
  else if s.domainBusy || s.domainWaiting (s.now + 1) then wait (s.now + 1) s
  else if !s.currentWho 0 r.who then s.dropStale 0 r.who.dom r.who.inc r.target.toNat
  else s.performDomain r

/-- DOMAIN_CONTROLLER_REQUEST (R353). -/
def execDomainControllerRequest (s : State) : Host.Outcome State Fault Refusal := .next (domainControllerEffect s)

/-! ### What a kill leaves (R137, R284, R330, R355, R357, R416) -/

/-- Clusters whose frond die is at a stop. -/
def clustersAt (t : Nat) : List Nat := (List.range 128).filter (fun c => clusterStop c == t)

/-- A KILL record: the context with its incarnation; no bundle is named and no NPC stated (R339, R340). -/
def State.killRecord (s : State) (c : Ctx) : TrapRec × State :=
  let b := s.takeFree
  let n := b.2.takeFree
  (s.record c 14 0 (b.1.setWidth 30) (n.1.setWidth 30), n.2)

/-- End a context whose incarnation has passed: a resident one with a KILL record (R137, R330, R357). -/
def State.killContext (s : State) (cl cx : Nat) : State :=
  let c := s.ctx cl cx
  if c.occ = .resident then
    let s := s.flushRecords cl cx
    let r := s.killRecord c
    (r.2.deliverRecord r.1 (cl / 2)).terminate cl cx 3
  else if c.occ = .ended ∧ !c.parked then s.terminate cl cx 3
  else s

/-- A step of a copy command is to come, or the end of its walk. -/
def State.copySteps (s : State) (cl n : Nat) : Bool :=
  s.agenda.any (fun p => match p.ev with
    | .copyCommandBegin | .copySectorStep | .copyTranslationRetry => p.arg.cl == cl && p.arg.cx == n
    | .windowAccessSend => p.arg.n == 1 && p.arg.cl == cl && p.arg.cx == n
    | .tableWalk => p.arg.walker == .channel cl n
    | _ => false)

/-- The contexts of a cluster, and the copy commands that are suspended or that no further step will find stale, when an update
has reached its stop (R357). -/
def State.killCluster (s : State) (cl : Nat) (d : BitVec 8) : State :=
  let t := clusterStop cl
  let s := (List.range 8 ++ s.shadows cl).foldl (fun (s : State) cx =>
    let c := s.ctx cl cx
    if c.occ != .free && c.dom == d && !s.current t c.dom c.inc then s.killContext cl cx else s) s
  (List.range 16).foldl (fun (s : State) n =>
    match (s.cluster cl).chan n with
    | some k =>
      if (k.state = 2 ∨ k.state = 1 ∧ !s.copySteps cl n) ∧ k.who.dom = d ∧ !s.currentWho t k.who then s.killCopy cl n else s
    | none => s) s

/-- A task of a past incarnation that has not ended has failed, also where only a copy or a child of it was outstanding; stages
that wait in images or for a re-run have ended (R322, R357). -/
def State.killTask (s : State) (t : Task) : State :=
  let queued := (s.cluster t.cluster).queue.any (fun q => q.uid == t.uid) && t.holds
  let lost := if queued then List.range t.nstg else t.evicted.map (·.2.1)
  let s := if queued then s.modCluster t.cluster (fun k => { k with queue := k.queue.filter (fun q => q.uid != t.uid) }) else s
  let t' := { t with
    staged := [], evicted := [], ended := t.ended ++ lost.filter (fun j => !t.ended.contains j), fail := 3 :: t.fail }
  ({ s with tasks := NMap.set s.tasks t.uid t' }).pollTask t.uid

/-- A packet of a killed domain's region, at the stop of its dispatch unit: one not read is read first, and an invalid one
is DENIED (R27, R357). -/
def State.killQueued (s : State) (p : Packet) : State :=
  match p.phase with
  | .done => s
  | .queued | .reading =>
    let r := s.readPacket p
    let s := { r.1 with packets := NMap.set r.1.packets p.uid r.2.1 }
    match r.2.2 with
    | some why => s.invalidPacket r.2.1 why
    | none => s.killPacket r.2.1
  | _ => s.killPacket p

/-- A launch of a past incarnation that waits for an entry is dropped; a flow's is answered KILLED (R355, R402). -/
def State.killLaunch (s : State) (l : LaunchReq) : State :=
  let s := ({ s with launches := s.launches.erase l }).dropStale (dispatchStop l.region) l.dom l.inc l.addr.toNat
  match l.by_ with
  | .flow _ => s.answerLaunch l 3
  | _ => s

/-- What a kill of a domain leaves at a stop, once the stop's copy holds the new incarnation: staged writes go, also those of
tasks that have ended and whose packet is not complete (R322, R355, R357). -/
def State.killAt (s : State) (t : Nat) (d : BitVec 8) : State :=
  let old (w : Who) : Bool := w.dom == d && !s.currentWho t w
  let s := { s with
    waiters := s.waiters.filter (fun w => !(homeStop w.pa == t && old w.who))
    winWaiters := s.winWaiters.filter (fun w => !(t == 0 && old w.who)) }
  let s := if t ≠ 0 then s else s.port.flows.foldl (fun (s : State) f =>
    if f.2.waiting.any (fun h => old h.who) then s.post s.now .windowAccessSend { EvArg.zero with n := 4, m := f.1 } else s) s
  let s := (clustersAt t).foldl (fun (s : State) cl => s.killCluster cl d) s
  let mine := (s.tasks.map (·.2)).filter (fun x => !x.done && x.dom == d && clusterStop x.cluster == t &&
    (x.running || x.holds || !x.evicted.isEmpty) && !s.current t x.dom x.inc)
  let s := mine.foldl State.killTask s
  let s := { s with tasks := s.tasks.map (fun (e : Nat × Task) =>
    if e.2.dom = d ∧ clusterStop e.2.cluster = t ∧ !s.current t e.2.dom e.2.inc then (e.1, { e.2 with staged := [] }) else e) }
  let ls := s.launches.filter (fun l => dispatchStop l.region == t && l.dom == d && !s.current t l.dom l.inc)
  let s := ls.foldl State.killLaunch s
  let ps := (s.packets.map (·.2)).filter (fun p =>
    dispatchStop p.region == t && ((s.region p.region).any (fun g => g.dom == d)))
  ps.foldl State.killQueued s

/-- DOMAIN_UPDATE_AT_STOP: the stop's copies take the new entry, which governs every check of this cycle (`Pending.rank`); where
the incarnation has changed, the kill takes effect at this stop (R353, R357). -/
def domainUpdateEffect (s : State) : State :=
  let e := s.ev
  let old := s.domAt e.n e.dom
  let s := (clustersAt e.n).foldl State.settleBefore s
  let s := { s with copies := NMap.set s.copies (256 * e.n + e.dom.toNat) e.v }
  if entryValid old && entryCur old != entryCur e.v then s.killAt e.n e.dom else s

/-- DOMAIN_UPDATE_AT_STOP (R353). -/
def execDomainUpdateAtStop (s : State) : Host.Outcome State Fault Refusal := .next (domainUpdateEffect s)

/-! ### Reclaim (R358, R361) -/

/-- Incarnation `i` is older than `c0`, counted from the watermark (R358). -/
def olderThan (c0 wm i : BitVec 10) : Bool := decide ((c0 - 1 - i).toNat < (c0 - wm).toNat)

/-- Stop that holds a request on its way, and its issuer. -/
def Pending.heldAt (p : Pending) : Option (Nat × Who) :=
  match p.ev with
  | .ctxParkAtTarget | .ctxResumeAtTarget | .ctxLoadPerform => some (clusterStop (targetCl p.arg.target.target), p.arg.target.who)
  | .ctxEvictAtTarget => if p.arg.n = 0 then some (clusterStop (targetCl p.arg.target.target), p.arg.target.who) else none
  | .launchEnqueue =>
    let l := p.arg.launch
    if p.arg.n = 0 then some (dispatchStop l.region, { l.who with dom := l.dom, inc := l.inc }) else none
  | .rcbBindAtDispatch => some (dispatchStop p.arg.bind.region, p.arg.bind.who)
  | .domainControllerRequest => if p.arg.n = 1 then none else some (0, p.arg.domreq.who)
  | .tableWalk => some (frondStop (p.arg.cl / 2), p.arg.who)
  | .icacheLineFill => if p.arg.m = 3 then some (homeStop p.arg.n, p.arg.who) else none
  | .frameRetireAtHome => some (p.arg.n, p.arg.who)
  | .pwrCfgAtDie => some (frondStop p.arg.n, p.arg.who)
  | .reclaimAtController => if p.arg.n = 0 ∨ p.arg.n = 3 then some (0, p.arg.who) else none
  | .responseAtSlot => if p.arg.n = 6 then some (catStop p.arg.v, p.arg.who) else none
  | .tlbInvAtTlb =>
    if 200 < p.arg.n then none
    else
      let site := if p.arg.n = 0 then 65 else (p.arg.n - 1) % 100
      some (if site = 65 then clusterStop p.arg.cl else if site = 64 then 0 else frondStop site, p.arg.who)
  | _ => none

/-- Stops that hold an access which is not performed: its cluster's until it leaves, then the home of each of its pieces, or the
port die's for a window. -/
def Access.heldAt (a : Access) : List Nat :=
  if a.pieces.isEmpty || !a.left then [clusterStop a.who.cl]
  else a.pieces.map (fun p => if inWindow p.pa then 0 else homeStop p.pa)

/-- A stop holds requests that a test on their domain and incarnation meets (R361). -/
def State.holdsAny (s : State) (t : Nat) (old : BitVec 8 → BitVec 10 → Bool) : Bool :=
  s.ctxs.any (fun e => e.2.accs.any (fun a => !a.performed && a.heldAt.contains t && old a.who.dom a.who.inc)) ||
    s.agenda.any (fun p => match p.heldAt with
      | some (x, w) => x == t && old w.dom w.inc
      | none => false) ||
    s.waiters.any (fun w => homeStop w.pa == t && old w.who.dom w.who.inc) ||
    s.launches.any (fun l => dispatchStop l.region == t && old l.dom l.inc) ||
    s.clusters.any (fun e => clusterStop e.1 == t &&
      e.2.chans.any (fun k => (k.state == 1 || k.state == 2 || !k.unanswered.isEmpty) && old k.who.dom k.who.inc)) ||
    (t == 0 && (s.winWaiters.any (fun w => old w.who.dom w.who.inc) ||
      s.port.reclaims.any (fun r => !r.active && old r.who.dom r.who.inc) ||
      s.port.flows.any (fun e => (e.2.held ++ e.2.waiting).any (fun h => old h.dom h.inc))))

/-- A registered reclaim. -/
def State.reclaimOf (s : State) (rid : Nat) : Option Reclaim := s.port.reclaims.find? (fun r => r.rid == rid)

/-- Change a registered reclaim. -/
def State.modReclaim (s : State) (rid : Nat) (f : Reclaim → Reclaim) : State :=
  s.modPort (fun p => { p with reclaims := p.reclaims.map (fun r => if r.rid = rid then f r else r) })

/-- End a reclaim: its registrations go, and its status travels back `after` cycles (R361). -/
def State.endReclaim (s : State) (r : Reclaim) (st : Byte) (detail after : Nat) : State :=
  (s.modPort (fun p => { p with reclaims := p.reclaims.filter (fun x => x.rid != r.rid) })).post
    (s.controllerBack r.who.cl + after) .responseAtSlot
    { EvArg.zero with n := 2, id := r.waitId, who := r.who, status := st, v := BitVec.ofNat 64 detail }

/-- DETAIL of a PARTIAL: how many stops, and the lowest of them (R361). -/
def reclaimDetail (stops : List Nat) : Nat := stops.length + (stops.foldl Min.min 127) * 2 ^ 7

/-- Register a reclaim whose turn it is with the 81 stops (R361). -/
def State.registerReclaim (s : State) (r : Reclaim) : State :=
  (List.range 81).foldl (fun (s : State) t =>
    s.post (s.now + broadcastTrip t) .reclaimStopAnswer { EvArg.zero with id := r.rid, n := t })
    (s.modReclaim r.rid (fun r => { r with active := true }))

/-- A reclaim arrives: C0 is captured in the order of the domain operations; a reclaim of the same domain that is
registered goes first (R361). `w` is the cycle of the arrival. -/
def State.admitReclaim (s : State) (e : EvArg) : State :=
  let d := e.dom
  let m := s.master d
  if !(entryValid m && entrySupv m == e.who.dom) || d == e.who.dom then
    s.refuseDomain e.who 2 d (e.value.setWidth 30) 0 true
  else
    let rid := s.uid
    let r : Reclaim :=
      { rid := rid, who := e.who, waitId := e.id, dom := d, c0 := entryCur m, once := e.m == 0
        deadline := e.w.toNat + e.v.toNat, answered := [], nonzero := [], active := false }
    let s := { s with uid := rid + 1 }.modPort (fun p => { p with reclaims := p.reclaims ++ [r] })
    let s := if r.once then s else s.post (r.deadline + 1) .reclaimDeadline { EvArg.zero with id := rid }
    s.post s.now .reclaimAtController { EvArg.zero with n := 1, id := rid }

/-- RECLAIM_AT_CONTROLLER. `n` = 2: the request leaves its cluster with the budget that is left. 0: it arrives; 3: it has
waited behind earlier domain operations. 1: it is registered when it is its turn (R353, R361). -/
def reclaimAtControllerEffect (s : State) : State :=
  let e := s.ev
  if e.n = 2 then
    let c := s.ctx e.cl e.cx
    match c.wait with
    | none => s
    | some w =>
      if w.id ≠ e.id ∨ !c.tagged e.who then s
      else
        s.post (s.controllerAt e.cl) .reclaimAtController
          { e with n := 0, m := if w.d = 0 then 0 else 1, dom := (nth w.ops 0 0).setWidth 8
                   v := BitVec.ofNat 64 (w.deadline - s.now), value := w.bpc.setWidth 128 }
  else if e.n = 1 then
    match s.reclaimOf e.id with
    | none => s
    | some r =>
      if s.port.reclaims.any (fun x => x.dom == r.dom && decide (x.rid < r.rid)) then s.post (s.now + 1) .reclaimAtController e
      else s.registerReclaim r
  else
    let e := if e.n = 0 then { e with w := BitVec.ofNat 64 s.now } else e
    if e.n = 0 && s.domainWaiting 0 then s.post s.now .reclaimAtController { e with n := 3 }
    else if e.n = 3 && s.domainWaiting (s.now + 1) then s.post (s.now + 1) .reclaimAtController e
    else if !s.currentWho 0 e.who then s.dropStale 0 e.who.dom e.who.inc e.dom.toNat
    else s.admitReclaim e

/-- RECLAIM_AT_CONTROLLER (R361). -/
def execReclaimAtController (s : State) : Host.Outcome State Fault Refusal := .next (reclaimAtControllerEffect s)

/-- The last answer of a reclaim has come: WM becomes C0, broadcast before the status is sent; one with a deadline of 0
ends PARTIAL where a stop's count was not zero (R361). -/
def State.reclaimComplete (s : State) (r : Reclaim) : State :=
  if r.nonzero.isEmpty then
    let e := s.master r.dom
    (s.broadcast r.dom (domEntry e r.c0 (entryCur e))).endReclaim r 0 0 broadcastAcks
  else s.endReclaim r 5 (reclaimDetail r.nonzero) 0

/-- RECLAIM_STOP_ANSWER. `m` = 0: a stop answers when its count of older requests is zero, with a deadline of 0 at once.
1: its answer reaches the controller; 2: its answer that the count was not zero (R361). -/
def reclaimStopAnswerEffect (s : State) : State :=
  let e := s.ev
  match s.reclaimOf e.id with
  | none => s
  | some r =>
    if e.m = 0 then
      let wm := entryWm (s.master r.dom)
      let held := s.holdsAny e.n (fun d i => d == r.dom && olderThan r.c0 wm i)
      if held && !r.once then s.post (s.now + 1) .reclaimStopAnswer e
      else s.post (s.now + broadcastTrip e.n) .reclaimStopAnswer { e with m := if held then 2 else 1 }
    else
      let r := { r with answered := e.n :: r.answered, nonzero := if e.m = 2 then e.n :: r.nonzero else r.nonzero }
      let s := s.modReclaim r.rid (fun _ => r)
      if r.answered.length = 81 then s.reclaimComplete r else s

/-- RECLAIM_STOP_ANSWER (R361). -/
def execReclaimStopAnswer (s : State) : Host.Outcome State Fault Refusal := .next (reclaimStopAnswerEffect s)

/-- RECLAIM_DEADLINE: the controller's deadline has passed, so the reclaim ends PARTIAL (R361). -/
def reclaimDeadlineEffect (s : State) : State :=
  match s.reclaimOf s.ev.id with
  | none => s
  | some r => s.endReclaim r 5 (reclaimDetail ((List.range 81).filter (fun t => !r.answered.contains t))) 0

/-- RECLAIM_DEADLINE (R361). -/
def execReclaimDeadline (s : State) : Host.Outcome State Fault Refusal := .next (reclaimDeadlineEffect s)

end Sys2Proof.Machine
end

