-- ==== Sys2Proof/Machine/Invalidate.lean ====
section
/-! DEFINITION. tlb.inv: the removal of translations at the buffers in scope (R342, R370 to R374). -/

namespace Sys2Proof.Machine

/-- TLB_INV: a wait; its request leaves at cycle 6 (R372). -/
def tlbInvEffect (a b c : BitVec 6) (e all : BitVec 1) (sc : BitVec 2) (s : State) : State :=
  let u := s.issue
  let s := s.startWait .tlbInv ((encode (.tlbInv a b c e all sc)).getD 0) c none (deadlineOf (s.opG c)) [s.opG a, s.opG b]
    (e == 1) sc
  match s.issueCtx.wait with
  | some w => s.sendTlbInv u.cl u.cx w (s.issueCtx.who u.cl u.cx)
  | none => s

/-- TLB_INV (R372). -/
def execTlbInv (a b c : BitVec 6) (e all : BitVec 1) (sc : BitVec 2) (s : State) : Host.Outcome State Fault Refusal :=
  .next (s.asBundle (.tlbInv a b c e all sc) (tlbInvEffect a b c e all sc))

/-- What an invalidation covers: a domain, and first and last page; `all` for every page (R372). -/
structure Covered where
  dom : BitVec 8
  all : Bool
  lo : Nat
  hi : Nat
  deriving DecidableEq, Repr

/-- Domain and pages of the operands (R372). -/
def Covered.of (a b : W64) (all : Bool) : Covered :=
  { dom := a.extractLsb' 56 8, all := all, lo := wbits a 51 16, hi := wbits a 51 16 + (b.toNat - 1) / 2 ^ 16 }

/-- Pages first to last overlap what is covered. -/
def Covered.meets (v : Covered) (first last : Nat) : Bool := v.all || (decide (first ≤ v.hi) && decide (v.lo ≤ last))

/-- A buffer entry is removed; a block entry when it overlaps the range (R372). -/
def Covered.removes (v : Covered) (e : TlbEntry) : Bool :=
  e.dom == v.dom && v.meets e.vpn (if e.block then e.vpn + 8191 else e.vpn)

/-- Sites of the buffers: 0 to 63 a frond die with both its clusters, 64 the port die, 65 the issuing cluster. -/
def invSites (sc : Nat) (cl : Nat) : List Nat :=
  if sc = 0 then [65] else if sc = 1 then [cl / 2] else List.range 65

/-- Clusters whose buffers are at a site. -/
def siteClusters (site cl : Nat) : List Nat :=
  if site = 65 then [cl] else if site = 64 then [] else [2 * site, 2 * site + 1]

/-- Cycles between the issuing cluster and a site. -/
def siteTrip (site cl : Nat) : Nat :=
  if site = 65 ∨ site = cl / 2 then 0
  else 22 + 3 * hops (clusterStop cl) (if site = 64 then 0 else frondStop site)

/-- Remove the entries at a site; walks of covered pages in flight fill nothing; fetches in flight, translated or read, are noted
under the operation's identifier beside those of others (R373). -/
def State.removeAt (s : State) (v : Covered) (site cl id : Nat) : State :=
  let cls := siteClusters site cl
  let gone (l : List TlbEntry) : List TlbEntry := l.filter (fun e => !v.removes e)
  let s := cls.foldl (fun (s : State) x => s.modCluster x (fun k => { k with tlbs := k.tlbs.map gone })) s
  let s := if site < 64 then s.modFrond site (fun f => { f with tlb2 := gone f.tlb2 })
    else if site = 64 then s.modPort (fun p => { p with tlb2 := gone p.tlb2 })
    else s
  let mark (p : Pending) : Pending :=
    if p.ev == .tableWalk && cls.contains p.arg.cl && p.arg.dom == v.dom &&
        v.meets (p.arg.v.toNat / 2 ^ 16) (p.arg.v.toNat / 2 ^ 16) then { p with arg := { p.arg with m := 1 } }
    else if p.ev == .icacheLineFill && cls.contains p.arg.cl && (p.arg.m == 1 || p.arg.m == 3) && p.arg.who.dom == v.dom then
      { p with arg := { p.arg with target := { p.arg.target with after := id :: p.arg.target.after } } }
    else p
  { s with agenda := s.agenda.map mark }

/-- Suspended copy channels of a site's clusters whose faulting address is covered retry (R342, R373). -/
def State.retryCopies (s : State) (v : Covered) (site cl : Nat) : State :=
  (siteClusters site cl).foldl (fun (s : State) x =>
    (List.range 16).foldl (fun (s : State) n =>
      match (s.cluster x).chan n with
      | some k =>
        if k.state = 2 ∧ k.who.dom = v.dom ∧ v.meets (k.faultVa.toNat / 2 ^ 16) (k.faultVa.toNat / 2 ^ 16) then
          s.post s.now .copyTranslationRetry (EvArg.at x n k.cmd)
        else s
      | none => s) s) s

/-- An access that an entry removed may have translated is not performed: issued below an identifier, translated, on a
page of a block that is covered (R373). -/
def Covered.awaits (v : Covered) (uid : Nat) (a : Access) : Bool :=
  let wide : Covered := { v with lo := v.lo / 8192 * 8192, hi := v.hi / 8192 * 8192 + 8191 }
  !a.performed && !a.pieces.isEmpty && space a.va == 0 && a.who.dom == v.dom && decide (a.id < uid) &&
    wide.meets (a.va.toNat / 2 ^ 16) ((a.va.toNat + (a.size - 1)) / 2 ^ 16)

/-- A window request of a copy command, sent below an identifier, is unanswered or waits to be sent (R373, R401). -/
def State.copyAsking (s : State) (v : Covered) (cl uid : Nat) : Bool :=
  s.port.flows.any (fun f => (f.2.held ++ f.2.waiting).any (fun h =>
    decide (h.rid < uid) && h.who.dom == v.dom && (match h.acc with
      | .channel c _ => c == cl
      | _ => false)))

/-- Everything a site waits for before it answers is done (R373). -/
def State.siteDone (s : State) (v : Covered) (site cl id uid : Nat) : Bool :=
  let cls := siteClusters site cl
  cls.all (fun x => (List.range 8 ++ s.shadows x).all (fun cx => !(s.ctx x cx).accs.any (v.awaits uid)) && !s.copyAsking v x uid) &&
    !s.agenda.any (fun p => p.ev == .icacheLineFill && p.arg.target.after.contains id && cls.contains p.arg.cl)

/-- An invalidation of every page at device scope: the directory entries are read again from now on (R374). -/
def State.forgetDir (s : State) (v : Covered) (sc : Nat) : State :=
  if v.all && decide (2 ≤ sc) then { s with dirs := NMap.erase s.dirs v.dom.toNat } else s

/-- With D = 0 the condition is evaluated once, as the request reaches each place: where it does not hold there, the answer is
TIMEOUT, and the invalidation still completes (R123, R373). -/
def State.onceInv (s : State) (e : EvArg) (trip : Nat) : State :=
  if e.target.target = 1 ∧ e.status = 0 then
    s.post (s.now + trip + 1) .responseAtSlot { EvArg.zero with n := 2, id := e.id, who := e.who, status := 1 }
  else s

/-- TLB_INV_AT_TLB. `n` = 0: once every earlier access is performed the operation begins, unless its domain may not be
named; with `status` 1 a place has been asked before. 1 + site: it reaches the buffers of a site, which remove what is covered. 101 + site: the site answers when the
accesses those entries translated are over. 201: an answer is back; after the last one the wait ends OK (R372, R373). -/
def tlbInvAtTlbEffect (s : State) : State :=
  let e := s.ev
  let t := clusterStop e.cl
  let v := Covered.of e.v e.w (e.m / 4 == 1)
  if e.n = 0 then
    if !s.currentWho t e.who then s.dropStale t e.who.dom e.who.inc e.v.toNat
    else if v.dom ≠ e.who.dom ∧ !s.supervises t e.who.dom v.dom then
      s.post s.now .deferredFault
        { EvArg.at e.cl e.cx 0 with n := 5, who := e.who, v := e.v, value := e.value, status := 1 }
    else if !s.coversDone e.cl e.target.after then
      (s.onceInv e 0).post (s.now + 1) .tlbInvAtTlb { e with status := 1 }
    else
      (invSites (e.m % 4) e.cl).foldl (fun (s : State) x =>
        s.post (s.now + siteTrip x e.cl) .tlbInvAtTlb { e with n := 1 + x, status := 0 }) (s.forgetDir v (e.m % 4))
  else if e.n ≤ 100 then
    let site := e.n - 1
    let s := (s.removeAt v site e.cl e.id).retryCopies v site e.cl
    s.post s.now .tlbInvAtTlb { e with n := 101 + site, target := { e.target with cctr := BitVec.ofNat 64 s.uid } }
  else if e.n ≤ 200 then
    let site := e.n - 101
    if s.siteDone v site e.cl e.id e.target.cctr.toNat then
      s.post (s.now + siteTrip site e.cl) .tlbInvAtTlb { e with n := 201 }
    else (s.onceInv e (siteTrip site e.cl)).post (s.now + 1) .tlbInvAtTlb { e with status := 1 }
  else if s.agenda.any (fun p => p.ev == .tlbInvAtTlb && p.arg.id == e.id) then s
  else s.post (s.now + 1) .responseAtSlot { EvArg.zero with n := 2, id := e.id, who := e.who, status := 0 }

/-- TLB_INV_AT_TLB (R373). -/
def execTlbInvAtTlb (s : State) : Host.Outcome State Fault Refusal := .next (tlbInvAtTlbEffect s)

end Sys2Proof.Machine
end

