-- ==== Sys2Proof/Machine/Reliab.lean ====
section
/-! DEFINITION. Errors over time: the catalogue's instructions, retired frames, the patrol scrub, error windows, spares and
withdrawn units (R381, R385 to R387, R389, R390); power and heat: the bucket, its controls, droop (R327, R426, R427). -/

namespace Sys2Proof.Machine

/-! ### The catalogue (R390) -/

/-- Cycle in which an answer about a stop's catalogue is back, or an err.clr has reached it (R390). -/
def State.catAt (s : State) (i : W64) : Nat :=
  s.now + 56 + 6 * (if catStop i ≤ 80 then hops (clusterStop s.issue.cl) (catStop i) else 0)

/-- ERR_READ (R390). -/
def execErrRead (a c : BitVec 6) (s : State) : Host.Outcome State Fault Refusal :=
  .next (s.asBundle (.errRead a c) (fun s => s.askRegister c (s.catAt (s.opG a)) 5 (s.opG a) 0))

/-- ERR_CLR: posted (R390). -/
def errClrEffect (a : BitVec 6) (s : State) : State :=
  let u := s.issue
  s.post (s.catAt (s.opG a)) .responseAtSlot
    { EvArg.at u.cl u.cx 0 with n := 6, who := s.issueCtx.who u.cl u.cx, v := s.opG a, value := u.pc.setWidth 128 }

/-- ERR_CLR (R390). -/
def execErrClr (a : BitVec 6) (s : State) : Host.Outcome State Fault Refusal :=
  .next (s.asBundle (.errClr a) (errClrEffect a))

/-! ### Retired frames (R387) -/

/-- FRAME_RETIRE: posted to the frame's home (R387). -/
def frameRetireEffect (a : BitVec 6) (s : State) : State :=
  let u := s.issue
  let pa := (s.opG a).toNat
  let home := if s.inLpddr pa then homeStop pa else clusterStop u.cl
  s.post (s.now + 6 + 22 + 3 * hops (clusterStop u.cl) home) .frameRetireAtHome
    { EvArg.at u.cl u.cx 0 with n := home, who := s.issueCtx.who u.cl u.cx, v := s.opG a, value := u.pc.setWidth 128 }

/-- FRAME_RETIRE (R387). -/
def execFrameRetire (a : BitVec 6) (s : State) : Host.Outcome State Fault Refusal :=
  .next (s.asBundle (.frameRetire a) (frameRetireEffect a))

/-- FRAME_RETIRE_AT_HOME: the frame is retired from now on and listed, unless the request is refused (R387, R389). -/
def frameRetireAtHomeEffect (s : State) : State :=
  let e := s.ev
  let pa := e.v.toNat
  if !s.currentWho e.n e.who then s.dropStale e.n e.who.dom e.who.inc pa
  else if pa % 2 ^ 16 ≠ 0 ∨ !s.inLpddr pa ∨ !entryBind (s.domAt e.n e.who.dom) then
    s.deferK (s.now + 22 + 3 * hops e.n (clusterStop e.cl)) e.who 5 0 e.v (e.value.setWidth 30) 0 0
  else
    let f := pa / 2 ^ 16
    let s := s.modArchive (pa / 2 ^ 37) (fun a => if a.retired.contains f then a else { a with retired := f :: a.retired })
    let count := s.errorsOf e.n (.frame f)
    let s := s.logCat e.n 7 0 e.who.dom e.who.inc pa count 0
    if s.port.retired.contains f then s
    else if s.port.retired.length < 4096 then s.modPort (fun p => { p with retired := p.retired ++ [f] })
    else s.logCat 0 7 0 e.who.dom e.who.inc pa count 0

/-- FRAME_RETIRE_AT_HOME (R387). -/
def execFrameRetireAtHome (s : State) : Host.Outcome State Fault Refusal := .next (frameRetireAtHomeEffect s)

/-! ### The patrol scrub and error windows (R377, R381, R385, R386) -/

/-- Scrub a sector: a correction is written back and counted, an uncorrectable sector is poisoned, noted and alerted. -/
def State.scrubSector (s : State) (sec : Nat) : State :=
  let bad := (decodeSyn (NMap.getD s.syn sec 0)).bad
  let s := s.settleSector sec
  if bad.isEmpty then s else s.alert

/-- PATROL_SCRUB: archive die `n` has read every LPDDR and staging sector behind it, and begins its next period (R381). -/
def patrolScrubEffect (s : State) : State :=
  let e := s.ev
  let mine := (s.syn.map (·.1)).filter (fun x => decide (32 * x < 2 ^ 49) && homeStop (32 * x) == archiveStop e.n)
  (mine.foldl State.scrubSector s).post (s.now + 2 ^ 38) .patrolScrub e

/-- PATROL_SCRUB (R381). -/
def execPatrolScrub (s : State) : Host.Outcome State Fault Refusal := .next (patrolScrubEffect s)

/-- ERROR_WINDOW_START: at stop `n` every source's count starts again; what has been declared lasting stays so (R385). A
window in which no error is found needs no step. -/
def errorWindowEffect (s : State) : State :=
  s.modStop s.ev.n (fun st => { st with sources := (st.sources.filter (·.lasting)).map (fun e => { e with count := 0 }) })

/-- ERROR_WINDOW_START (R385). -/
def execErrorWindowStart (s : State) : Host.Outcome State Fault Refusal := .next (errorWindowEffect s)

/-- Cycle of the next step of another kind, at the latest 16 cycles on: when to look again. -/
def State.lookAgain (s : State) (ev : Instr) : Nat :=
  Max.max (s.now + 1) (((s.agenda.filter (fun p => p.ev != ev)).map (·.time)).foldl Min.min (s.now + 16))

/-- Cluster and core of a core source, and its kind (R385). -/
def Source.place : Source → Option (Nat × Nat × Nat)
  | .bank cl core _ => some (cl, core, 0)
  | .folioGroup cl core _ => some (cl, core, 1)
  | .shelf cl core _ => some (cl, core, 2)
  | .vregs cl core => some (cl, core, 3)
  | .column cl core _ => some (cl, core, 4)
  | _ => none

/-- Catalogue code and unit number of a core source (R389). -/
def Source.code : Source → Nat × Nat
  | .bank _ _ n => (2, n)
  | .folioGroup _ _ n => (3, n)
  | .shelf _ _ n => (4, n)
  | .vregs _ _ => (5, 0)
  | .column _ _ n => (6, n)
  | _ => (8, 0)

/-- SPARE_SUBSTITUTION: once no task holds storage on the cluster, the core's spare of the kind takes a lasting source's
place; where it is used already, the cluster is withdrawn (R385). -/
def spareEffect (s : State) : State :=
  let e := s.ev
  match e.source.place with
  | none => s
  | some p =>
    let cl := p.1
    let k := s.cluster cl
    if !k.tasks.isEmpty then s.post (s.lookAgain .spareSubstitution) .spareSubstitution e
    else if k.spares.any (fun x => x.place == some p) then
      (s.modCluster cl (fun k => { k with withdrawn := true })).wantStart cl
    else
      let t := clusterStop cl
      let count := s.errorsOf t e.source
      let s := s.modCluster cl (fun k => { k with spares := e.source :: k.spares })
      let s := s.modStop t (fun st => { st with sources := st.sources.filter (fun x => x.source != e.source) })
      s.logCat t 8 e.source.code.1 0 0 e.source.code.2 count 0

/-- SPARE_SUBSTITUTION (R385). -/
def execSpareSubstitution (s : State) : Host.Outcome State Fault Refusal := .next (spareEffect s)

/-- STAGING_UNIT_WITHDRAW: unit `m` of slice `n` is withdrawn once no task holds it, in its run or for its commit space (R84,
R385). -/
def stagingWithdrawEffect (s : State) : State :=
  let e := s.ev
  let used := s.tasks.any (fun x =>
    x.2.holds && (x.2.cunits.contains (e.n, e.m) ||
      (x.2.sbase / 2 ^ 24 == e.n && decide (x.2.sbase % 2 ^ 24 / 2 ^ 16 ≤ e.m) &&
        decide (e.m < x.2.sbase % 2 ^ 24 / 2 ^ 16 + x.2.tstg))))
  if used then s.post (s.lookAgain .stagingUnitWithdraw) .stagingUnitWithdraw e
  else
    let s := s.modArchive (e.n / 8) (fun a =>
      if a.withdrawn.contains (e.n, e.m) then a else { a with withdrawn := (e.n, e.m) :: a.withdrawn })
    let a := stagingKey e.n (e.m * 2 ^ 16)
    s.logCat (homeStop a) 7 1 0 0 (keyAddr a) (s.errorsOf (homeStop a) (homeSource a)) 0

/-- STAGING_UNIT_WITHDRAW (R385). -/
def execStagingUnitWithdraw (s : State) : Host.Outcome State Fault Refusal := .next (stagingWithdrawEffect s)

/-! ### Power controls (R327, R427) -/

/-- A selector and its value are ones R427 allows. -/
def pwrValueOk (sel : Nat) (v : W64) : Bool :=
  match sel with
  | 1 => decide (1 ≤ v.toNat) && decide (v.toNat ≤ 2 ^ 40)
  | 2 => decide (v.toNat ≤ 1024)
  | 3 => decide (400 ≤ v.toNat) && decide (v.toNat ≤ 490)
  | _ => false

/-- PWR_CFG: posted to each die it names; a refusal is found at cycle 6 (R209, R427). -/
def pwrCfgEffect (a b : BitVec 6) (s : State) : State :=
  let u := s.issue
  let w := s.issueCtx.who u.cl u.cx
  let die := wbits (s.opG a) 15 8
  let sel := wbits (s.opG a) 7 0
  let t := clusterStop u.cl
  if !pwrValueOk sel (s.opG b) || !(decide (die < 64) || die == 255) || !entryBind (s.domAt t w.dom) then
    s.deferK (s.now + 6) w 5 0 0 u.pc 0 0
  else
    (if die = 255 then List.range 64 else [die]).foldl (fun (s' : State) f =>
      s'.post (s.now + 56 + 6 * hops t (frondStop f)) .pwrCfgAtDie
        { EvArg.at u.cl u.cx 0 with n := f, m := sel, v := s.opG b, who := w }) s

/-- PWR_CFG (R427). -/
def execPwrCfg (a b : BitVec 6) (s : State) : Host.Outcome State Fault Refusal :=
  .next (s.asBundle (.pwrCfg a b) (pwrCfgEffect a b))

/-- PWR_CFG_AT_DIE: the control of die `n` changes, after the vector starts of the cycle; of requests that
arrive together, the lower cluster's goes first (R427, R430). -/
def pwrCfgAtDieEffect (s : State) : State :=
  let e := s.ev
  let v := e.v.toNat
  if s.agenda.any (fun p => decide (p.time ≤ s.now) &&
      (p.ev == .streamChunk || (p.ev == .pwrCfgAtDie && p.arg.n == e.n && decide (p.arg.cl < e.cl)))) then
    s.post s.now .pwrCfgAtDie e
  else if !s.currentWho (frondStop e.n) e.who then s.dropStale (frondStop e.n) e.who.dom e.who.inc v
  else
    (s.modFrond e.n (fun f =>
      match e.m with
      | 1 => { f with cap := v, bucket := Min.min f.bucket v }
      | 2 => { f with refill := v }
      | _ => { f with dth := v })).startRefill e.n

/-- PWR_CFG_AT_DIE (R427). -/
def execPwrCfgAtDie (s : State) : Host.Outcome State Fault Refusal := .next (pwrCfgAtDieEffect s)

/-- POWER_BUCKET_REFILL: die `n` gains its refill, half of it when it has been hot, up to its capacity (R327, R426). -/
def powerRefillEffect (s : State) : State :=
  let n := s.ev.n
  let s := s.modFrond n (fun f =>
    { f with bucket := Min.min f.cap (f.bucket + if f.halved then f.refill / 2 else f.refill), refilling := false })
  if (s.frond n).refill = 0 then s else s.startRefill n

/-- POWER_BUCKET_REFILL (R327). -/
def execPowerBucketRefill (s : State) : Host.Outcome State Fault Refusal := .next (powerRefillEffect s)

/-! ### Droop and heat (R426) -/

/-- Frond die at a stop. -/
def frondAt (t : Nat) : Option Nat := (List.range 64).find? (fun f => frondStop f == t)

/-- Droop threshold of the die at a stop, in mV: of a frond die as set, of any other die the default (R427). -/
def State.droopThreshold (s : State) (t : Nat) : Nat := ((frondAt t).map (fun f => (s.frond f).dth)).getD 460

/-- DROOP_STRETCH: the supply of the die at stop `n` falls to `m` mV; below the threshold its clock stretches, and the
event is counted (R426). Stretched cycles count as cycles. -/
def droopStretchEffect (s : State) : State :=
  let e := s.ev
  if e.m < s.droopThreshold e.n ∧ !(s.stop e.n).stretched then
    s.modStop e.n (fun st => { st with stretched := true, droopc := st.droopc + 1 })
  else s

/-- DROOP_STRETCH (R426). -/
def execDroopStretch (s : State) : Host.Outcome State Fault Refusal := .next (droopStretchEffect s)

/-- DROOP_RECOVERY: the supply of the die at stop `n` is back at `m` mV (R426). -/
def droopRecoveryEffect (s : State) : State :=
  let e := s.ev
  if s.droopThreshold e.n ≤ e.m then s.modStop e.n (fun st => { st with stretched := false }) else s

/-- DROOP_RECOVERY (R426). -/
def execDroopRecovery (s : State) : Host.Outcome State Fault Refusal := .next (droopRecoveryEffect s)

/-- TEMP_REFILL_HALVE: the die at stop `n` reads `m` tenths of a degree; from 95 degrees on its bucket's refill is halved
(R426, R428). -/
def tempHalveEffect (s : State) : State :=
  let e := s.ev
  let s := s.modStop e.n (fun st => { st with temp := BitVec.ofNat 16 e.m })
  match frondAt e.n with
  | some f => if 950 ≤ e.m then s.modFrond f (fun x => { x with halved := true }) else s
  | none => s

/-- TEMP_REFILL_HALVE (R426). -/
def execTempRefillHalve (s : State) : Host.Outcome State Fault Refusal := .next (tempHalveEffect s)

/-- THERMAL_STOP: the die at stop `n` reads `m` tenths of a degree; from 105 degrees on the module issues no more bundles
until its power is cycled, and an entry says so (R426). -/
def thermalStopEffect (s : State) : State :=
  let e := s.ev
  let s := s.modStop e.n (fun st => { st with temp := BitVec.ofNat 16 e.m })
  if 1050 ≤ e.m ∧ !s.port.thermal then
    (s.modPort (fun p => { p with thermal := true })).logCat e.n 10 8 0 0 0 0 1
  else s

/-- THERMAL_STOP (R426). -/
def execThermalStop (s : State) : Host.Outcome State Fault Refusal := .next (thermalStopEffect s)

end Sys2Proof.Machine
end

