-- ==== Sys2Proof/Machine/Tirel.lean ====
section
/-! DEFINITION. Tirel frames and flows, and the requests that the host and the peers send: their checks, their order, their
performance and their responses (R121, R392 to R402, R405, R406). -/

namespace Sys2Proof.Machine

/-! ### Frames (R394, R395) -/

/-- OP of a frame. -/
def Frame.op (f : Frame) : Nat := wbits f.d0 59 56
/-- FLOW of a frame. -/
def Frame.flow (f : Frame) : Nat := wbits f.d0 55 48
/-- DOM of a frame. -/
def Frame.dom (f : Frame) : BitVec 8 := f.d0.extractLsb' 40 8
/-- INC of a frame. -/
def Frame.inc (f : Frame) : BitVec 10 := f.d0.extractLsb' 30 10
/-- ATOP of a frame. -/
def Frame.atop (f : Frame) : Nat := wbits f.d0 23 16
/-- LEN of a frame. -/
def Frame.len (f : Frame) : Nat := wbits f.d0 15 0
/-- SEQ of a frame. -/
def Frame.seq (f : Frame) : BitVec 48 := f.d1.extractLsb' 16 48
/-- STATUS of a frame. -/
def Frame.status (f : Frame) : Byte := f.d1.extractLsb' 8 8
/-- Management code of a frame (R403). -/
def Frame.code (f : Frame) : Nat := wbits f.d3 7 0
/-- Dword `i` of a payload. -/
def Frame.pay (f : Frame) (i : Nat) : W64 := leDword ((f.payload.drop (8 * i)).take 8)

/-- The payload has the length LEN says, and LEN is what OP requires (R394, R395, R403). -/
def Frame.lenOk (f : Frame) : Bool :=
  let n := f.len
  decide (n ≤ 8192) && f.payload.length == n &&
    match f.op with
    | 1 | 4 | 9 => n == 0
    | 3 => n == if f.atop % 16 = 9 then 8 else 0
    | 5 => n == 136
    | 6 =>
      match f.code with
      | 1 => n == 48
      | 2 | 3 => n == 8
      | 4 => n == 16
      | 5 => n == 64
      | _ => true
    | _ => true

/-- ATOP names a read-modify-write of the LSU kinds 0x10 to 0x19 or 0x20 to 0x29 (R394). -/
def Frame.atopOk (f : Frame) : Bool := (f.atop / 16 == 1 || f.atop / 16 == 2) && decide (f.atop % 16 ≤ 9)

/-- What is wrong with a header, as the place in R394's list of conditions (R389, R394). A field that its use requires to be
0 counts as reserved, an atomic whose ATOP names no operation as one with an unassigned OP (log 60). -/
def Frame.fault (f : Frame) : Option Nat :=
  if wbits f.d0 63 60 ≠ 1 then some 1
  else if wbits f.d0 28 24 ≠ 0 ∨ wbits f.d1 7 0 ≠ 0 ∨ (f.op ≠ 3 ∧ f.atop ≠ 0) ∨ (f.op ≤ 6 ∧ f.status ≠ 0) then some 2
  else if !(decide (1 ≤ f.op) && decide (f.op ≤ 6) || f.op == 8 || f.op == 9) || (f.op == 3 && !f.atopOk) then some 3
  else if !f.lenOk then some 4
  else none

/-- The step that a management request is (R403, R428). -/
def Frame.mgmtEvent (f : Frame) : Instr :=
  let reg := wbits (f.pay 0) 15 0
  match f.code with
  | 1 => .mgmtOpen
  | 2 => .mgmtClose
  | 3 => if 0x80 ≤ reg ∧ reg ≤ 0xD0 then .droopcRead else .mgmtReadRegister
  | 4 => if reg = 3 then .fwminWrite else if 0x120 ≤ reg ∧ reg ≤ 0x127 then .msextWrite else .mgmtWriteRegister
  | 5 => .mgmtAttest
  | _ => .mgmtReadRegister

/-- The step that a frame with a good header is (R395). -/
def Frame.event (f : Frame) : Instr :=
  match f.op with
  | 1 => .tirelRead
  | 2 => .tirelWrite
  | 3 => .tirelAtomic
  | 4 => .tirelCtrAdd
  | 5 => .tirelLaunch
  | 6 => f.mgmtEvent
  | 8 => .tirelResponse
  | _ => .tirelAck

/-- Dword 0 of a header (R394). -/
def header0 (op flow : Nat) (dom : BitVec 8) (inc : BitVec 10) (acq : Bool) (atop len : Nat) : W64 :=
  BitVec.ofNat 64 (2 ^ 60 + op * 2 ^ 56 + flow * 2 ^ 48 + dom.toNat * 2 ^ 40 + inc.toNat * 2 ^ 30 +
    (if acq then 2 ^ 29 else 0) + atop * 2 ^ 16 + len)

/-- Dword 1 of a header (R394). -/
def header1 (seq : BitVec 48) (st : Byte) : W64 := (seq.setWidth 64 <<< 16) ||| (st.setWidth 64 <<< 8)

/-! ### Flows (R396) -/

/-- An open flow. -/
def State.flow (s : State) (f : Nat) : Option Flow := NMap.get? s.port.flows f

/-- Replace a flow. -/
def State.setFlow (s : State) (f : Nat) (x : Flow) : State := s.modPort (fun p => { p with flows := NMap.set p.flows f x })

/-- What marks a frame as Tirel's at a port (R393). -/
def State.tirelIdent (s : State) (routed : Bool) : BitVec 16 := if routed then s.port.udpp else s.port.etype

/-- Send a frame. -/
def State.sendFrame (s : State) (f : Frame) : State := s.modPort (fun p => { p with outbox := f :: p.outbox })

/-- Count a discarded frame at a port (R393). -/
def State.discardOther (s : State) (port : Nat) : State :=
  s.modPort (fun p => { p with discards := NMap.modify p.discards port 0 (· + 1) })

/-- Discard a Tirel frame with an entry (R394, R396). -/
def State.discardTirel (s : State) (f : Frame) (info : Nat) : State := s.logRefused 0 8 f.dom f.inc f.d2.toNat info

/-- The flow a frame arrives on: the one it names, on that flow's port and in its encapsulation; flow 0 takes frames of
either host port in either (R396, R420). -/
def State.flowOf (s : State) (f : Frame) : Option Flow :=
  (s.flow f.flow).filter (fun x =>
    if f.flow = 0 then decide (f.port < 2) else x.port == f.port && x.routed == f.routed)

/-- A frame of the kind `ev` has arrived at a port. A frame that is not Tirel's, or has a bad header, or names a flow that is
not open, is discarded; one of another kind is left to that kind's step (R393, R394, R396). -/
def State.receive (s : State) (ev : Instr) (k : Flow → Frame → State → State) : State :=
  let f := s.ev.frame
  if !s.port.links.getLsbD f.port then s
  else if f.ident ≠ s.tirelIdent f.routed then s.discardOther f.port
  else match f.fault with
    | some n => s.discardTirel f n
    | none =>
      if f.event ≠ ev then s.post s.now f.event s.ev
      else match s.flowOf f with
        | none => s.discardTirel f 1
        | some x => k x f s

/-! ### The order of requests (R121, R397) -/

/-- Keep requests in the order of their sequence numbers. -/
def insertFrame (f : Frame) : List Frame → List Frame
  | [] => [f]
  | x :: r => if f.seq.toNat < x.seq.toNat then f :: x :: r else x :: insertFrame f r

/-- The request of a flow to perform next: in ordered mode the next in sequence; in unordered mode the lowest that may go,
a counter add or a launch only after every lower one (R121, R397). -/
def Flow.next (x : Flow) : Option Frame :=
  x.reorder.find? (fun f =>
    x.launching != some f.seq && (!(x.ordered || f.op == 4 || f.op == 5) || f.seq.toNat == x.expected))

/-- Go on with a flow: its next request is performed now. -/
def State.serveFlow (s : State) (n : Nat) : State :=
  match s.flow n with
  | none => s
  | some x =>
    match x.next with
    | none => s
    | some f =>
      if s.agenda.any (fun p => p.arg.n == 2 && p.arg.m == n && p.arg.id == x.uid && p.ev == p.arg.frame.event) then s
      else s.post s.now f.event { EvArg.zero with n := 2, m := n, id := x.uid, frame := f }

/-- A request has arrived: one performed already is answered from the cache; one held already, or too far ahead, is
discarded; any other is held until it is performed (R397, R406). -/
def acceptRequest (x : Flow) (f : Frame) (s : State) : State :=
  let q := f.seq.toNat
  if q < x.expected ∨ x.performed.contains q then
    match x.cache.find? (fun c => c.seq == f.seq) with
    | some c => s.sendFrame { c with port := f.port }
    | none => s
  else if x.reorder.any (fun c => c.seq == f.seq) ∨ x.expected + 64 ≤ q then s
  else (s.setFlow f.flow { x with reorder := insertFrame f x.reorder }).serveFlow f.flow

/-- What a request is answered: status, OPND where the spec states it, payload (R395, R403). -/
structure Reply where
  status : Byte
  value : Option W64
  payload : List Byte
  deriving DecidableEq, Repr

/-- A bare status; OPND is 0 for a read, a write and a launch (R395). -/
def Reply.ofStatus (op : Nat) (st : Byte) : Reply :=
  { status := st, value := if op = 1 ∨ op = 2 ∨ op = 5 then some 0 else none, payload := [] }

/-- Advance the next expected sequence number past what has been performed; `fuel` bounds it. -/
def advance (done : List Nat) : Nat → Nat → Nat
  | 0, e => e
  | k + 1, e => if done.contains e then advance done k (e + 1) else e

/-- A request is performed: its response is kept and sent, and the flow goes on (R395 to R397). Header fields of a response
whose value is not stated are free values. -/
def State.finish (s : State) (n : Nat) (f : Frame) (r : Reply) : State :=
  match s.flow n with
  | none => s
  | some x =>
    let a := s.takeFree
    let v : W64 × State := match r.value with
      | some v => (v, a.2)
      | none => a.2.takeFree
    let c : Frame :=
      { f with
        d0 := header0 8 n x.dom x.inc false 0 r.payload.length, d1 := header1 f.seq r.status, d2 := a.1, d3 := v.1
        payload := r.payload }
    let done := f.seq.toNat :: x.performed
    let e := advance done 65 x.expected
    let x := { x with
      reorder := x.reorder.filter (fun c => c.seq != f.seq), performed := done.filter (fun q => decide (e ≤ q)), expected := e
      launching := if x.launching = some f.seq then none else x.launching, cache := c :: x.cache }
    ((v.2.setFlow n x).sendFrame c).serveFlow n

/-- A request that is answered without being performed: another domain than the flow's, an incarnation that has passed, or
what the restricted management flow does not take (R355, R396, R420). -/
def State.refusal (s : State) (n : Nat) (x : Flow) (f : Frame) : Option Byte :=
  if f.dom ≠ x.dom then some 7
  else if f.inc ≠ x.inc ∨ (n ≠ 0 ∧ !s.current 0 x.dom x.inc) then some 3
  else if n = 0 ∧ s.port.restricted ∧ !(f.op == 6 && f.code == 3) then some 7
  else none

/-- Perform a request whose turn has come; `body` says what it does, and answers later where it gives no reply. -/
def State.perform (s : State) (body : Nat → Flow → Frame → State → State × Option Reply) : State :=
  let e := s.ev
  match s.flow e.m with
  | none => s
  | some x =>
    if x.uid ≠ e.id ∨ !x.reorder.contains e.frame then s
    else match s.refusal e.m x e.frame with
      | some st =>
        let s := if st = 3 then s.dropStale 0 e.frame.dom e.frame.inc e.frame.d2.toNat else s
        s.finish e.m e.frame (Reply.ofStatus e.frame.op st)
      | none =>
        match body e.m x e.frame s with
        | (s, some r) => s.finish e.m e.frame r
        | (s, none) => s.serveFlow e.m

/-- A request: `n` = 0 it arrives, 2 it is performed. -/
def State.request (s : State) (ev : Instr) (body : Nat → Flow → Frame → State → State × Option Reply) : State :=
  if s.ev.n = 2 then s.perform body else s.receive ev acceptRequest

/-! ### Device addresses in requests (R400) -/

/-- Look an address up in the port die's buffer; a miss walks the tables and fills it (R369, R371). -/
def State.lookupPort (s : State) (d : BitVec 8) (i : BitVec 10) (va : Nat) : Option TlbEntry × State :=
  match tlbFind s.port.tlb2 d va with
  | some e => (some e, s)
  | none =>
    match s.walkEnd d i va with
    | (some x, s) => (some (x.entry d va), s.modPort (fun p => { p with tlb2 := tlbAdd 8192 p.tlb2 (x.entry d va) }))
    | (none, s) => (none, s)

/-- Physical parts of a range named by a request; none where it is denied (R80, R368, R400). -/
def State.flowRange (s : State) (x : Flow) (a : W64) (n : Nat) (ok : W64 → Bool) : Option (List (Nat × Nat)) × State :=
  let user := !entryMode (s.domAt 0 x.dom)
  if !addrReservedOk a then (none, s)
  else match space a with
    | 0 =>
      if 2 ^ 52 < a.toNat + n then (none, s)
      else
        (pagesOf a.toNat n).foldl (fun r p =>
          match r with
          | (none, s) => (none, s)
          | (some l, s) =>
            match s.lookupPort x.dom x.inc p.1 with
            | (some t, s) =>
              let pa := t.pa p.1
              if ok t.leaf && (!user || leafU t.leaf) && !inWindow pa && s.reaches { pa := pa, len := p.2, leaf := t.leaf } then
                (some (l ++ [(pa, p.2)]), s)
              else (none, s)
            | (none, s) => (none, s)) (some [], s)
    | 3 =>
      let granted := (s.region x.part).any (fun g => g.slmask.getLsbD (wbits a 30 24))
      if granted && decide (wbits a 23 0 + n ≤ 2 ^ 24) then
        (some (if n = 0 then [] else [(stagingKey (wbits a 30 24) (wbits a 23 0), n)]), s)
      else (none, s)
    | _ => (none, s)

/-! ### Reads, writes, atomics, counter adds (R395, R400) -/

/-- A read: its bytes, or POISON. -/
def readBody (_ : Nat) (x : Flow) (f : Frame) (s : State) : State × Option Reply :=
  let n := f.d3.toNat
  if n = 0 ∨ 8192 < n then (s, some (Reply.ofStatus 1 7))
  else match s.flowRange x f.d2 n leafR with
    | (none, s) => (s, some (Reply.ofStatus 1 7))
    | (some ps, s) =>
      let r := ps.foldl (fun (r : State × Option (List Byte)) p =>
        let y := r.1.readAgent 0 p.1 p.2 x.dom x.inc
        match r.2, y.2 with
        | some bs, some b => (y.1, some (bs ++ b))
        | _, _ => (y.1, none)) (s, some [])
      match r.2 with
      | some bs => (r.1, some { status := 0, value := some 0, payload := bs })
      | none => (r.1, some (Reply.ofStatus 1 4))

/-- TIREL_READ (R395, R400). -/
def execTirelRead (s : State) : Host.Outcome State Fault Refusal := .next (s.request .tirelRead readBody)

/-- A write of the payload. -/
def writeBody (_ : Nat) (x : Flow) (f : Frame) (s : State) : State × Option Reply :=
  match s.flowRange x f.d2 f.payload.length leafDeviceW with
  | (none, s) => (s, some (Reply.ofStatus 2 7))
  | (some ps, s) =>
    let r := ps.foldl (fun (r : State × Nat) p =>
      ((r.1.settle p.1 p.2).storeAt p.1 ((f.payload.drop r.2).take p.2), r.2 + p.2)) (s, 0)
    (r.1, some (Reply.ofStatus 2 0))

/-- TIREL_WRITE (R395, R400). -/
def execTirelWrite (s : State) : Host.Outcome State Fault Refusal := .next (s.request .tirelWrite writeBody)

/-- The read-modify-write of an ATOP and its width (R170, R394). -/
def atopOf (v : Nat) : Option (AtomOp × Nat) :=
  let op : Option AtomOp := [AtomOp.add, .and, .or, .xor, .min, .max, .minn, .maxn, .swap, .cas][v % 16]?
  match v / 16 with
  | 1 => op.map (fun o => (o, 4))
  | 2 => op.map (fun o => (o, 8))
  | _ => none

/-- An atomic: one read-modify-write within a sector, answered with the old value. -/
def atomicBody (_ : Nat) (x : Flow) (f : Frame) (s : State) : State × Option Reply :=
  match atopOf f.atop with
  | none => (s, some (Reply.ofStatus 3 7))
  | some (op, n) =>
    if 32 < f.d2.toNat % 32 + n then (s, some (Reply.ofStatus 3 7))
    else match s.flowRange x f.d2 n (fun e => leafR e && leafDeviceW e) with
      | (some [p], s) =>
        (match s.readAgent 0 p.1 n x.dom x.inc with
          | (s, none) => (s, some (Reply.ofStatus 3 4))
          | (s, some bs) =>
            let old := leNat bs
            let s := match atomNew op n old f.d3.toNat (f.pay 0).toNat with
              | some v => s.storeAt p.1 (leBytes n v)
              | none => s
            (s, some { status := 0, value := some (BitVec.ofNat 64 old), payload := [] }))
      | (_, s) => (s, some (Reply.ofStatus 3 7))

/-- TIREL_ATOMIC (R206, R395, R400). -/
def execTirelAtomic (s : State) : Host.Outcome State Fault Refusal := .next (s.request .tirelAtomic atomicBody)

/-- A counter add at system scope, answered with the new value (R94, R216). -/
def ctrAddBody (_ : Nat) (x : Flow) (f : Frame) (s : State) : State × Option Reply :=
  if space f.d2 ≠ 0 ∨ f.d2.toNat % 8 ≠ 0 then (s, some (Reply.ofStatus 4 7))
  else match s.flowRange x f.d2 8 leafCounterW with
    | (some [p], s) =>
      let r := (s.settle p.1 8).counterAdd p.1 f.d3.toNat x.dom x.inc
      (r.2, some { status := 0, value := some (BitVec.ofNat 64 r.1), payload := [] })
    | (_, s) => (s, some (Reply.ofStatus 4 7))

/-- TIREL_CTR_ADD (R121, R395, R400). -/
def execTirelCtrAdd (s : State) : Host.Outcome State Fault Refusal := .next (s.request .tirelCtrAdd ctrAddBody)

/-! ### Launches (R402) -/

/-- A launch message: the region is checked, the packet goes into the lowest free slot of the flow's launch area, and the
enqueue request is sent; it is answered when the dispatch unit has answered. -/
def launchBody (n : Nat) (x : Flow) (f : Frame) (s : State) : State × Option Reply :=
  let r := wbits (f.pay 0) 11 0
  match s.region r, s.region x.part with
  | some _, some g =>
    match (List.range 128).find? (fun i => g.slmask.getLsbD i), (List.range 64).find? (fun i => !x.slots.contains i) with
    | some sl, some i =>
      if !s.under x.part r then (s, some (Reply.ofStatus 5 7))
      else
        let off := 0xE00000 + 0x2000 * n + 128 * i
        let s := s.storeAt (stagingKey sl off) (f.payload.drop 8)
        let l : LaunchReq :=
          { addr := BitVec.ofNat 64 (3 * 2 ^ 62 + sl * 2 ^ 24 + off), region := r, by_ := .flow n
            who := { Who.zero with dom := x.dom, inc := x.inc }, waitId := x.uid, seq := f.seq
            deadline := wbits (f.pay 0) 63 32, arrived := 0, dom := x.dom, inc := x.inc }
        let s := s.setFlow n { x with slots := i :: x.slots, launching := some f.seq }
        (s.post (s.now + 25 + 3 * hops 0 (dispatchStop r)) .launchEnqueue { EvArg.zero with launch := l }, none)
    | _, _ => (s, some (Reply.ofStatus 5 7))
  | _, _ => (s, some (Reply.ofStatus 5 7))

/-- The dispatch unit's answer to a launch message: a packet that was not enqueued frees its slot, and the answer is relayed
on the flow, if it is the same (R402). -/
def State.launchAnswered (s : State) : State :=
  let e := s.ev
  let s := if e.status = 0 then s else s.releaseSlot e.m e.launch.addr
  match s.flow e.m with
  | none => s
  | some x =>
    if x.uid ≠ e.launch.waitId then s
    else match x.reorder.find? (fun f => f.seq == e.launch.seq) with
      | some f => s.finish e.m f (Reply.ofStatus 5 e.status)
      | none => s

/-- TIREL_LAUNCH: `n` = 1 is the dispatch unit's answer, 3 the freeing of slot `v` of flow `m` at the end of its cycle (R402,
R406). -/
def execTirelLaunch (s : State) : Host.Outcome State Fault Refusal :=
  .next (if s.ev.n = 1 then s.launchAnswered
    else if s.ev.n = 3 then s.freeSlot s.ev.m s.ev.v
    else s.request .tirelLaunch launchBody)

/-! ### Acks of responses, and other frames (R392, R393, R397) -/

/-- TIREL_ACK: the responses up to its sequence number are no longer kept (R397). -/
def ackBody (x : Flow) (f : Frame) (s : State) : State :=
  s.setFlow f.flow { x with cache := x.cache.filter (fun c => decide (f.seq.toNat < c.seq.toNat)) }

/-- TIREL_ACK (R397). -/
def execTirelAck (s : State) : Host.Outcome State Fault Refusal := .next (s.receive .tirelAck ackBody)

/-- NEIGHBOUR_SOLICITATION: the target address stands in the first 16 bytes of the payload; one of the device's addresses is
answered, any other frame of this kind is discarded and counted (R393). -/
def solicitationEffect (s : State) : State :=
  let f := s.ev.frame
  let target := f.payload.take 16
  if Config.addresses.any (fun a => leBytes 16 a.toNat == target.reverse) then
    s.sendFrame { Frame.zero with port := f.port, routed := true, ident := 0x86DD, payload := Config.neighbourAdvert target }
  else s.discardOther f.port

/-- NEIGHBOUR_SOLICITATION (R393). -/
def execNeighbourSolicitation (s : State) : Host.Outcome State Fault Refusal := .next (solicitationEffect s)

/-- NON_TIREL_FRAME: discarded and counted; with a bad FCS (`n` = 1) it is counted as an entry (R392, R393). -/
def nonTirelEffect (s : State) : State :=
  if s.ev.n = 1 then s.logRefused 0 8 0 0 0 1 else s.discardOther s.ev.frame.port

/-- NON_TIREL_FRAME (R392, R393). -/
def execNonTirelFrame (s : State) : Host.Outcome State Fault Refusal := .next (nonTirelEffect s)

end Sys2Proof.Machine
end

