-- ==== Sys2Proof/Machine/Window.lean ====
section
/-! DEFINITION. Tirel windows: device accesses, copies and counter operations that go out on a flow, their responses, acks,
retransmission, and the teardown of a flow (R91, R130, R397, R398, R401, R415, R431, R432). -/

namespace Sys2Proof.Machine

/-! ### Sending requests (R397, R401) -/

/-- Flow of a window address (R401). -/
def windowFlow (pa : Nat) : Nat := bits pa 46 39

/-- The flow of a window address, where it is open for a requester: of its domain, opened at its incarnation (R401, R415). -/
def State.openWindow (s : State) (pa : Nat) (w : Who) : Option Flow :=
  (s.flow (windowFlow pa)).filter (fun x => x.dom == w.dom && x.inc == w.inc)

/-- Post the next sending of a request (R397). -/
def State.armRetransmit (s : State) (n : Nat) (x : Flow) (seq : BitVec 48) : State :=
  s.post (s.now + x.rto) .tirelRetransmit { EvArg.zero with m := n, id := x.uid, v := seq.setWidth 64 }

/-- Port on which a flow sends: its own; the management flow on the first of the host ports that has a link (R396, R420). -/
def State.sendPort (s : State) (n : Nat) (x : Flow) : Nat :=
  if n = 0 then (if s.port.links.getLsbD 0 then 0 else 1) else x.port

/-- Send requests that wait for room, while fewer than 64 are unanswered (R397). -/
def State.sendWaiting (s : State) (n : Nat) : Nat → State
  | 0 => s
  | k + 1 =>
    match s.flow n with
    | none => s
    | some x =>
      if 64 ≤ x.held.length then s
      else match x.waiting with
        | [] => s
        | h :: r =>
          let seq := BitVec.ofNat 48 x.sendSeq
          let fr := { h.frame with d1 := header1 seq 0, port := s.sendPort n x, routed := x.routed, ident := s.tirelIdent x.routed }
          let h := { h with seq := seq, frame := fr, sends := 1, lastSent := s.now }
          let x := { x with waiting := r, held := x.held ++ [h], sendSeq := x.sendSeq + 1 }
          (((s.setFlow n x).sendFrame fr).armRetransmit n x seq).sendWaiting n k

/-- What a request asks of the peer. -/
structure Ask where
  op : Nat
  acq : Bool
  atop : Nat
  value : Option W64
  payload : List Byte
  /-- bytes it reads, or writes -/
  len : Nat
  deriving DecidableEq, Repr

/-- Send a request out on the flow of a window address (R394, R401). OPND of a write is a free value. -/
def State.ask (s : State) (pa : Nat) (w : Who) (acc : Walker) (cmd part : Nat) (a : Ask) : State :=
  let n := windowFlow pa
  match s.flow n with
  | none => s
  | some x =>
    let v : W64 × State := match a.value with
      | some v => (v, s)
      | none => s.takeFree
    let s := v.2
    let fr : Frame :=
      { Frame.zero with
        d0 := header0 a.op n x.dom x.inc a.acq a.atop a.payload.length, d2 := x.wbase + BitVec.ofNat 64 (bits pa 38 0), d3 := v.1
        payload := a.payload }
    let h : HeldReq :=
      { rid := s.uid, seq := 0, frame := fr, who := w, acc := acc, dom := w.dom, inc := w.inc, sends := 0, lastSent := 0
        cmd := cmd, part := part, len := a.len }
    (({ s with uid := s.uid + 1 }).setFlow n { x with waiting := x.waiting ++ [h] }).sendWaiting n 64

/-- A read of some bytes. -/
def Ask.read (n : Nat) (acq : Bool) : Ask :=
  { op := 1, acq := acq, atop := 0, value := some (BitVec.ofNat 64 n), payload := [], len := n }
/-- A write of some bytes. -/
def Ask.write (bs : List Byte) : Ask := { op := 2, acq := false, atop := 0, value := none, payload := bs, len := bs.length }
/-- A counter add. -/
def Ask.add (v : W64) : Ask := { op := 4, acq := false, atop := 0, value := some v, payload := [], len := 8 }
/-- A read-modify-write on `n` bytes. -/
def Ask.atomic (op : AtomOp) (n : Nat) (acq : Bool) (v cmp : W64) : Ask :=
  { op := 3, acq := acq, atop := op.atop n, value := some v, payload := if op = .cas then leBytes 8 cmp.toNat else [], len := n }

/-- Some request for an access, a copy or a packet is unanswered or waits to be sent. -/
def State.asking (s : State) (acc : Walker) (cmd : Nat) : Bool :=
  s.port.flows.any (fun f => (f.2.held ++ f.2.waiting).any (fun h => h.acc == acc && h.cmd == cmd))

/-! ### Accesses of contexts (R401, R431) -/

/-- The pieces of an access with the byte of the access at which each begins. -/
def placedPieces (ps : List Piece) : List (Nat × Piece) :=
  (ps.foldl (fun (r : List (Nat × Piece) × Nat) p => (r.1 ++ [(r.2, p)], r.2 + p.len)) ([], 0)).1

/-- Change an access of a context. -/
def State.modAccess (s : State) (cl cx id : Nat) (f : Access → Access) : State :=
  s.modCtx cl cx (fun c => { c with accs := c.accs.map (fun a => if a.id = id then f a else a) })

/-- Bytes of a load put into the value it gathers. -/
def gather (v : BitVec 128) (part : Nat) (bs : List Byte) : BitVec 128 := v ||| BitVec.ofNat 128 (leNat bs * 2 ^ (8 * part))

/-- Cycles of an answer from the port die to an access's cluster; that of a counter operation comes through the home agent that
the window's leaf names (R401). -/
def Access.back (a : Access) : Nat :=
  let home := archiveStop (leafHome ((a.pieces.head?.map (·.leaf)).getD 0))
  if a.kind.counter then 3 * hops home 0 + answerDelay home a.who.cl else answerDelay 0 a.who.cl

/-- An access is performed and answered (R431). -/
def State.answered (s : State) (a : Access) (st : Byte) (v : BitVec 128) : State :=
  (s.performed a.who.cl a.who.cx a.id).answer a a.back st v

/-- An access none of whose requests is unanswered has been performed: a load gives what it gathered, with the entries that have
met poison, which it holds in `cmp`; an access that awaits no answer is over (R204, R431). -/
def State.accessDone (s : State) (cl cx id : Nat) : State :=
  if s.asking (.access cl cx id) 0 then s
  else match (s.ctx cl cx).accs.find? (fun a => a.id == id) with
    | none => s
    | some a =>
      match a.kind with
      | .load n sg =>
        (s.performed cl cx id).post (s.now + a.back) .responseAtSlot
          { EvArg.at cl cx id with
            who := a.who, status := if a.cmp = 0 then 0 else 4, m := a.cmp.toNat, value := loadValue n sg (leBytes n a.data.toNat) }
      | _ => s.performed cl cx id

/-- A store or a reduction to a staged-commit page stays on the device until the commit (R321). -/
def State.stagesPiece (s : State) (a : Access) (p : Piece) : Bool :=
  s.staging a.task && leafSC p.leaf && (match a.kind with | .store | .red _ => true | _ => false)

/-- One piece of a load, a store or a reduction: at its home on the device, in the task's commit space, or out through its
window, each piece by the class of its own page (R107, R321, R401). -/
def State.sendPiece (s : State) (a : Access) (part : Nat) (p : Piece) : State :=
  let cl := a.who.cl
  let cx := a.who.cx
  let acc := Walker.access cl cx a.id
  let out := inWindow p.pa && !s.stagesPiece a p
  match a.kind with
  | .load _ _ =>
    if inWindow p.pa then s.ask p.pa a.who acc 0 part (Ask.read p.len (a.acquiresOn p))
    else
      let r := s.readPieces a [p]
      let half := poisonedHalves (List.replicate part (0, false) ++ r.2)
      r.1.modAccess cl cx a.id (fun a => { a with
        data := gather a.data part (r.2.map (·.1)), cmp := a.cmp ||| BitVec.ofNat 64 half })
  | .store =>
    let bs := ((leBytes a.size a.data.toNat).drop part).take p.len
    if out then s.ask p.pa a.who acc 0 part (Ask.write bs) else (s.modifyPiece a p bs none).1
  | .red op =>
    if out then s.ask p.pa a.who acc 0 part (Ask.atomic op p.len (a.acquiresOn p) (a.data.setWidth 64) a.cmp)
    else (s.modifyPiece a p [] (some op)).1
  | _ => s

/-- Send an access out: every piece, or its one operation (R401). A prefetch does nothing. -/
def State.sendAccess (s : State) (a : Access) : State :=
  let cl := a.who.cl
  let cx := a.who.cx
  let acc := Walker.access cl cx a.id
  let pa := (a.pieces.head?.map (·.pa)).getD 0
  match a.kind with
  | .pf => s.dropAccess cl cx a.id
  | .ctrMax | .ctrReset => s.deferFault a 5
  | .ctrAdd | .ctrArw => s.ask pa a.who acc 0 0 (Ask.add (a.data.setWidth 64))
  | .ctrRead | .ctrWait => s.ask pa a.who acc 0 0 (Ask.read 8 true)
  | .atomic op => s.ask pa a.who acc 0 0 (Ask.atomic op a.size a.acquires (a.data.setWidth 64) a.cmp)
  | .load _ _ =>
    let s := s.modAccess cl cx a.id (fun a => { a with data := 0, cmp := 0 })
    ((placedPieces a.pieces).foldl (fun (s : State) p =>
      if (s.ctx cl cx).accs.any (fun b => b.id == a.id && !b.performed) then s.sendPiece a p.1 p.2 else s) s).accessDone cl cx a.id
  | _ => ((placedPieces a.pieces).foldl (fun (s : State) p => s.sendPiece a p.1 p.2) s).accessDone cl cx a.id

/-- An access at the port die: in the context's order; dropped where it is stale; refused where a flow of its windows is not
open for it and it would leave; else sent (R97, R321, R355, R401, R415). -/
def windowAccess (s : State) : State :=
  let e := s.ev
  let c := s.ctx e.cl e.cx
  match c.accs.find? (fun a => a.id == e.id && !a.performed) with
  | none => s
  | some a =>
    if s.held e.cl e.cx a then s.post (s.now + 1) .windowAccessSend e
    else if !s.currentWho 0 a.who then s.dropAt e.cl e.cx 0 a a.va.toNat
    else if a.kind != .pf && a.pieces.any (fun p =>
        inWindow p.pa && !s.stagesPiece a p && (s.openWindow p.pa a.who).isNone) then s.deferFault a 5
    else s.sendAccess a

/-! ### Copies (R91, R401) -/

/-- The source bytes of a step that lie on the device, and zeros where they lie in windows; whether one is poisoned (R212, R401). -/
def State.gatherSource (s : State) (cl : Nat) (k : Channel) (sp : List Piece) : State × List Byte × Bool :=
  sp.foldl (fun r p =>
    if inWindow p.pa then (r.1, r.2.1 ++ List.replicate p.len 0, r.2.2)
    else
      let x := r.1.stepSource cl k [p]
      (x.1, r.2.1 ++ x.2.1.map (·.2), r.2.2 || x.2.2)) (s, [], false)

/-- A copy step with a side in a window: source bytes are gathered, by requests where they lie in windows, then written, by
requests where the destination does; WP advances when every response has come (R82, R90, R91, R355, R401). -/
def windowCopy (s : State) : State :=
  let e := s.ev
  let cl := e.cl
  let n := e.cx
  match s.command cl n e.id with
  | none => s
  | some k =>
    if !s.currentWho 0 k.who then (s.dropStale 0 k.who.dom k.who.inc (k.dst.toNat + k.wp)).killCopy cl n
    else if s.asking (.channel cl n) e.id then s
    else
      let d := k.dst.toNat + k.wp
      let len := Min.min (32 - d % 32) (k.len - k.wp)
      let out (p : Piece) : Bool := inWindow p.pa && !(s.staging k.task && leafSC p.leaf)
      match s.locate cl n k (e.walked k.who.dom) false (k.src.toNat + k.wp) len with
      | (.found sp _, s) =>
        match s.locate cl n k (e.walked k.who.dom) true d len with
        | (.found dp _, s) =>
          if sp.any (fun p => inWindow p.pa && (s.openWindow p.pa k.who).isNone) ||
              dp.any (fun p => out p && (s.openWindow p.pa k.who).isNone) then s.endCopy cl n k 5
          else if k.buf.isEmpty then
            if s.sourceDenied k sp then s.endCopy cl n k 5
            else match s.sourceStale k sp with
              | some p => (s.dropStale (homeStop p.pa) k.who.dom k.who.inc (keyAddr p.pa)).killCopy cl n
              | none =>
                let r := s.gatherSource cl k sp
                if r.2.2 then r.1.endCopy cl n k 6
                else
                  let s := (placedPieces sp).foldl (fun (s : State) p =>
                    if inWindow p.2.pa then s.ask p.2.pa k.who (.channel cl n) e.id p.1 (Ask.read p.2.len false) else s)
                    (r.1.setChan cl n { k with buf := r.2.1 })
                  if s.asking (.channel cl n) e.id then s else s.post s.now .windowAccessSend e
          else
            let taken := (placedPieces sp).flatMap (fun p =>
              let b := (k.buf.drop p.1).take p.2.len
              let b := if s.staging k.task && leafSC p.2.leaf then s.overlay k.task p.2.pa b else b
              (List.range p.2.len).map (fun i => (p.2.pa + i, nth b i 0)))
            let bs := mergeStep taken ((pieceBytes dp).map (·.1))
            let s := (placedPieces dp).foldl (fun (s : State) p =>
              let b := (bs.drop p.1).take p.2.len
              if out p.2 then
                let rid := s.uid
                let s := s.modCluster cl (fun x => match x.chan n with
                  | some k => x.setChan n { k with unanswered := rid :: k.unanswered }
                  | none => x)
                { s with uid := rid }.ask p.2.pa k.who (.channel cl n) e.id p.1 (Ask.write b)
              else s.stepWrite k [p.2] b) s
            if s.asking (.channel cl n) e.id then s
            else match s.command cl n e.id with
              | none => s
              | some k =>
                let k := { k with wp := k.wp + len, buf := [] }
                if k.wp = k.len then s.endCopy cl n k 3 else (s.setChan cl n k).post (s.now + 1) .copySectorStep (EvArg.at cl n e.id)
        | (_, s) => s.post (s.now + 1) .copySectorStep (EvArg.at cl n e.id)
      | (_, s) => s.post (s.now + 1) .copySectorStep (EvArg.at cl n e.id)

/-- The step of a copy for which every response has come (R91, R401). -/
def State.copyAnswered (s : State) (cl n cmd op : Nat) : State :=
  match s.command cl n cmd with
  | none => s
  | some k =>
    if s.asking (.channel cl n) cmd then s
    else if op = 1 then s.post s.now .windowAccessSend { EvArg.at cl n cmd with n := 1, who := k.who }
    else
      let len := Min.min (32 - (k.dst.toNat + k.wp) % 32) (k.len - k.wp)
      let k := { k with wp := k.wp + len, buf := [] }
      if k.wp = k.len then s.endCopy cl n k 3 else (s.setChan cl n k).post (s.now + 1) .copySectorStep (EvArg.at cl n cmd)

/-! ### The device's own requests (R322, R401) -/

/-- A counter add, or a staged write of a packet, that the device sends for itself; refused, it leaves an entry. -/
def windowDevice (s : State) : State :=
  let e := s.ev
  let pa := e.v.toNat
  let acc := Walker.device e.id
  if !s.currentWho 0 e.who then s.dropStale 0 e.who.dom e.who.inc pa
  else if (s.openWindow pa e.who).isNone then s.logRefused 0 8 e.who.dom e.who.inc pa 1
  else match e.m with
    | 0 => s.ask pa e.who acc 0 0 (Ask.add e.w)
    | 1 => s.ask pa e.who acc 0 0 (Ask.write e.frame.payload)
    | _ =>
      match atopOf e.status.toNat with
      | some (op, n) => s.ask pa e.who acc 0 0 (Ask.atomic op n false (BitVec.ofNat 64 (leNat e.frame.payload)) 0)
      | none => s

/-! ### Requests that get no response (R355, R398, R415) -/

/-- The registration of a counter wait at the port die. -/
def State.winWaiter (s : State) (a : Access) : Option WinWaiter := s.winWaiters.find? (fun w => w.accId == a.id && w.who == a.who)

/-- Forget the registration of a counter wait. -/
def State.forgetWaiter (s : State) (a : Access) : State :=
  { s with winWaiters := s.winWaiters.filter (fun w => !(w.accId == a.id && w.who == a.who)) }

/-- An access that is torn down with its flow, or whose last response has come: it is over, once nothing else of it is
unanswered (R431). -/
def State.closeAccess (s : State) (a : Access) : State :=
  if s.asking (.access a.who.cl a.who.cx a.id) 0 then s else s.dropAccess a.who.cl a.who.cx a.id

/-- A store, a reduction or a posted add that is not performed as it should be: an entry of a type; a register that awaits its
answer expires (R129, R398, R432). -/
def State.noteLost (s : State) (a : Access) (type info : Nat) : State :=
  let s := (s.logCat 0 type 8 a.who.dom a.who.inc ((a.pieces.head?.map (·.pa)).getD 0) 0 info).closeAccess a
  match a.token with
  | some t => s.expireReg a.who.cl a.who.cx (t % 64) (t / 64)
  | none => s

/-- An access has no response because its flow is torn down: its entries are marked expired, a wait ends INDETERMINATE, any
other leaves an entry. No response goes to the slot (R398, R415, R431). -/
def State.accessLost (s : State) (a : Access) : State :=
  let s := s.forgetWaiter a
  let endsAs (ev : Instr) : State :=
    (s.performed a.who.cl a.who.cx a.id).post (s.now + a.back) ev (EvArg.at a.who.cl a.who.cx a.id)
  match a.kind with
  | .load _ _ | .atomic _ => endsAs .loadExpire
  | .ctrRead | .ctrWait | .ctrArw => endsAs .arwIndeterminate
  | _ => s.noteLost a 10 3

/-- A request is given up before it has been sent: dropped as stale; refused because its flow is closed; or lost with its flow,
where an earlier request of the same operation has been performed (R355, R398, R415). -/
def State.giveUp (s : State) (h : HeldReq) (stale : Bool) : State :=
  match h.acc with
  | .access cl cx id =>
    match (s.ctx cl cx).accs.find? (fun a => a.id == id) with
    | some a => if stale then s.dropAt cl cx 0 a h.frame.d2.toNat else if a.performed then s.accessLost a else s.deferFault a 5
    | none => s
  | .channel cl n =>
    let s := s.modCluster cl (fun x => match x.chan n with
      | some k => x.setChan n { k with unanswered := k.unanswered.filter (· != h.rid) }
      | none => x)
    match s.command cl n h.cmd with
    | some k => if stale then (s.dropStale 0 h.dom h.inc h.frame.d2.toNat).killCopy cl n else s.endCopy cl n k 5
    | none => s
  | _ => if stale then s.dropStale 0 h.dom h.inc h.frame.d2.toNat else s.logRefused 0 8 h.dom h.inc h.frame.d2.toNat 1

/-- Drop the requests of a flow that wait to be sent and whose incarnation has passed (R355). -/
def State.dropWaiting (s : State) (n : Nat) : State :=
  match s.flow n with
  | none => s
  | some x =>
    let old (h : HeldReq) : Bool := !s.currentWho 0 h.who
    (x.waiting.filter old).foldl (fun (s : State) h => s.giveUp h true)
      (s.setFlow n { x with waiting := x.waiting.filter (fun h => !old h) })

/-- WINDOW_ACCESS_SEND: `n` = 0 an access, 1 a copy step, 2 a request of the device's own, 4 the dropping of requests whose
incarnation has passed (R401). -/
def windowSendEffect (s : State) : State :=
  match s.ev.n with
  | 0 => windowAccess s
  | 1 => windowCopy s
  | 2 => windowDevice s
  | _ => s.dropWaiting s.ev.m

/-- WINDOW_ACCESS_SEND (R401). -/
def execWindowAccessSend (s : State) : Host.Outcome State Fault Refusal := .next (windowSendEffect s)

/-! ### Responses (R415, R431, R432) -/

/-- A poll of a counter has come back with a value: the wait ends when it meets the threshold, or when its deadline is 0;
else the counter is read again 2,048 cycles after it was read (R122, R123, R401). -/
def State.pollAnswered (s : State) (a : Access) (h : HeldReq) (v : W64) : State :=
  let thr := if a.kind = .ctrArw then a.cmp else a.data.setWidth 64
  let s := s.performed a.who.cl a.who.cx a.id
  if thr.toNat ≤ v.toNat then (s.forgetWaiter a).answer a a.back 0 0
  else if a.dl = 0 then (s.forgetWaiter a).answer a a.back (if a.kind = .ctrArw then 8 else 1) 0
  else
    let pa := (a.pieces.head?.map (·.pa)).getD 0
    let s := if (s.winWaiter a).isSome then s
      else { s with winWaiters := s.winWaiters ++ [{ who := a.who, accId := a.id, pa := pa, thr := thr, cancelled := false }] }
    s.post (h.lastSent + 2048) .windowCounterPoll { EvArg.at a.who.cl a.who.cx a.id with who := a.who }

/-- The add of a ctr.arw has been performed: the counter is read next, unless the wait was cancelled meanwhile (R130, R401). -/
def State.arwAdded (s : State) (a : Access) : State :=
  let s := s.performed a.who.cl a.who.cx a.id
  if (s.winWaiter a).any (·.cancelled) then
    (s.forgetWaiter a).post (s.now + a.back) .responseAtSlot
      { EvArg.at a.who.cl a.who.cx a.id with who := a.who, status := 8, m := 1 }
  else
    s.ask ((a.pieces.head?.map (·.pa)).getD 0) a.who (.access a.who.cl a.who.cx a.id) 0 0 (Ask.read 8 true)

/-- An OK response for an access (R401, R431). -/
def State.accessOk (s : State) (a : Access) (h : HeldReq) (f : Frame) : State :=
  match a.kind with
  | .load _ _ =>
    let bs := match (placedPieces a.pieces).find? (fun p => p.1 == h.part && s.staging a.task && leafSC p.2.leaf) with
      | some p => s.overlay a.task p.2.pa f.payload
      | none => f.payload
    (s.modAccess a.who.cl a.who.cx a.id (fun a => { a with data := gather a.data h.part bs })).accessDone a.who.cl a.who.cx a.id
  | .atomic _ => s.answered a 0 (BitVec.ofNat 128 (f.d3.toNat % 2 ^ (8 * a.size)))
  | .ctrAdd =>
    if a.token.isSome then s.answered a 0 (f.d3.setWidth 128) else s.performed a.who.cl a.who.cx a.id
  | .ctrRead => s.answered a 0 (BitVec.ofNat 128 (leNat f.payload))
  | .ctrWait => s.pollAnswered a h (BitVec.ofNat 64 (leNat f.payload))
  | .ctrArw => if h.frame.op = 4 then s.arwAdded a else s.pollAnswered a h (BitVec.ofNat 64 (leNat f.payload))
  | _ => s.accessDone a.who.cl a.who.cx a.id

/-- A response that is neither OK nor a refusal of an LSU access, by its status (R122, R432). -/
def State.accessFailed (s : State) (a : Access) (st : Byte) : State :=
  let s := s.forgetWaiter a
  match a.kind with
  | .load _ _ | .atomic _ => s.answered a st 0
  | .ctrRead | .ctrWait | .ctrArw =>
    (s.performed a.who.cl a.who.cx a.id).post (s.now + a.back) .responseAtSlot
      { EvArg.at a.who.cl a.who.cx a.id with who := a.who, status := st, m := 1 }
  | _ => s.noteLost a 3 0

/-- A response for a request of an access, by its status: a refusal raises PERM, but that of a counter wait is its status (R432). -/
def State.accessResponse (s : State) (a : Access) (h : HeldReq) (f : Frame) : State :=
  let waits := match a.kind with | .ctrRead | .ctrWait | .ctrArw => true | _ => false
  if f.status = 0 then s.accessOk a h f
  else if f.status = 4 then s.accessFailed a 4
  else if waits then s.accessFailed a 7
  else s.deferFault a 5

/-- A response for a request of a copy (R401, R432). -/
def State.copyResponse (s : State) (cl n : Nat) (h : HeldReq) (f : Frame) : State :=
  let s := s.modCluster cl (fun x => match x.chan n with
    | some k => x.setChan n { k with unanswered := k.unanswered.filter (· != h.rid) }
    | none => x)
  match s.command cl n h.cmd with
  | none => s
  | some k =>
    if f.status = 4 then s.endCopy cl n k 6
    else if f.status ≠ 0 then s.endCopy cl n k 5
    else
      let s := if h.frame.op = 1 then
          s.setChan cl n { k with buf := k.buf.take h.part ++ f.payload ++ k.buf.drop (h.part + f.payload.length) }
        else s
      s.copyAnswered cl n h.cmd h.frame.op

/-- Pass a response to who made the request; what it finds there is decided there (R356, R415). -/
def State.deliverResponse (s : State) (h : HeldReq) (f : Frame) : State :=
  match h.acc with
  | .access cl cx id =>
    match (s.ctx cl cx).accs.find? (fun a => a.id == id) with
    | some a => s.accessResponse a h f
    | none => s
  | .channel cl n => s.copyResponse cl n h f
  | _ => if f.status = 0 then s else s.logRefused 0 8 h.dom h.inc h.frame.d2.toNat 1

/-- Sequence number below which every response is held, and those held above it. -/
def ackUpto (got : List Nat) (n : Nat) : Nat × List Nat :=
  let e := advance got 65 n
  (e, got.filter (fun q => decide (e ≤ q)))

/-- A response: matched by flow and sequence number, it leaves the held count, is counted for the next ack, and is passed
on; another request may then be sent (R397, R415). A read's data must have the length it asked for (R394). -/
def responseBody (x : Flow) (f : Frame) (s : State) : State :=
  match x.held.find? (fun h => h.seq == f.seq) with
  | none => s
  | some h =>
    if f.status = 0 ∧ f.payload.length ≠ (if h.frame.op = 1 then h.len else 0) then s.discardTirel f 4
    else
      let n := f.flow
      let u := ackUpto (f.seq.toNat :: x.respGot) x.respUpto
      let x := { x with
        held := x.held.filter (fun h => h.seq != f.seq), respUpto := u.1, respGot := u.2, sinceAck := x.sinceAck + 1 }
      let s := s.setFlow n x
      let s := if x.sinceAck = 1 then s.post (s.now + 1536) .ackSend { EvArg.zero with m := n, id := x.uid }
        else if x.sinceAck = 16 then s.post s.now .ackSend { EvArg.zero with m := n, id := x.uid }
        else s
      (s.deliverResponse h f).sendWaiting n 64

/-- TIREL_RESPONSE (R415). -/
def execTirelResponse (s : State) : Host.Outcome State Fault Refusal := .next (s.receive .tirelResponse responseBody)

/-- ACK_SEND: after 16 responses, or 1,024 fabric cycles after the first of fewer; where the lowest response is not there,
there is nothing to ack yet (R397). -/
def ackSendEffect (s : State) : State :=
  let e := s.ev
  match s.flow e.m with
  | none => s
  | some x =>
    let s := { s with agenda := s.agenda.filter (fun p => !(p.ev == .ackSend && p.arg.m == e.m && p.arg.id == e.id)) }
    if x.uid ≠ e.id ∨ x.sinceAck = 0 then s
    else if x.respUpto = 0 then s.setFlow e.m { x with sinceAck := 0 }
    else
      let a := s.takeFree
      let b := a.2.takeFree
      let f : Frame :=
        { Frame.zero with
          port := s.sendPort e.m x, routed := x.routed, ident := s.tirelIdent x.routed, d0 := header0 9 e.m x.dom x.inc false 0 0
          d1 := header1 (BitVec.ofNat 48 (x.respUpto - 1)) 0, d2 := a.1, d3 := b.1 }
      (b.2.setFlow e.m { x with sinceAck := 0 }).sendFrame f

/-- ACK_SEND (R397). -/
def execAckSend (s : State) : Host.Outcome State Fault Refusal := .next (ackSendEffect s)

/-- WINDOW_COUNTER_POLL: a counter wait that is still registered reads its counter again (R401). -/
def counterPollEffect (s : State) : State :=
  let e := s.ev
  match (s.ctx e.cl e.cx).accs.find? (fun a => a.id == e.id) with
  | none => { s with winWaiters := s.winWaiters.filter (fun w => !(w.accId == e.id && w.who == e.who)) }
  | some a =>
    match s.winWaiter a with
    | none => s
    | some w =>
      if !s.currentWho 0 w.who then (s.forgetWaiter a).dropStale 0 w.who.dom w.who.inc w.pa
      else if (s.openWindow w.pa w.who).isNone then s.accessLost a
      else s.ask w.pa w.who (.access e.cl e.cx e.id) 0 0 (Ask.read 8 true)

/-- WINDOW_COUNTER_POLL (R401). -/
def execWindowCounterPoll (s : State) : Host.Outcome State Fault Refusal := .next (counterPollEffect s)

/-! ### Teardown (R398) -/

/-- The outcome of a device request that is unanswered when its flow is torn down (R398). -/
def State.tornDown (s : State) (h : HeldReq) : State :=
  match h.acc with
  | .access cl cx id =>
    match (s.ctx cl cx).accs.find? (fun a => a.id == id) with
    | some a => s.accessLost a
    | none => s
  | .channel cl n =>
    let s := s.modCluster cl (fun x => match x.chan n with
      | some k => x.setChan n { k with unanswered := k.unanswered.filter (· != h.rid) }
      | none => x)
    match s.command cl n h.cmd with
    | some k => s.endCopy cl n k 5
    | none => s
  | _ => s.logRefused 0 8 h.dom h.inc h.frame.d2.toNat 3

/-- Tear a flow down: it is free, and its reorder buffer and response cache are gone; each device request gets its outcome,
and counter waits behind its window end INDETERMINATE. The management flow stays open with its requests gone (R396, R398). -/
def State.teardown (s : State) (n : Nat) : State :=
  match s.flow n with
  | none => s
  | some x =>
    let s := if n = 0 then s.setFlow 0 { x with held := [], waiting := [] }
      else s.modPort (fun p => { p with flows := NMap.erase p.flows n })
    let s := x.held.foldl State.tornDown s
    let s := x.waiting.foldl (fun (s : State) h => s.giveUp h false) s
    (s.winWaiters.filter (fun w => windowFlow w.pa == n)).foldl (fun (s : State) w =>
      match (s.ctx w.who.cl w.who.cx).accs.find? (fun a => a.id == w.accId) with
      | some a => s.accessLost a
      | none => { s with winWaiters := s.winWaiters.filter (fun v => v.accId != w.accId) }) s

/-- TIREL_RETRANSMIT: a request still unanswered is sent again; one that has been sent 16 times ends its flow (R397, R398). -/
def retransmitEffect (s : State) : State :=
  let e := s.ev
  match s.flow e.m with
  | none => s
  | some x =>
    if x.uid ≠ e.id then s
    else match x.held.find? (fun h => h.seq.setWidth 64 == e.v) with
      | none => s
      | some h =>
        if 16 ≤ h.sends then s.teardown e.m
        else
          let again (g : HeldReq) : HeldReq := if g.seq = h.seq then { g with sends := g.sends + 1, lastSent := s.now } else g
          (((s.setFlow e.m { x with held := x.held.map again }).sendFrame h.frame).armRetransmit e.m x h.seq)

/-- TIREL_RETRANSMIT (R397). -/
def execTirelRetransmit (s : State) : Host.Outcome State Fault Refusal := .next (retransmitEffect s)

/-- LINK_DOWN: the link of port `n` goes down, and every flow on it is torn down; the management flow serves the other host
port (R396, R398). -/
def linkDownEffect (s : State) : State :=
  let n := s.ev.n
  let fs := (s.port.flows.filter (fun f => f.1 != 0 && f.2.port == n)).map (·.1)
  fs.foldl State.teardown (s.modPort (fun p => { p with links := p.links &&& ~~~(BitVec.ofNat 18 (2 ^ n)) }))

/-- LINK_DOWN (R398). -/
def execLinkDown (s : State) : Host.Outcome State Fault Refusal := .next (linkDownEffect s)

/-- LINK_UP: the link of port `n` comes up (R392, R428). -/
def linkUpEffect (s : State) : State :=
  if s.port.powered then s.modPort (fun p => { p with links := p.links ||| BitVec.ofNat 18 (2 ^ s.ev.n) }) else s

/-- LINK_UP (R392). -/
def execLinkUp (s : State) : Host.Outcome State Fault Refusal := .next (linkUpEffect s)

/-- PORT_LINK_RETRY: a host port `n` that has no link is tried again; where it does not link (`m` ≠ 1), once more after 2^30
cycles (R420). -/
def linkRetryEffect (s : State) : State :=
  let e := s.ev
  if !s.port.powered || s.port.links.getLsbD e.n then s
  else if e.m = 1 then s.modPort (fun p => { p with links := p.links ||| BitVec.ofNat 18 (2 ^ e.n) })
  else s.post (s.now + 2 ^ 30) .portLinkRetry e

/-- PORT_LINK_RETRY (R420). -/
def execPortLinkRetry (s : State) : Host.Outcome State Fault Refusal := .next (linkRetryEffect s)

end Sys2Proof.Machine
end

