-- ==== Sys2Proof/Machine/Mgmt.lean ====
section
/-! DEFINITION. Management requests: opening and closing flows, management registers, measurement extension, attestation
(R396, R398, R403, R404, R423, R425, R428, R430). -/

namespace Sys2Proof.Machine

/-! ### Opening and closing flows (R396, R398, R404) -/

/-- The root of the tree that a region belongs to. -/
def State.rootOf (s : State) (r : Nat) : Option Nat := (s.lineage r).getLast?

/-- Row of R404's refusals for an open payload; 0 for none. -/
def State.openRefusal (s : State) (w : List W64) : Nat :=
  let x (n : Nat) : W64 := nth w n 0
  let flow := wbits (x 0) 7 0
  let dom := (x 0).extractLsb' 8 8
  let part := wbits (x 0) 31 16
  let port := wbits (x 0) 52 48
  let rto := wbits (x 5) 31 0
  if wbits (x 0) 63 53 ≠ 0 ∨ wbits (x 0) 47 33 ≠ 0 ∨ wbits (x 3) 63 48 ≠ 0 ∨ wbits (x 5) 63 32 ≠ 0 ∨ flow = 0 ∨ 17 < port ∨
      rto < 2 ^ 10 ∨ 2 ^ 24 < rto then 1
  else if (s.flow flow).isSome then 2
  else if !(s.region part).any (fun g => g.parent.isNone) then 3
  else if !entryValid (s.domAt 0 dom) || !s.regions.any (fun e => e.2.dom == dom && s.rootOf e.1 == some part) then 4
  else if ((s.region part).map (·.flows)).getD 0 ≤
      (s.port.flows.filter (fun f => f.1 != 0 && f.2.part == part)).length then 5
  else if !s.port.links.getLsbD port then 6
  else 0

/-- Launch slots of a flow number that still hold a packet (R402). -/
def State.usedSlots (s : State) (f : Nat) : List Nat :=
  let slot (a : W64) : Nat := (wbits a 23 0 - (0xE00000 + 0x2000 * f)) / 128
  (s.packets.filter (fun p => p.2.by_ == .flow f && (p.2.phase == .queued || p.2.phase == .reading))).map (fun p => slot p.2.addr) ++
    (s.launches.filter (fun l => l.by_ == .flow f)).map (fun l => slot l.addr) ++
    (s.agenda.filter (fun p => p.ev == .launchEnqueue && p.arg.n == 0 && p.arg.launch.by_ == .flow f)).map
      (fun p => slot p.arg.launch.addr)

/-- The flow that an open payload describes; it takes its domain's CUR (R396). -/
def State.newFlow (s : State) (w : List W64) : Flow :=
  let x (n : Nat) : W64 := nth w n 0
  let dom := (x 0).extractLsb' 8 8
  { uid := s.uid, port := wbits (x 0) 52 48, routed := x 1 != 0 || x 2 != 0, pip := x 2 ++ x 1, pmac := (x 3).setWidth 48
    part := wbits (x 0) 31 16, dom := dom, inc := entryCur (s.domAt 0 dom), ordered := (x 0).getLsbD 32, wbase := x 4
    rto := wbits (x 5) 31 0, sendSeq := 0, held := [], waiting := [], expected := 0, performed := [], reorder := []
    launching := none, cache := [], respUpto := 0, respGot := [], sinceAck := 0, slots := s.usedSlots (wbits (x 0) 7 0) }

/-- A bare answer of a management request. -/
def mgmtReply (st : Byte) : Option Reply := some (Reply.ofStatus 6 st)

/-- An open request: only on the management flow; refused with the number of R404's row. -/
def openBody (n : Nat) (_ : Flow) (f : Frame) (s : State) : State × Option Reply :=
  if n ≠ 0 then (s, mgmtReply 7)
  else
    let w := dwordsOf 6 f.payload
    let why := s.openRefusal w
    if why ≠ 0 then (s, some { status := 7, value := some (BitVec.ofNat 64 why), payload := [] })
    else ({ s with uid := s.uid + 1 }.setFlow (wbits (nth w 0 0) 7 0) (s.newFlow w), mgmtReply 0)

/-- MGMT_OPEN (R403, R404). -/
def execMgmtOpen (s : State) : Host.Outcome State Fault Refusal := .next (s.request .mgmtOpen openBody)

/-- A close request: only on the management flow, and not of the management flow. -/
def closeBody (n : Nat) (_ : Flow) (f : Frame) (s : State) : State × Option Reply :=
  let k := wbits (f.pay 0) 7 0
  if n ≠ 0 ∨ k = 0 then (s, mgmtReply 7) else (s.teardown k, mgmtReply 0)

/-- MGMT_CLOSE (R398, R403). -/
def execMgmtClose (s : State) : Host.Outcome State Fault Refusal := .next (s.request .mgmtClose closeBody)

/-! ### Management registers (R428) -/

/-- Stop of a die whose temperature a register shows (R428). -/
def tempStop (r : Nat) : Option Nat :=
  if 0x10 ≤ r ∧ r ≤ 0x4F then some (frondStop (r - 0x10))
  else if 0x50 ≤ r ∧ r ≤ 0x5F then some (archiveStop (r - 0x50))
  else if r = 0x60 then some 0
  else none

/-- Value of a management register that a read does not change; none for a number that is not listed. Input power is a
measurement, so its value is free. -/
def State.mgmtRegister (s : State) (r : Nat) : Option (W64 × State) :=
  let p := s.port
  let ret (v : W64) : Option (W64 × State) := some (v, s)
  match r with
  | 0 => ret Config.serial
  | 1 => ret p.bootst
  | 2 => ret (p.fwver.setWidth 64)
  | 3 => ret (p.fwmin.setWidth 64)
  | 4 => ret (p.etype.setWidth 64)
  | 5 => ret (p.udpp.setWidth 64)
  | 6 => ret (p.dirpa.setWidth 64)
  | 7 => ret p.alertva
  | 8 => ret (BitVec.ofNat 64 p.retired.length)
  | 9 => let a := s.takeFree; some (a.1 &&& 0xFFFFFFFF, a.2)
  | _ =>
    match tempStop r with
    | some t => ret ((s.stop t).temp.setWidth 64)
    | none =>
      if 0x100 ≤ r ∧ r ≤ 0x111 then ret (if p.links.getLsbD (r - 0x100) then 1 else 0)
      else if 0x120 ≤ r ∧ r ≤ 0x127 then ret 0
      else if 0x200 ≤ r ∧ r ≤ 0x2FF then ret (Config.idcert (r - 0x200))
      else none

/-- Management registers are open to a flow: the management flow, or a flow of a domain with BIND (R403). -/
def State.mgmtAllowed (s : State) (n : Nat) (x : Flow) : Bool := n == 0 || entryBind (s.domAt 0 x.dom)

/-- A read-register request, and any management code that is not assigned, which is denied. -/
def readRegisterBody (n : Nat) (x : Flow) (f : Frame) (s : State) : State × Option Reply :=
  if f.code ≠ 3 ∨ !s.mgmtAllowed n x then (s, mgmtReply 7)
  else match s.mgmtRegister (wbits (f.pay 0) 15 0) with
    | some (v, s) => (s, some { status := 0, value := some v, payload := [] })
    | none => (s, mgmtReply 7)

/-- MGMT_READ_REGISTER (R403, R428). -/
def execMgmtReadRegister (s : State) : Host.Outcome State Fault Refusal := .next (s.request .mgmtReadRegister readRegisterBody)

/-- A read of a die's count of stretch events, which clears it. -/
def droopcBody (n : Nat) (x : Flow) (f : Frame) (s : State) : State × Option Reply :=
  if !s.mgmtAllowed n x then (s, mgmtReply 7)
  else
    let t := wbits (f.pay 0) 15 0 - 0x80
    (s.modStop t (fun st => { st with droopc := 0 }), some { status := 0, value := some (s.stop t).droopc, payload := [] })

/-- DROOPC_READ (R428). -/
def execDroopcRead (s : State) : Host.Outcome State Fault Refusal := .next (s.request .droopcRead droopcBody)

/-- A write of a register that has no step of its own: ETYPE and UDPP are written, every other number is denied. -/
def writeRegisterBody (n : Nat) (x : Flow) (f : Frame) (s : State) : State × Option Reply :=
  if !s.mgmtAllowed n x then (s, mgmtReply 7)
  else match wbits (f.pay 0) 15 0 with
    | 4 => (s.modPort (fun p => { p with etype := (f.pay 1).setWidth 16 }), mgmtReply 0)
    | 5 => (s.modPort (fun p => { p with udpp := (f.pay 1).setWidth 16 }), mgmtReply 0)
    | _ => (s, mgmtReply 7)

/-- MGMT_WRITE_REGISTER (R428). -/
def execMgmtWriteRegister (s : State) : Host.Outcome State Fault Refusal := .next (s.request .mgmtWriteRegister writeRegisterBody)

/-- A write of FWMIN: denied below its value or above the running version. -/
def fwminBody (n : Nat) (x : Flow) (f : Frame) (s : State) : State × Option Reply :=
  let v : W32 := (f.pay 1).setWidth 32
  if !s.mgmtAllowed n x || decide (v.toNat < s.port.fwmin.toNat) || decide (s.port.fwver.toNat < v.toNat) then (s, mgmtReply 7)
  else (s.modPort (fun p => { p with fwmin := v }), mgmtReply 0)

/-- FWMIN_WRITE (R422, R428). -/
def execFwminWrite (s : State) : Host.Outcome State Fault Refusal := .next (s.request .fwminWrite fwminBody)

/-- Extend a measurement register (R423). -/
def State.extend (s : State) (i : Nat) (x : List Byte) : State :=
  s.modPort (fun p => { p with mse := p.mse.set i (sha512 (nth p.mse i [] ++ x)) })

/-- A write of a dword of MSEXT; the last one extends MSE3 with the digest of the eight. -/
def msextBody (n : Nat) (x : Flow) (f : Frame) (s : State) : State × Option Reply :=
  if !s.mgmtAllowed n x then (s, mgmtReply 7)
  else
    let i := wbits (f.pay 0) 15 0 - 0x120
    let s := s.modPort (fun p => { p with msext := p.msext.set i (f.pay 1) })
    (if i = 7 then s.extend 3 (sha512 (s.port.msext.flatMap (fun w => leBytes 8 w.toNat))) else s, mgmtReply 0)

/-- MSEXT_WRITE (R423, R428). -/
def execMsextWrite (s : State) : Host.Outcome State Fault Refusal := .next (s.request .msextWrite msextBody)

/-- The bytes of a report that are signed (R425). -/
def State.report (s : State) (nonce : List Byte) : List Byte :=
  leBytes 8 1 ++ leBytes 8 Config.serial.toNat ++ leBytes 4 s.port.fwver.toNat ++ leBytes 4 s.port.bootst.toNat ++
    List.replicate 40 0 ++ nonce ++ s.port.mse.flatten

/-- An attest request: the report and its signature. -/
def attestBody (_ : Nat) (_ : Flow) (f : Frame) (s : State) : State × Option Reply :=
  let r := s.report f.payload
  (s, some { status := 0, value := none, payload := r ++ Config.attestSignature r })

/-- MGMT_ATTEST (R403, R425). -/
def execMgmtAttest (s : State) : Host.Outcome State Fault Refusal := .next (s.request .mgmtAttest attestBody)

end Sys2Proof.Machine
end

