-- ==== Sys2Proof/Machine/Boot.lean ====
section
/-! DEFINITION. Power-good and the boot sequence, and the loss of power (R385, R387, R396, R420 to R424, R426). -/

namespace Sys2Proof.Machine

/-! ### The boot image (R421, R422, R424) -/

/-- Bytes of the boot flash. -/
def State.flashRead (s : State) (o n : Nat) : List Byte := (List.range n).map (fun i => NMap.getD s.port.flash (o + i) 0)

/-- A boot image: its header and its body. -/
structure BootImage where
  header : List Byte
  body : List Byte
  deriving DecidableEq, Repr

/-- Bytes `o` to `o + n - 1` of some bytes. -/
def cut (l : List Byte) (o n : Nat) : List Byte := (l.drop o).take n

/-- VER of an image. -/
def BootImage.ver (i : BootImage) : Nat := leNat (cut i.header 4 4)
/-- LEN of an image. -/
def BootImage.len (i : BootImage) : Nat := leNat (cut i.header 8 8)
/-- DIG of an image. -/
def BootImage.dig (i : BootImage) : List Byte := cut i.header 0x10 64
/-- KEY of an image. -/
def BootImage.key (i : BootImage) : List Byte := cut i.header 0x50 512

/-- The image in a slot of the flash; a length out of range has no body. -/
def State.slotImage (s : State) (slot : Nat) : BootImage :=
  let o := 0x4000000 * slot
  let n := leNat (s.flashRead (o + 8) 8)
  { header := s.flashRead o 1024, body := if n ≤ 0x3FFFC00 then s.flashRead (o + 0x400) n else [] }

/-- An image is accepted (R422). -/
def State.acceptImage (s : State) (i : BootImage) : Bool :=
  leNat (cut i.header 0 4) == 0x564B5346 && (cut i.header 0x250 432).all (· == 0) && decide (i.len ≤ 0x3FFFC00) &&
    decide (512 ≤ i.len) && sha512 i.key == Config.keyDigest && sha512 (i.body.take (i.len - 512)) == i.dig &&
    pssVerify (leNat i.key) (i.header.take 0x250) (i.body.drop (i.len - 512)) && decide (s.port.fwmin.toNat ≤ i.ver)

/-- The image that boot runs: slot A's, or slot B's (R420 step 1). -/
def State.bootImage (s : State) : Option BootImage := [s.slotImage 0, s.slotImage 1].find? s.acceptImage

/-! ### The steps of R420 -/

/-- Step 0: host ports 0 and 1 (bits of `m`) are brought up, and flow 0 is open for domain 0 in restricted mode; a port that
has not linked is tried again (R396, R420). -/
def bootPorts (s : State) : State :=
  let m := s.ev.m
  let f : Flow :=
    { uid := s.uid, port := 0, routed := false, pip := 0, pmac := 0, part := 0, dom := 0, inc := 0, ordered := true, wbase := 0
      rto := 2 ^ 20, sendSeq := 0, held := [], waiting := [], expected := 0, performed := [], reorder := [], launching := none
      cache := [], respUpto := 0, respGot := [], sinceAck := 0, slots := [] }
  let s := { s with uid := s.uid + 1 }.modPort (fun p => { p with
    powered := true, bootst := 0, restricted := true, links := BitVec.ofNat 18 (m % 4), flows := NMap.set p.flows 0 f })
  [0, 1].foldl (fun (s : State) n =>
    if s.port.links.getLsbD n then s else s.post (s.now + 2 ^ 30) .portLinkRetry { EvArg.zero with n := n }) s

/-- Step 2: the ROM and the accepted image are measured (R423). -/
def bootMeasure (i : BootImage) (s : State) : State :=
  (((s.extend 0 (sha512 Config.rom)).extend 1 i.dig).extend 1 (leBytes 8 i.ver)).extend 2 (sha512 (i.body.take 64))

/-- Step 3: channels that fail training, by 12 times the archive die plus the channel, are left out (R364, R420). -/
def bootChannels (out : List Nat) (s : State) : State :=
  let s := out.foldl (fun (s : State) c => s.modArchive (c / 12) (fun a =>
    if a.leftOut.contains (c % 12) then a else { a with leftOut := (c % 12) :: a.leftOut })) s
  if out.isEmpty then s else s.modPort (fun p => { p with bootst := p.bootst ||| 0x100 })

/-- A stop is reached from the port die on a strand whose links `out` are disabled: link `i` joins stops `i` and `i` + 1. -/
def strandReaches (out : List Nat) (t : Nat) : Bool := out.all (fun i => decide (t ≤ i)) || out.all (fun i => decide (i < t))

/-- Every stop is reached on some strand; `out` lists 8 times a link plus a strand (R385, R420). -/
def ringReaches (out : List Nat) : Bool :=
  (List.range 81).all (fun t => (List.range 8).any (fun k =>
    strandReaches ((out.filter (fun x => x % 8 == k)).map (· / 8)) t))

/-- Step 5: every sector is scrubbed to zero; those found uncorrectable are poisoned and counted (R385, R420). -/
def bootScrub (bad : List Nat) (s : State) : State :=
  bad.foldl (fun (s : State) x =>
    (s.countError (homeStop (32 * x)) (homeSource (32 * x)) (homeSrc (32 * x)) (32 * x)).1)
    { s with mem := [], syn := bad.foldl (fun m x => NMap.set m x 0xFFFFFFFF) [] }

/-- Step 6: the listed frames are retired (R387). -/
def bootRetired (s : State) : State :=
  s.port.retired.foldl (fun (s : State) f => s.modArchive (f / 2 ^ 21) (fun a => { a with retired := f :: a.retired })) s

/-- Bytes are copied into LPDDR, frame by frame (R387, R424). -/
def State.copyIn (s : State) (a : Nat) (bs : List Byte) : State :=
  ((pagesOf a bs.length).foldl (fun (r : State × List Byte) p => (r.1.storeAt p.1 (r.2.take p.2), r.2.drop p.2)) (s, bs)).1

/-- Step 7: the body is copied, domain 0 is written, the directory is fixed and region 0 is bound; false where the block or
the bind does not serve (R352, R424). -/
def bootConfigure (i : BootImage) (s : State) : Bool × State :=
  let d (n : Nat) : W64 := leDword (cut i.body (8 * n) 8)
  let dirpa := (d 0).toNat
  let load := (d 4).toNat
  let ok := dirpa % 2048 == 0 && s.inLpddrN dirpa 2048 && (d 1).toNat % 8 == 0 && (d 2).toNat % 64 == 0 && (d 3).toNat % 64 == 0 &&
    (cut i.body 0x28 24).all (· == 0) && s.inLpddrN load i.len
  if !ok then (false, s)
  else
    let e : W64 := 0x380000000
    let s := s.copyIn load i.body
    let s := { s with copies := (List.range 81).foldl (fun m t => NMap.set m (256 * t) e) s.copies }
    let s := s.modPort (fun p => { p with
      doms := NMap.set p.doms 0 e, dirpa := (d 0).setWidth 48, alertva := d 1, fwver := BitVec.ofNat 32 i.ver })
    match s.readVirtual 0 0 (d 2) 128 with
    | (s, none) => (false, s)
    | (s, some rcb) =>
      let r := s.bindRegion 0 rcb true
      (r.1 == 0, r.2)

/-- Step 8: the launch packet of the image is enqueued in region 0; false where it is refused (R223, R420). -/
def bootLaunch (i : BootImage) (s : State) : Bool × State :=
  let a := leDword (cut i.body 0x18 8)
  if (s.resolve (s.tlb2 (dispatchDie 0)) 0 a 128 leafR).isNone then (false, s)
  else
    (true, s.enqueue
      { addr := a, region := 0, by_ := .boot, who := .zero, waitId := 0, seq := 0, deadline := 0, arrived := s.now, dom := 0, inc := 0 })

/-- Halt with a code in BOOTST (R420). -/
def State.halt (s : State) (code : W64) : State := s.modPort (fun p => { p with bootst := p.bootst ||| code })

/-- POWER_GOOD: the die cycle counters start (R6), then steps 0 to 8. What the training and the scrub find comes with the step: in `m` the host ports that link, and
in the list of `target` the channels that fail (below 192), the ring links that fail (192 plus 8 times the link plus the
strand, below 65,536), and the sectors found uncorrectable (65,536 plus the sector). -/
def powerGoodEffect (s : State) : State :=
  let found := s.ev.target.after
  let channels := found.filter (fun x => decide (x < 192))
  let links := (found.filter (fun x => decide (192 ≤ x) && decide (x < 2 ^ 16))).map (· - 192)
  let bad := (found.filter (fun x => decide (2 ^ 16 ≤ x))).map (· - 2 ^ 16)
  if s.port.powered then s
  else
    let s := bootPorts { s with good := s.now }
    match s.bootImage with
    | none => s.halt 2
    | some i =>
      let s := bootChannels channels (bootMeasure i s)
      if 12 < channels.length then s.halt 3
      else
        let s := { s with strands := links.map (fun x => (x / 8, (x / 8 + 1) % 81, x % 8)) }
        if !ringReaches links then s.halt 4
        else
          let s := bootRetired (bootScrub bad s)
          let s := (List.range 16).foldl (fun (s : State) a =>
            s.post (s.now + 2 ^ 38) .patrolScrub { EvArg.zero with n := a }) s
          match bootConfigure i s with
          | (false, s) => s.halt 5
          | (true, s) =>
            match bootLaunch i s with
            | (false, s) => s.halt 6
            | (true, s) => (s.halt 1).modPort (fun p => { p with restricted := false })

/-- POWER_GOOD (R420). -/
def execPowerGood (s : State) : Host.Outcome State Fault Refusal := .next (powerGoodEffect s)

/-! ### The loss of power (R426) -/

/-- A step that comes from outside the module: a frame, a link, the supply, a temperature. -/
def Pending.outside (p : Pending) : Bool :=
  match p.ev with
  | .tirelRead | .tirelWrite | .tirelAtomic | .tirelCtrAdd | .tirelLaunch | .tirelResponse | .tirelAck | .mgmtOpen | .mgmtClose
  | .mgmtReadRegister | .mgmtWriteRegister | .fwminWrite | .msextWrite | .droopcRead | .mgmtAttest => p.arg.n == 0
  | .neighbourSolicitation | .nonTirelFrame | .linkDown | .linkUp | .droopStretch | .droopRecovery | .tempRefillHalve
  | .thermalStop | .powerGood | .powerLoss => true
  | _ => false

/-- POWER_LOSS: everything is as before power-good, but for what the module keeps without power: the fuses, the boot flash
and the management store (R387, R421 to R423, R426). -/
def powerLossEffect (s : State) : State :=
  { State.reset with
    now := s.now, uid := s.uid, free := s.free, agenda := s.agenda.filter Pending.outside
    port := { PortDie.empty with
      fwmin := s.port.fwmin, flash := s.port.flash, retired := s.port.retired, outbox := s.port.outbox } }

/-- POWER_LOSS (R426). -/
def execPowerLoss (s : State) : Host.Outcome State Fault Refusal := .next (powerLossEffect s)

end Sys2Proof.Machine
end

