-- ==== Sys2Proof/Machine/Dispatch.lean ====
section
/-! DEFINITION. The meaning of every instruction and event, one arm each. -/

namespace Sys2Proof.Machine

/-- What an instruction or event does to the module. -/
def exec (i : Instr) (s : State) : Host.Outcome State Fault Refusal :=
  match i with
  | .seq sx y p => Sys2Proof.Machine.execSeq sx y p s
  | .jump sx y p d => Sys2Proof.Machine.execJump sx y p d s
  | .br sx y p c d => Sys2Proof.Machine.execBr sx y p c d s
  | .loop sx y p => Sys2Proof.Machine.execLoop sx y p s
  | .call sx y p d => Sys2Proof.Machine.execCall sx y p d s
  | .ret sx y p => Sys2Proof.Machine.execRet sx y p s
  | .ind sx y p g => Sys2Proof.Machine.execInd sx y p g s
  | .endStage sx p e => Sys2Proof.Machine.execEndStage sx p e s
  | .loopi n => Sys2Proof.Machine.execLoopi n s
  | .loopg g m e => Sys2Proof.Machine.execLoopg g m e s
  | .yield b k => Sys2Proof.Machine.execYield b k s
  | .far t => Sys2Proof.Machine.execFar t s
  | .lpop => Sys2Proof.Machine.execLpop s
  | .trapi c => Sys2Proof.Machine.execTrapi c s
  | .moveToRf m g => Sys2Proof.Machine.execMoveToRf m g s
  | .moveToPreg m q => Sys2Proof.Machine.execMoveToPreg m q s
  | .moveToSpr m sx => Sys2Proof.Machine.execMoveToSpr m sx s
  | .moveToOperandPort m u x => Sys2Proof.Machine.execMoveToOperandPort m u x s
  | .lsuDl m => Sys2Proof.Machine.execLsuDl m s
  | .lsuSc m => Sys2Proof.Machine.execLsuSc m s
  | .lsuCmp m => Sys2Proof.Machine.execLsuCmp m s
  | .lsuHi m => Sys2Proof.Machine.execLsuHi m s
  | .add m u sx => Sys2Proof.Machine.execAdd m u sx s
  | .sub m u sx => Sys2Proof.Machine.execSub m u sx s
  | .and m u sx => Sys2Proof.Machine.execAnd m u sx s
  | .or m u sx => Sys2Proof.Machine.execOr m u sx s
  | .xor m u sx => Sys2Proof.Machine.execXor m u sx s
  | .andn m u sx => Sys2Proof.Machine.execAndn m u sx s
  | .shl m u sx => Sys2Proof.Machine.execShl m u sx s
  | .shr m u sx => Sys2Proof.Machine.execShr m u sx s
  | .sra m u sx => Sys2Proof.Machine.execSra m u sx s
  | .rol m u sx => Sys2Proof.Machine.execRol m u sx s
  | .min m u sx => Sys2Proof.Machine.execMin m u sx s
  | .max m u sx => Sys2Proof.Machine.execMax m u sx s
  | .minn m u sx => Sys2Proof.Machine.execMinn m u sx s
  | .maxn m u sx => Sys2Proof.Machine.execMaxn m u sx s
  | .clz m u sx => Sys2Proof.Machine.execClz m u sx s
  | .ctz m u sx => Sys2Proof.Machine.execCtz m u sx s
  | .popc m u sx => Sys2Proof.Machine.execPopc m u sx s
  | .sext m u sx => Sys2Proof.Machine.execSext m u sx s
  | .zext m u sx => Sys2Proof.Machine.execZext m u sx s
  | .bfx m u sx => Sys2Proof.Machine.execBfx m u sx s
  | .bfi m u sx => Sys2Proof.Machine.execBfi m u sx s
  | .lea m u sx => Sys2Proof.Machine.execLea m u sx s
  | .sel m u sx => Sys2Proof.Machine.execSel m u sx s
  | .pass m u sx => Sys2Proof.Machine.execPass m u sx s
  | .bswap m u sx => Sys2Proof.Machine.execBswap m u sx s
  | .abs m u sx => Sys2Proof.Machine.execAbs m u sx s
  | .cmpeq m sx => Sys2Proof.Machine.execCmpeq m sx s
  | .cmpne m sx => Sys2Proof.Machine.execCmpne m sx s
  | .cmplt m sx => Sys2Proof.Machine.execCmplt m sx s
  | .cmple m sx => Sys2Proof.Machine.execCmple m sx s
  | .cmpltn m sx => Sys2Proof.Machine.execCmpltn m sx s
  | .cmplen m sx => Sys2Proof.Machine.execCmplen m sx s
  | .tbit m sx => Sys2Proof.Machine.execTbit m sx s
  | .pand m => Sys2Proof.Machine.execPand m s
  | .por m => Sys2Proof.Machine.execPor m s
  | .pxor m => Sys2Proof.Machine.execPxor m s
  | .pnot m => Sys2Proof.Machine.execPnot m s
  | .pmov m => Sys2Proof.Machine.execPmov m s
  | .mul m sx => Sys2Proof.Machine.execMul m sx s
  | .mulh m sx => Sys2Proof.Machine.execMulh m sx s
  | .mulhn m sx => Sys2Proof.Machine.execMulhn m sx s
  | .madd m sx => Sys2Proof.Machine.execMadd m sx s
  | .div m sx => Sys2Proof.Machine.execDiv m sx s
  | .divn m sx => Sys2Proof.Machine.execDivn m sx s
  | .rem m sx => Sys2Proof.Machine.execRem m sx s
  | .remn m sx => Sys2Proof.Machine.execRemn m sx s
  | .ldI8 m o => Sys2Proof.Machine.execLdI8 m o s
  | .ldN8 m o => Sys2Proof.Machine.execLdN8 m o s
  | .ldI16 m o => Sys2Proof.Machine.execLdI16 m o s
  | .ldN16 m o => Sys2Proof.Machine.execLdN16 m o s
  | .ldI32 m o => Sys2Proof.Machine.execLdI32 m o s
  | .ldN32 m o => Sys2Proof.Machine.execLdN32 m o s
  | .ld64 m o => Sys2Proof.Machine.execLd64 m o s
  | .ld128 m o => Sys2Proof.Machine.execLd128 m o s
  | .st8 m o => Sys2Proof.Machine.execSt8 m o s
  | .st16 m o => Sys2Proof.Machine.execSt16 m o s
  | .st32 m o => Sys2Proof.Machine.execSt32 m o s
  | .st64 m o => Sys2Proof.Machine.execSt64 m o s
  | .st128 m o => Sys2Proof.Machine.execSt128 m o s
  | .pf m => Sys2Proof.Machine.execPf m s
  | .aAdd32 m o => Sys2Proof.Machine.execAAdd32 m o s
  | .aAnd32 m o => Sys2Proof.Machine.execAAnd32 m o s
  | .aOr32 m o => Sys2Proof.Machine.execAOr32 m o s
  | .aXor32 m o => Sys2Proof.Machine.execAXor32 m o s
  | .aMin32 m o => Sys2Proof.Machine.execAMin32 m o s
  | .aMax32 m o => Sys2Proof.Machine.execAMax32 m o s
  | .aMinn32 m o => Sys2Proof.Machine.execAMinn32 m o s
  | .aMaxn32 m o => Sys2Proof.Machine.execAMaxn32 m o s
  | .aSwap32 m o => Sys2Proof.Machine.execASwap32 m o s
  | .aCas32 m o => Sys2Proof.Machine.execACas32 m o s
  | .aAdd64 m o => Sys2Proof.Machine.execAAdd64 m o s
  | .aAnd64 m o => Sys2Proof.Machine.execAAnd64 m o s
  | .aOr64 m o => Sys2Proof.Machine.execAOr64 m o s
  | .aXor64 m o => Sys2Proof.Machine.execAXor64 m o s
  | .aMin64 m o => Sys2Proof.Machine.execAMin64 m o s
  | .aMax64 m o => Sys2Proof.Machine.execAMax64 m o s
  | .aMinn64 m o => Sys2Proof.Machine.execAMinn64 m o s
  | .aMaxn64 m o => Sys2Proof.Machine.execAMaxn64 m o s
  | .aSwap64 m o => Sys2Proof.Machine.execASwap64 m o s
  | .aCas64 m o => Sys2Proof.Machine.execACas64 m o s
  | .redAdd32 m o => Sys2Proof.Machine.execRedAdd32 m o s
  | .redAnd32 m o => Sys2Proof.Machine.execRedAnd32 m o s
  | .redOr32 m o => Sys2Proof.Machine.execRedOr32 m o s
  | .redXor32 m o => Sys2Proof.Machine.execRedXor32 m o s
  | .redMin32 m o => Sys2Proof.Machine.execRedMin32 m o s
  | .redMax32 m o => Sys2Proof.Machine.execRedMax32 m o s
  | .redMinn32 m o => Sys2Proof.Machine.execRedMinn32 m o s
  | .redMaxn32 m o => Sys2Proof.Machine.execRedMaxn32 m o s
  | .redAdd64 m o => Sys2Proof.Machine.execRedAdd64 m o s
  | .redAnd64 m o => Sys2Proof.Machine.execRedAnd64 m o s
  | .redOr64 m o => Sys2Proof.Machine.execRedOr64 m o s
  | .redXor64 m o => Sys2Proof.Machine.execRedXor64 m o s
  | .redMin64 m o => Sys2Proof.Machine.execRedMin64 m o s
  | .redMax64 m o => Sys2Proof.Machine.execRedMax64 m o s
  | .redMinn64 m o => Sys2Proof.Machine.execRedMinn64 m o s
  | .redMaxn64 m o => Sys2Proof.Machine.execRedMaxn64 m o s
  | .vadd d a b t k => Sys2Proof.Machine.execVadd d a b t k s
  | .vsub d a b t k => Sys2Proof.Machine.execVsub d a b t k s
  | .vmul d a b t k => Sys2Proof.Machine.execVmul d a b t k s
  | .vfma d a b t k => Sys2Proof.Machine.execVfma d a b t k s
  | .vadds d a b t k => Sys2Proof.Machine.execVadds d a b t k s
  | .vsubs d a b t k => Sys2Proof.Machine.execVsubs d a b t k s
  | .vmin d a b t k => Sys2Proof.Machine.execVmin d a b t k s
  | .vmax d a b t k => Sys2Proof.Machine.execVmax d a b t k s
  | .vminn d a b t k => Sys2Proof.Machine.execVminn d a b t k s
  | .vmaxn d a b t k => Sys2Proof.Machine.execVmaxn d a b t k s
  | .vabs d a t k => Sys2Proof.Machine.execVabs d a t k s
  | .vneg d a t k => Sys2Proof.Machine.execVneg d a t k s
  | .vand d a b t k => Sys2Proof.Machine.execVand d a b t k s
  | .vor d a b t k => Sys2Proof.Machine.execVor d a b t k s
  | .vxor d a b t k => Sys2Proof.Machine.execVxor d a b t k s
  | .vshl d a b c t k m => Sys2Proof.Machine.execVshl d a b c t k m s
  | .vshr d a b c t k m => Sys2Proof.Machine.execVshr d a b c t k m s
  | .vsra d a b c t k m => Sys2Proof.Machine.execVsra d a b c t k m s
  | .vcmpeq d a b t k => Sys2Proof.Machine.execVcmpeq d a b t k s
  | .vcmplt d a b t k => Sys2Proof.Machine.execVcmplt d a b t k s
  | .vcmple d a b t k => Sys2Proof.Machine.execVcmple d a b t k s
  | .vsel d a b t k => Sys2Proof.Machine.execVsel d a b t k s
  | .vmov d a t k => Sys2Proof.Machine.execVmov d a t k s
  | .vsplat d c t k => Sys2Proof.Machine.execVsplat d c t k s
  | .vbcr d a c t k => Sys2Proof.Machine.execVbcr d a c t k s
  | .vrotr d a c t k => Sys2Proof.Machine.execVrotr d a c t k s
  | .vredr d a c t k n => Sys2Proof.Machine.execVredr d a c t k n s
  | .vbcc d a c t k => Sys2Proof.Machine.execVbcc d a c t k s
  | .vrotc d a c t k => Sys2Proof.Machine.execVrotc d a c t k s
  | .vredc d a c t k n => Sys2Proof.Machine.execVredc d a c t k n s
  | .vcvt d a t k sx e => Sys2Proof.Machine.execVcvt d a t k sx e s
  | .vpack d a b t k sx => Sys2Proof.Machine.execVpack d a b t k sx s
  | .vunpk d a t k sx h => Sys2Proof.Machine.execVunpk d a t k sx h s
  | .vld d c => Sys2Proof.Machine.execVld d c s
  | .vst a c k => Sys2Proof.Machine.execVst a c k s
  | .vldr d c r => Sys2Proof.Machine.execVldr d c r s
  | .vstr a c k r => Sys2Proof.Machine.execVstr a c k r s
  | .vexp2 d a t k g => Sys2Proof.Machine.execVexp2 d a t k g s
  | .vlog2 d a t k g => Sys2Proof.Machine.execVlog2 d a t k g s
  | .vrcp d a t k g => Sys2Proof.Machine.execVrcp d a t k g s
  | .vrsq d a t k g => Sys2Proof.Machine.execVrsq d a t k g s
  | .vsqrt d a t k g => Sys2Proof.Machine.execVsqrt d a t k g s
  | .vtanh d a t k g => Sys2Proof.Machine.execVtanh d a t k g s
  | .vsigm d a t k g => Sys2Proof.Machine.execVsigm d a t k g s
  | .vsin d a t k g => Sys2Proof.Machine.execVsin d a t k g s
  | .vcos d a t k g => Sys2Proof.Machine.execVcos d a t k g s
  | .vqmax a t k q => Sys2Proof.Machine.execVqmax a t k q s
  | .rngDraw d c n => Sys2Proof.Machine.execRngDraw d c n s
  | .vcore d => Sys2Proof.Machine.execVcore d s
  | .strSetl a c => Sys2Proof.Machine.execStrSetl a c s
  | .strSeed a => Sys2Proof.Machine.execStrSeed a s
  | .shfClaim c sx => Sys2Proof.Machine.execShfClaim c sx s
  | .shfRel sx => Sys2Proof.Machine.execShfRel sx s
  | .wld a b r sx => Sys2Proof.Machine.execWld a b r sx s
  | .arun a r m sx n => Sys2Proof.Machine.execArun a r m sx n s
  | .arunBt a r m sx n => Sys2Proof.Machine.execArunBt a r m sx n s
  | .stopCfg a b c => Sys2Proof.Machine.execStopCfg a b c s
  | .fclr a b c => Sys2Proof.Machine.execFclr a b c s
  | .drain a b c r f n => Sys2Proof.Machine.execDrain a b c r f n s
  | .fld a b c r => Sys2Proof.Machine.execFld a b c r s
  | .fst a b c r => Sys2Proof.Machine.execFst a b c r s
  | .sq4 a b r sx u v => Sys2Proof.Machine.execSq4 a b r sx u v s
  | .sq8 a b r sx v => Sys2Proof.Machine.execSq8 a b r sx v s
  | .sqLd a b r => Sys2Proof.Machine.execSqLd a b r s
  | .sqClr => Sys2Proof.Machine.execSqClr s
  | .chk a c m n => Sys2Proof.Machine.execChk a c m n s
  | .strStat c => Sys2Proof.Machine.execStrStat c s
  | .cpyStart a h => Sys2Proof.Machine.execCpyStart a h s
  | .cpyWp c h => Sys2Proof.Machine.execCpyWp c h s
  | .cpyWpwait a c e sx h => Sys2Proof.Machine.execCpyWpwait a c e sx h s
  | .cpyAbort h => Sys2Proof.Machine.execCpyAbort h s
  | .ctrAdd a b c r sx => Sys2Proof.Machine.execCtrAdd a b c r sx s
  | .ctrMax a b c r sx => Sys2Proof.Machine.execCtrMax a b c r sx s
  | .ctrRead a b c sx => Sys2Proof.Machine.execCtrRead a b c sx s
  | .ctrWait a b c e sx => Sys2Proof.Machine.execCtrWait a b c e sx s
  | .ctrArw a c e sx => Sys2Proof.Machine.execCtrArw a c e sx s
  | .fence a c e k sx => Sys2Proof.Machine.execFence a c e k sx s
  | .qsend a c e q => Sys2Proof.Machine.execQsend a c e q s
  | .qrecv b c e q => Sys2Proof.Machine.execQrecv b c e q s
  | .rngKey a b => Sys2Proof.Machine.execRngKey a b s
  | .rngCtr a b => Sys2Proof.Machine.execRngCtr a b s
  | .rngSkip a b => Sys2Proof.Machine.execRngSkip a b s
  | .rngNext c => Sys2Proof.Machine.execRngNext c s
  | .rngSave c => Sys2Proof.Machine.execRngSave c s
  | .launch a b c e => Sys2Proof.Machine.execLaunch a b c e s
  | .sysCtx c sx => Sys2Proof.Machine.execSysCtx c sx s
  | .sysFlg c => Sys2Proof.Machine.execSysFlg c s
  | .ctxEvict a b c => Sys2Proof.Machine.execCtxEvict a b c s
  | .ctxLoad a b c => Sys2Proof.Machine.execCtxLoad a b c s
  | .ctxPark a => Sys2Proof.Machine.execCtxPark a s
  | .ctxResume a => Sys2Proof.Machine.execCtxResume a s
  | .incAdv a c => Sys2Proof.Machine.execIncAdv a c s
  | .reclaim a c e => Sys2Proof.Machine.execReclaim a c e s
  | .tlbInv a b c e l sx => Sys2Proof.Machine.execTlbInv a b c e l sx s
  | .rcbBind a b => Sys2Proof.Machine.execRcbBind a b s
  | .ctrReset a b => Sys2Proof.Machine.execCtrReset a b s
  | .frameRetire a => Sys2Proof.Machine.execFrameRetire a s
  | .errRead a c => Sys2Proof.Machine.execErrRead a c s
  | .errClr a => Sys2Proof.Machine.execErrClr a s
  | .snapRead a b c => Sys2Proof.Machine.execSnapRead a b c s
  | .domSet a b => Sys2Proof.Machine.execDomSet a b s
  | .pwrCfg a b => Sys2Proof.Machine.execPwrCfg a b s
  | .powerGood => Sys2Proof.Machine.execPowerGood s
  | .portLinkRetry => Sys2Proof.Machine.execPortLinkRetry s
  | .tirelRead => Sys2Proof.Machine.execTirelRead s
  | .tirelWrite => Sys2Proof.Machine.execTirelWrite s
  | .tirelAtomic => Sys2Proof.Machine.execTirelAtomic s
  | .tirelCtrAdd => Sys2Proof.Machine.execTirelCtrAdd s
  | .tirelLaunch => Sys2Proof.Machine.execTirelLaunch s
  | .mgmtOpen => Sys2Proof.Machine.execMgmtOpen s
  | .mgmtClose => Sys2Proof.Machine.execMgmtClose s
  | .mgmtReadRegister => Sys2Proof.Machine.execMgmtReadRegister s
  | .mgmtWriteRegister => Sys2Proof.Machine.execMgmtWriteRegister s
  | .fwminWrite => Sys2Proof.Machine.execFwminWrite s
  | .msextWrite => Sys2Proof.Machine.execMsextWrite s
  | .droopcRead => Sys2Proof.Machine.execDroopcRead s
  | .mgmtAttest => Sys2Proof.Machine.execMgmtAttest s
  | .tirelResponse => Sys2Proof.Machine.execTirelResponse s
  | .tirelAck => Sys2Proof.Machine.execTirelAck s
  | .ackSend => Sys2Proof.Machine.execAckSend s
  | .tirelRetransmit => Sys2Proof.Machine.execTirelRetransmit s
  | .linkDown => Sys2Proof.Machine.execLinkDown s
  | .neighbourSolicitation => Sys2Proof.Machine.execNeighbourSolicitation s
  | .nonTirelFrame => Sys2Proof.Machine.execNonTirelFrame s
  | .windowAccessSend => Sys2Proof.Machine.execWindowAccessSend s
  | .windowCounterPoll => Sys2Proof.Machine.execWindowCounterPoll s
  | .droopStretch => Sys2Proof.Machine.execDroopStretch s
  | .tempRefillHalve => Sys2Proof.Machine.execTempRefillHalve s
  | .thermalStop => Sys2Proof.Machine.execThermalStop s
  | .patrolScrub => Sys2Proof.Machine.execPatrolScrub s
  | .errorWindowStart => Sys2Proof.Machine.execErrorWindowStart s
  | .spareSubstitution => Sys2Proof.Machine.execSpareSubstitution s
  | .stagingUnitWithdraw => Sys2Proof.Machine.execStagingUnitWithdraw s
  | .accessAtHome => Sys2Proof.Machine.execAccessAtHome s
  | .counterOpAtHome => Sys2Proof.Machine.execCounterOpAtHome s
  | .waitCancelAtHome => Sys2Proof.Machine.execWaitCancelAtHome s
  | .responseAtSlot => Sys2Proof.Machine.execResponseAtSlot s
  | .loadExpire => Sys2Proof.Machine.execLoadExpire s
  | .waitDeadlineExpire => Sys2Proof.Machine.execWaitDeadlineExpire s
  | .arwIndeterminate => Sys2Proof.Machine.execArwIndeterminate s
  | .mdlExpire => Sys2Proof.Machine.execMdlExpire s
  | .waitComplete => Sys2Proof.Machine.execWaitComplete s
  | .segmentOverrun => Sys2Proof.Machine.execSegmentOverrun s
  | .resultLand => Sys2Proof.Machine.execResultLand s
  | .icacheLineFill => Sys2Proof.Machine.execIcacheLineFill s
  | .arbiterDecide => Sys2Proof.Machine.execArbiterDecide s
  | .contextStop => Sys2Proof.Machine.execContextStop s
  | .trapDelivery => Sys2Proof.Machine.execTrapDelivery s
  | .deferredFault => Sys2Proof.Machine.execDeferredFault s
  | .ctxParkAtTarget => Sys2Proof.Machine.execCtxParkAtTarget s
  | .ctxResumeAtTarget => Sys2Proof.Machine.execCtxResumeAtTarget s
  | .ctxEvictAtTarget => Sys2Proof.Machine.execCtxEvictAtTarget s
  | .ctxLoadPerform => Sys2Proof.Machine.execCtxLoadPerform s
  | .copyCommandBegin => Sys2Proof.Machine.execCopyCommandBegin s
  | .copySectorStep => Sys2Proof.Machine.execCopySectorStep s
  | .copyTranslationRetry => Sys2Proof.Machine.execCopyTranslationRetry s
  | .streamChunk => Sys2Proof.Machine.execStreamChunk s
  | .launchEnqueue => Sys2Proof.Machine.execLaunchEnqueue s
  | .packetRead => Sys2Proof.Machine.execPacketRead s
  | .dependencePoll => Sys2Proof.Machine.execDependencePoll s
  | .dependenceTimeout => Sys2Proof.Machine.execDependenceTimeout s
  | .taskPlace => Sys2Proof.Machine.execTaskPlace s
  | .taskStart => Sys2Proof.Machine.execTaskStart s
  | .taskEnd => Sys2Proof.Machine.execTaskEnd s
  | .packetComplete => Sys2Proof.Machine.execPacketComplete s
  | .rcbBindAtDispatch => Sys2Proof.Machine.execRcbBindAtDispatch s
  | .domainUpdateAtStop => Sys2Proof.Machine.execDomainUpdateAtStop s
  | .reclaimAtController => Sys2Proof.Machine.execReclaimAtController s
  | .reclaimStopAnswer => Sys2Proof.Machine.execReclaimStopAnswer s
  | .reclaimDeadline => Sys2Proof.Machine.execReclaimDeadline s
  | .tableWalk => Sys2Proof.Machine.execTableWalk s
  | .tlbInvAtTlb => Sys2Proof.Machine.execTlbInvAtTlb s
  | .pwrCfgAtDie => Sys2Proof.Machine.execPwrCfgAtDie s
  | .domainControllerRequest => Sys2Proof.Machine.execDomainControllerRequest s
  | .frameRetireAtHome => Sys2Proof.Machine.execFrameRetireAtHome s
  | .linkUp => Sys2Proof.Machine.execLinkUp s
  | .powerBucketRefill => Sys2Proof.Machine.execPowerBucketRefill s
  | .droopRecovery => Sys2Proof.Machine.execDroopRecovery s
  | .requestLeavesCluster => Sys2Proof.Machine.execRequestLeavesCluster s
  | .powerLoss => Sys2Proof.Machine.execPowerLoss s

end Sys2Proof.Machine
end

