-- ==== Sys2Proof/Machine/Step.lean ====
section
/-! DEFINITION. One step of the module, and how a single instruction is placed where the next step issues it. -/

namespace Sys2Proof.Machine

/-- The slots of a bundle take effect one after another, in the order of their execution (R153, R162). -/
def runSlots : List (Nat × Instr) → State → Host.Outcome State Fault Refusal
  | [], s => .next s.endBundle
  | (n, i) :: r, s =>
    match exec i (s.atSlot n) with
    | .next t => runSlots r t
    | .fault f => .fault f
    | .refused e => .refused e

/-- One step: a step that is due, a whole bundle, or the clock going on. A module without power and without a pending
step stands still. -/
def step (s : State) : Host.Outcome State Fault Refusal :=
  match s.nextWork with
  | .event i t => exec i t
  | .bundle l t => runSlots l t
  | .to t => .next t
  | .idle => .fault .noPower

/-- The shortest bundle that holds a slot word: its header with the presence bit, the selector or the mark its slot asks
for, the word, and a zero literal where the word needs one (R139, R143, R146, R149). -/
def bundleOf (n : Nat) (i : Instr) (w : W32) : List W32 :=
  let x : Bool := match i with
    | .yield _ k => k == 1
    | _ => match i.moveSrc? with
      | some m => m.src == 0x56 || m.src == 0x57
      | none => false
  let mark : W32 := match i with
    | .yield _ _ => 0x08000000
    | .far _ => 0x01000000
    | _ => 0
  if n = 0 then [w]
  else [0x80000000 ||| mark ||| BitVec.ofNat 32 (2 ^ (15 + n)) ||| (if x then 0x00800000 else 0), w] ++
    (if x then [0] else [])

/-- Put an instruction where the next step issues it: context 0 of cluster 0 holds the sequencer, running a task of a
packet whose only fetch line is in the cache, and the line begins with the shortest bundle that holds the word; no step
is pending. Nothing else changes (log 2). -/
def State.withFetchWord (s : State) (nbits w : Nat) : State :=
  let words : List W32 := match tableWord nbits w with
    | some (n, i) => bundleOf n i (BitVec.ofNat 32 w)
    | none => [BitVec.ofNat 32 w]
  let bytes := words.flatMap bytesOfWord
  let line : Line := { pkt := s.uid, off := 0, bytes := bytes ++ List.replicate (64 - bytes.length) 0 }
  let t : Task := { Task.none with uid := s.uid, pkt := s.uid, running := true, nstg := 1, ymax := 65535 }
  let s := { s with agenda := [], tasks := NMap.set s.tasks s.uid t, uid := s.uid + 1 }
  let s := s.modCluster 0 (fun k => { k with run := some 0, lines := line :: k.lines, tasks := t.uid :: k.tasks })
  s.modCtx 0 0 (fun c => { c with
    occ := .resident, parked := false, task := t.uid, pc := 0, nextIssue := s.now, wait := none, held := none
    sctx := c.sctx ||| 0x400, begun := true
    seg := { count := 0, bound := 65535, rb := 65535, chk := false, sig := 0, crc := 0xFFFF, tested := false }, segAt := s.now })

end Sys2Proof.Machine
end

