-- ==== Sys2Proof/Safety.lean ====
section
/-! DEFINITION. What a safe run is: the model stops in no step of it, and its memory keeps the canonical form. -/

namespace Sys2Proof.Safety

open Sys2Proof.Machine

/-- A step goes on: neither fault nor refusal. -/
def Goes (s : State) : Prop := ∃ t, step s = .next t

/-- The invariant of the model's memory. -/
def Inv (s : State) : Prop := Memory.wf s.mem = true

/-- `t` is reached from `s` by steps that go on. -/
inductive Reach : State → State → Prop where
  | refl (s : State) : Reach s s
  | tail {s t u : State} : Reach s t → step t = .next u → Reach s u

end Sys2Proof.Safety
end

