-- ==== Sys2Proof/Certificates/Slice0/Obligations.lean ====
section
/-! DEFINITION. The statements about the model, one Prop each, and the few words they are said in. -/

namespace Sys2Proof.Claims

open Sys2Proof.Machine

/-! ### Words the statements use -/

/-- A bundle is in issue: its sources have been read and its slots take effect one after another (R153, R193). -/
def InBundle (s : State) : Prop := s.issue.live = false

/-- The context of the bundle in issue becomes `c`; nothing else of the module changes. -/
def withCtx (s : State) (c : Ctx) : State := s.setCtx s.issue.cl s.issue.cx c

/-- The value a performed move reads: the next of the values read at issue (R153). -/
def moveValue (s : State) : W64 := s.issue.srcs.headD 0

/-- The value has been used. -/
def used (s : State) : State := { s with issue := { s.issue with srcs := s.issue.srcs.tail } }

/-- A predicate as it was read at issue; p0 reads as true (R16, R153). -/
def predAtIssue (s : State) (n : Nat) : Bool := n == 0 || s.issue.p.getLsbD n

/-- The move's guard holds (R152). -/
def Performed (s : State) (m : MoveSrc) : Prop := predAtIssue s m.gp.toNat ≠ m.gi.getLsbD 0

/-- PC + size of the bundle in issue (R139). -/
def fallThrough (s : State) : BitVec 30 := s.issue.pc + BitVec.ofNat 30 s.issue.size

/-- PC + 4·sext(displacement), or the FAR slot's target if there is one (R143). -/
def target (s : State) (d : BitVec 12) : BitVec 30 :=
  match s.issue.far with
  | some t => t
  | none => s.issue.pc + 4 * d.signExtend 30

/-- A context after its bundle has been closed by a header with a STALL count: it goes on at `pc`, 1 + STALL cycles
later at the earliest, and its segment has been fed the header (R141, R382). -/
def goesOnAt (s : State) (st : BitVec 3) (pc : BitVec 30) (c : Ctx) : Ctx :=
  { c with pc := pc, bpc := s.issue.pc, tLast := s.now, stallLast := st.toNat, nextIssue := s.now + 1 + st.toNat
           owed := 0, seg := { c.seg with crc := crcHeader c.seg.crc s.issue.hdr } }

/-- The successor and the far target have been used. -/
def closed (s : State) : State := { s with issue := { s.issue with succ := none, far := none } }

/-- A step is posted: after the steps of its cycle that go before it (`Pending.rank`), before every later one. -/
def posted (s : State) (t : Nat) (ev : Instr) (arg : EvArg) : State :=
  { s with agenda := insertPending { time := t, ev := ev, arg := arg } s.agenda }

end Sys2Proof.Claims

open Sys2Proof Sys2Proof.Machine Sys2Proof.Claims

/-! ### Headers and C slots -/

/-- R142, R143, R145: the successor of SEQ, JUMP, BR and IND, for every state in which a bundle is in issue and its context
is not blocked; FAR sets the target of the bundle; CALL pushes PC + size and goes to its target, and RET pops the top of
the link stack and goes on there. Nothing else of the module changes. -/
def Obligations.HeaderSuccessor : Prop :=
  ∀ s : State, InBundle s →
    (∀ t, exec (.far t) s = .next { s with issue := { s.issue with far := some (t ++ 0#2) } }) ∧
    (s.issueCtx.blocked = false →
      (∀ st y p, s.issue.succ = none →
        exec (.seq st y p) s = .next (closed (withCtx s (goesOnAt s st (fallThrough s) s.issueCtx)))) ∧
      (∀ st y p e, s.issue.succ = some e →
        exec (.seq st y p) s = .next (closed (withCtx s (goesOnAt s st e s.issueCtx)))) ∧
      (∀ st y p d, exec (.jump st y p d) s = .next (closed (withCtx s (goesOnAt s st (target s d) s.issueCtx)))) ∧
      (∀ st y p c d, predAtIssue s (c.extractLsb' 0 3).toNat ≠ c.getLsbD 3 →
        exec (.br st y p c d) s = .next (closed (withCtx s (goesOnAt s st (target s d) s.issueCtx)))) ∧
      (∀ st y p c d, predAtIssue s (c.extractLsb' 0 3).toNat = c.getLsbD 3 →
        exec (.br st y p c d) s = .next (closed (withCtx s (goesOnAt s st (fallThrough s) s.issueCtx)))) ∧
      (∀ st y p g, exec (.ind st y p g) s =
        .next (closed (withCtx s (goesOnAt s st ((nth s.issue.g g.toNat 0).extractLsb' 0 30) s.issueCtx)))) ∧
      (∀ st y p d, exec (.call st y p d) s = .next (closed (withCtx s
        { goesOnAt s st (target s d) s.issueCtx with links := fallThrough s :: s.issueCtx.links }))) ∧
      (∀ st y p top rest, s.issueCtx.links = top :: rest →
        exec (.ret st y p) s = .next (closed (withCtx s { goesOnAt s st top s.issueCtx with links := rest }))))

/-- R144: the pseudo-code of LOOPI, LOOPG, the NAS LOOP and LPOP, once the traps it names are ruled out; outermost entry
first, so that the entry pushed is the last. Nothing else of the module changes. -/
def Obligations.LoopStack : Prop :=
  ∀ s : State, InBundle s →
    (∀ n, exec (.loopi n) s = .next (withCtx s { s.issueCtx with
      loops := s.issueCtx.loops ++ [{ start := fallThrough s, rem := n.toNat, max := n.toNat }]
      lx := s.issueCtx.lx.set s.issueCtx.loops.length 0 })) ∧
    (∀ g m e, nth s.issue.g g.toNat 0 = 0 → exec (.loopg g m e) s =
      .next { s with issue := { s.issue with succ := some (s.issue.pc + 4 * e.signExtend 30) } }) ∧
    (∀ g m e, nth s.issue.g g.toNat 0 ≠ 0 → exec (.loopg g m e) s = .next (withCtx s { s.issueCtx with
      loops := s.issueCtx.loops ++ [{ start := fallThrough s, rem := (nth s.issue.g g.toNat 0).toNat, max := m.toNat }]
      lx := s.issueCtx.lx.set s.issueCtx.loops.length 0 })) ∧
    (∀ es e, s.issueCtx.loops = es ++ [e] → exec .lpop s = .next (withCtx s { s.issueCtx with loops := es })) ∧
    (∀ st y p es e, s.issueCtx.blocked = false → s.issueCtx.loops = es ++ [e] → 1 < e.rem →
      exec (.loop st y p) s = .next (closed (withCtx s { goesOnAt s st e.start s.issueCtx with
        loops := es ++ [{ e with rem := e.rem - 1 }]
        lx := s.issueCtx.lx.set es.length (nth s.issueCtx.lx es.length 0 + 1)
        rrb := s.issueCtx.rrb - 1 }))) ∧
    (∀ st y p es e, s.issueCtx.blocked = false → s.issueCtx.loops = es ++ [e] → e.rem ≤ 1 →
      exec (.loop st y p) s = .next (closed (withCtx s { goesOnAt s st (fallThrough s) s.issueCtx with loops := es })))

namespace Sys2Proof.Claims

/-- The registers a program reads through a name or a port, the g registers apart: p, lx with the stacks, latches and
ports, the load queue, the random state, special registers, what the cores hold. -/
def SameRest (c d : Ctx) : Prop :=
  d.p = c.p ∧ d.lx = c.lx ∧ d.loops = c.loops ∧ d.links = c.links ∧ d.alu0 = c.alu0 ∧ d.alu1 = c.alu1 ∧
    d.prd = c.prd ∧ d.mul = c.mul ∧ d.lsu = c.lsu ∧ d.lq = c.lq ∧ d.key0 = c.key0 ∧ d.key1 = c.key1 ∧
    d.draw = c.draw ∧ d.stat = c.stat ∧ d.fflg = c.fflg ∧ d.sl = c.sl ∧ d.seed = c.seed ∧ d.mdl = c.mdl ∧
    d.rrb = c.rrb ∧ d.scc = c.scc ∧ d.sctx = c.sctx ∧ d.grid = c.grid ∧ d.arg = c.arg ∧ d.cores = c.cores

/-- Every register of a context is as before. -/
def SameRegs (c d : Ctx) : Prop := (d.g = c.g ∧ d.full = c.full ∧ d.expd = c.expd) ∧ SameRest c d

/-- Every register of a context but some g registers is as before. -/
def SameRegsBut (c d : Ctx) (but : List Nat) : Prop :=
  (∀ n, n ∉ but → nth d.g n 0 = nth c.g n 0 ∧ d.full.getLsbD n = c.full.getLsbD n ∧
    d.expd.getLsbD n = c.expd.getLsbD n) ∧ SameRest c d

/-- No byte of memory and no check code changes: staging and scratchpads, which lie in the same list, included. -/
def SameMemory (s t : State) : Prop := t.mem = s.mem ∧ t.syn = s.syn

/-- Outside one context: every other context, memory, tasks, packets, regions, domains and the port die are as before. -/
def OthersAlone (s t : State) (cl cx : Nat) : Prop :=
  (∀ k, k ≠ ctxKey cl cx → NMap.get? t.ctxs k = NMap.get? s.ctxs k) ∧ SameMemory s t ∧ t.regions = s.regions ∧
    t.packets = s.packets ∧ t.port = s.port ∧ t.copies = s.copies ∧ t.now = s.now

/-- An event is posted for some cycle from now on. -/
def Pends (s : State) (ev : Instr) (arg : EvArg) : Prop :=
  ∃ p ∈ s.agenda, p.ev = ev ∧ p.arg = arg ∧ s.now ≤ p.time

/-- A scalar result of the bundle in issue is on its way: it lands `lat` cycles after the issue (R11, R156). Nothing else
of the module changes. -/
def lands (s : State) (lat : Nat) (d : Dest) (lo hi : W64) : State :=
  posted (withCtx (used s) { s.issueCtx with
    inflight := s.issueCtx.inflight ++ [Landing.scalarAt (s.now + lat) d lo hi] }) (s.now + lat) .resultLand
    (EvArg.at s.issue.cl s.issue.cx 0)

/-- Width of a WID code: 64, 32, 16 or 8 (R184). -/
def width (sz : BitVec 2) : Nat := 64 >>> sz.toNat

/-- A record stands among those that wait for their delivery, in the issue order of what caused them (R341). -/
def inIssueOrder (r : TrapRec) (l : List TrapRec) : List TrapRec :=
  l.takeWhile (fun q => q.ord ≤ r.ord) ++ r :: l.dropWhile (fun q => q.ord ≤ r.ord)

/-- What a wait of the END bundle's own K slot goes on for: what it does outside its context (R28, R162). -/
def ActsOutside (w : Wait) : Prop := w.kind = .ctrArw ∨ w.kind = .qsend ∨ w.kind = .launch

/-- The unit of an ALU trigger. -/
def aluOf (u : BitVec 1) : Dest := if u = 0 then .alu0 else .alu1

/-- Ports of the unit of an ALU trigger. -/
def aluPorts (s : State) (u : BitVec 1) : Ports := if u = 0 then s.issueCtx.alu0 else s.issueCtx.alu1

end Sys2Proof.Claims

/-- R28: END ends the stage at once, whether or not its bundle has begun a wait. Its context is out of the arbiter's hands,
its shelves are free, the task notes the stage and the larger completion code, tokens of the queues it consumes are gone
(R29), and the end of its work is looked at next cycle. A wait of its own bundle goes on where it acts outside the context, as a
qsend does, and is over where it would only deliver to it. That the slot is freed a cycle later is the model's choice
(log 26). -/
def Obligations.StageEnds : Prop :=
  ∀ (s : State) st p e, InBundle s →
    ∃ t, exec (.endStage st p e) s = .next t ∧
      t.issueCtx.occ = .ended ∧ t.issueCtx.held = none ∧ t.issueCtx.claims = 0 ∧
      (∀ w, t.issueCtx.wait = some w ↔ s.issueCtx.wait = some w ∧ ActsOutside w) ∧
      (∀ a, a ∈ t.issueCtx.accs ↔ a ∈ s.issueCtx.accs ∧
        ¬((a.kind = .ctrRead ∨ a.kind = .ctrWait) ∧ ∃ w, s.issueCtx.wait = some w ∧ w.id = a.id)) ∧
      (t.cluster s.issue.cl).run ≠ some s.issue.cx ∧
      (∀ k, NMap.get? s.tasks s.issueCtx.task = some k →
        ∃ k', NMap.get? t.tasks s.issueCtx.task = some k' ∧ s.issueCtx.stage ∈ k'.ended ∧
          k'.code = Max.max k.code e.toNat ∧
          k'.queues = k.queues.map (fun q => if q.consumer = s.issueCtx.stage then { q with tokens := [] } else q)) ∧
      Pends t .taskEnd (EvArg.at s.issue.cl s.issue.cx s.issueCtx.task) ∧
      SameRegs s.issueCtx t.issueCtx ∧ OthersAlone s t s.issue.cl s.issue.cx

/-- R199, R22, R382: a yield, in a bundle that waits or in one that does not, opens a segment with bound min(RB, YMAX),
whose count begins with the bundle's issue cycle and whose CRC begins with its header; with CHK the segment is checked against
RB and the X slot's SIG. The STALL cycles of the bundle are owed, and the context offers the sequencer: where it holds it, it
gives it up to the arbiter, to which it counts as having yielded unless it waits. No register changes. -/
def Obligations.YieldOpensSegment : Prop :=
  ∀ (s : State) b k, InBundle s → s.issueCtx.tLast = s.now →
    s.issueCtx.nextIssue = s.now + 1 + s.issueCtx.stallLast → s.issueCtx.fetching = false →
    ∃ t, exec (.yield b k) s = .next t ∧
      t.issueCtx.seg.bound = Min.min b.toNat (s.task s.issueCtx).ymax ∧ t.issueCtx.seg.rb = b.toNat ∧
      t.issueCtx.seg.count = 1 ∧ t.issueCtx.segAt = s.now + 1 ∧ t.issueCtx.seg.tested = false ∧
      t.issueCtx.seg.chk = (k == 1) ∧
      (k = 1 → ∀ x, s.issue.x = some x → t.issueCtx.seg.sig = x.extractLsb' 0 16) ∧
      t.issueCtx.seg.crc = crcHeader 0xFFFF s.issue.hdr ∧
      t.issueCtx.owed = s.issueCtx.stallLast ∧ t.issueCtx.nextIssue = s.issueCtx.nextIssue ∧
      t.issueCtx.yielded = !s.issueCtx.blocked ∧ t.issueCtx.readyAt = s.now + 1 ∧
      (t.cluster s.issue.cl).run ≠ some s.issue.cx ∧
      ((s.cluster s.issue.cl).run = some s.issue.cx → (t.cluster s.issue.cl).run = none ∧
        Pends t .arbiterDecide (EvArg.at s.issue.cl 0 0)) ∧
      ((s.cluster s.issue.cl).run ≠ some s.issue.cx → t.clusters = s.clusters) ∧
      t.issueCtx.pc = s.issueCtx.pc ∧ SameRegs s.issueCtx t.issueCtx ∧ OthersAlone s t s.issue.cl s.issue.cx ∧
      t.tasks = s.tasks

/-- R201, R339, R340: trapi raises SYSCALL. Its record names the bundle, has the code in its address field and the
successor as NPC; the context is parked and off the sequencer, the record waits for its delivery, and no register
changes. -/
def Obligations.TrapiRaisesSyscall : Prop :=
  ∀ (s : State) code, InBundle s → s.issueCtx.parked = false →
    ∃ t, exec (.trapi code) s = .next t ∧
      t.issueCtx.pend = inIssueOrder
        { ord := s.uid, ctxw := s.issueCtx.sctx, cls := 15, slot := 1, engine := 0, bpc := s.issueCtx.bpc
          npc := s.issueCtx.pc, cidx := 0, esw := 0, addr := code.setWidth 64, rg := s.fieldsOf s.issueCtx }
        s.issueCtx.pend ∧
      t.issueCtx.parked = true ∧ t.issueCtx.pc = s.issueCtx.pc ∧
      (t.cluster s.issue.cl).run ≠ some s.issue.cx ∧
      Pends t .trapDelivery (EvArg.at s.issue.cl s.issue.cx 0) ∧
      SameRegs s.issueCtx t.issueCtx ∧ OthersAlone s t s.issue.cl s.issue.cx ∧ t.tasks = s.tasks

/-! ### Moves -/

/-- R152: a move or trigger whose guard fails has no effect at all: it takes no source value, its source is not looked at,
and it starts no unit; p0 as a guard is true, so GP = 0 with GI = 0 is always performed and with GI = 1 never; the decode
checks of a move's word do not depend on its guard. -/
def Obligations.GuardedOffMove : Prop :=
  (∀ (s : State) i m, InBundle s → i.moveSrc? = some m → ¬Performed s m →
    exec i s = .next s ∧
    ∀ (c : Ctx) now x j n r, guardOn c.p m = false → c.sources now x j ((n, i) :: r) = c.sources now x j r) ∧
  (∀ (s : State) (m : MoveSrc), m.gp = 0 → (Performed s m ↔ m.gi = 0)) ∧
  ∀ (x : Bool) (n : Nat) (w v : W32), 2 ≤ n → n ≤ 4 → w.extractLsb' 0 28 = v.extractLsb' 0 28 →
    (decodeSlot x n w).toOption.isSome = (decodeSlot x n v).toOption.isSome

/-- R150, R151, R154, R155: what a move to a g register, a predicate, a special register, an O or O2 port of a unit and the
four CFG selectors of the LSU writes, and that it writes nothing else. -/
def Obligations.MoveDestinations : Prop :=
  ∀ (s : State) m, InBundle s → Performed s m →
    (∀ g : BitVec 6, ∃ c, exec (.moveToRf m g) s = .next (withCtx (used s) c) ∧
      c.g = s.issueCtx.g.set g.toNat (moveValue s) ∧
      (∀ n, c.full.getLsbD n = (s.issueCtx.full.getLsbD n || n == g.toNat)) ∧
      (∀ n, c.expd.getLsbD n = (s.issueCtx.expd.getLsbD n && n != g.toNat)) ∧
      NMap.get? c.await g.toNat = none ∧
      (∀ n, n ≠ g.toNat → NMap.get? c.await n = NMap.get? s.issueCtx.await n) ∧
      (∀ e, e ∈ c.errs ↔ e ∈ s.issueCtx.errs ∧ e.place ≠ .g g.toNat) ∧
      c = { s.issueCtx with g := c.g, full := c.full, expd := c.expd, await := c.await, errs := c.errs }) ∧
    (∀ q : BitVec 3, ∃ p, exec (.moveToPreg m q) s = .next (withCtx (used s) { s.issueCtx with p := p }) ∧
      ∀ n, p.getLsbD n =
        if n = q.toNat ∧ n ≠ 0 then (moveValue s != 0) else s.issueCtx.p.getLsbD n) ∧
    exec (.moveToSpr m 1) s = .next (withCtx (used s) { s.issueCtx with stat := (moveValue s).extractLsb' 0 8 }) ∧
    exec (.moveToSpr m 5) s = .next (withCtx (used s) { s.issueCtx with mdl := (moveValue s).extractLsb' 0 32 }) ∧
    exec (.moveToSpr m 6) s = .next (withCtx (used s) { s.issueCtx with rrb := (moveValue s).extractLsb' 0 3 }) ∧
    (∃ c, exec (.moveToSpr m 2) s = .next (withCtx (used s) c) ∧
      c.fflg = (moveValue s).extractLsb' 0 8 ∧ c.cores.length = s.issueCtx.cores.length ∧
      (∀ (k : Nat) (x : CoreCtx), s.issueCtx.cores[k]? = some x → c.cores[k]? =
        some { x with fflg := (moveValue s).extractLsb' 0 8 ||| (if x.landAt = s.now then x.landFlags else 0) }) ∧
      c = { s.issueCtx with fflg := c.fflg, cores := c.cores }) ∧
    exec (.moveToOperandPort m 2 0) s =
      .next (withCtx (used s) { s.issueCtx with alu0 := { s.issueCtx.alu0 with o := moveValue s } }) ∧
    exec (.moveToOperandPort m 2 1) s =
      .next (withCtx (used s) { s.issueCtx with alu0 := { s.issueCtx.alu0 with o2 := moveValue s } }) ∧
    exec (.moveToOperandPort m 3 0) s =
      .next (withCtx (used s) { s.issueCtx with alu1 := { s.issueCtx.alu1 with o := moveValue s } }) ∧
    exec (.moveToOperandPort m 3 1) s =
      .next (withCtx (used s) { s.issueCtx with alu1 := { s.issueCtx.alu1 with o2 := moveValue s } }) ∧
    exec (.moveToOperandPort m 4 0) s =
      .next (withCtx (used s) { s.issueCtx with prd := { s.issueCtx.prd with o := moveValue s } }) ∧
    exec (.moveToOperandPort m 4 1) s =
      .next (withCtx (used s) { s.issueCtx with prd := { s.issueCtx.prd with o2 := moveValue s } }) ∧
    exec (.moveToOperandPort m 5 0) s =
      .next (withCtx (used s) { s.issueCtx with mul := { s.issueCtx.mul with o := moveValue s } }) ∧
    exec (.moveToOperandPort m 5 1) s =
      .next (withCtx (used s) { s.issueCtx with mul := { s.issueCtx.mul with o2 := moveValue s } }) ∧
    exec (.moveToOperandPort m 6 0) s =
      .next (withCtx (used s) { s.issueCtx with lsu := { s.issueCtx.lsu with o := moveValue s } }) ∧
    exec (.moveToOperandPort m 6 1) s =
      .next (withCtx (used s) { s.issueCtx with lsu := { s.issueCtx.lsu with o2 := moveValue s } }) ∧
    exec (.lsuDl m) s = .next (withCtx (used s) { s.issueCtx with lsu := { s.issueCtx.lsu with dl := moveValue s } }) ∧
    exec (.lsuSc m) s = .next (withCtx (used s) { s.issueCtx with lsu := { s.issueCtx.lsu with sc := moveValue s } }) ∧
    exec (.lsuCmp m) s = .next (withCtx (used s) { s.issueCtx with lsu := { s.issueCtx.lsu with cmp := moveValue s } }) ∧
    exec (.lsuHi m) s = .next (withCtx (used s) { s.issueCtx with lsu := { s.issueCtx.lsu with hi := moveValue s } })

/-! ### ALU0, ALU1, PRD, MUL -/

/-- R185, R48: the arithmetic, logic, comparison, selection and shift rows of the ALU table, at every width: the result,
zero-extended, lands in the unit's latch one cycle later, and nothing else changes. Shift amounts are T[7:0]; those of
the width or more give 0, copies of the sign, or are taken modulo the width. -/
def Obligations.AluArithmetic : Prop :=
  ∀ (s : State) m (u : BitVec 1) (sz : BitVec 2), InBundle s → Performed s m →
    let w := width sz
    let a := (aluPorts s u).o.setWidth w
    let b := (moveValue s).setWidth w
    let c := (aluPorts s u).o2
    let n := ((moveValue s).extractLsb' 0 8).toNat
    let gives (i : Instr) (r : BitVec w) : Prop := exec i s = .next (lands s 1 (aluOf u) (r.setWidth 64) 0)
    gives (.add m u sz) (a + b) ∧ gives (.sub m u sz) (a - b) ∧ gives (.and m u sz) (a &&& b) ∧
    gives (.or m u sz) (a ||| b) ∧ gives (.xor m u sz) (a ^^^ b) ∧ gives (.andn m u sz) (a &&& ~~~b) ∧
    gives (.min m u sz) (if a.slt b then a else b) ∧ gives (.max m u sz) (if a.slt b then b else a) ∧
    gives (.minn m u sz) (if a < b then a else b) ∧ gives (.maxn m u sz) (if a < b then b else a) ∧
    gives (.lea m u sz) (a + b <<< (c.extractLsb' 0 3).toNat) ∧
    gives (.sel m u sz) (if c ≠ 0 then a else b) ∧ gives (.pass m u sz) b ∧
    gives (.abs m u sz) (if b.slt 0 then -b else b) ∧
    gives (.shl m u sz) (a <<< n) ∧ gives (.shr m u sz) (a >>> n) ∧ gives (.sra m u sz) (a.sshiftRight n) ∧
    gives (.rol m u sz) (a.rotateLeft (n % w))

/-- R185, R186: counts of bits and the reversal of bytes, each characterised by what it counts or moves; sign and zero
extension, field extraction and field insertion, with the clamping of their control values. -/
def Obligations.AluBitFields : Prop :=
  ∀ (s : State) m (u : BitVec 1) (sz : BitVec 2), InBundle s → Performed s m →
    let w := width sz
    let a := (aluPorts s u).o.setWidth w
    let c := (aluPorts s u).o2
    let p := ((moveValue s).extractLsb' 0 8).toNat
    let l := Min.min ((moveValue s).extractLsb' 8 8).toNat (w - p)
    let b := (moveValue s).setWidth w
    let gives (i : Instr) (r : W64) : Prop := exec i s = .next (lands s 1 (aluOf u) r 0)
    (∃ r, gives (.clz m u sz) r ∧ r.toNat ≤ w ∧ (∀ i, w - r.toNat ≤ i → b.getLsbD i = false) ∧
      (r.toNat < w → b.getLsbD (w - 1 - r.toNat) = true)) ∧
    (∃ r, gives (.ctz m u sz) r ∧ r.toNat ≤ w ∧ (∀ i, i < r.toNat → b.getLsbD i = false) ∧
      (r.toNat < w → b.getLsbD r.toNat = true)) ∧
    (∃ r, gives (.popc m u sz) r ∧ r.toNat = ((List.range w).filter b.getLsbD).length) ∧
    (∃ r, gives (.bswap m u sz) r ∧
      ∀ i, r.getLsbD i = (decide (i < w) && b.getLsbD (8 * (w / 8 - 1 - i / 8) + i % 8))) ∧
    gives (.sext m u sz) (if w ≤ p then a.setWidth 64 else ((a.setWidth p).signExtend w).setWidth 64) ∧
    gives (.zext m u sz) (if w ≤ p then a.setWidth 64 else (a.setWidth p).setWidth 64) ∧
    (∃ r, gives (.bfx m u sz) r ∧ ∀ i, r.getLsbD i = (decide (i < l) && a.getLsbD (p + i))) ∧
    (∃ r, gives (.bfi m u sz) r ∧
      ∀ i, r.getLsbD i = if p ≤ i ∧ i < p + l then c.getLsbD (i - p) else (decide (i < w) && a.getLsbD i))

/-- R187, R188: the comparisons at every width and the logic on truth values: 1 or 0 lands in prd.q one cycle later.
That an operand is true when it is not 0 is the model's reading (log 3). -/
def Obligations.PredicateUnit : Prop :=
  ∀ (s : State) m (sz : BitVec 2), InBundle s → Performed s m →
    let w := width sz
    let o := s.issueCtx.prd.o
    let v := moveValue s
    let a := o.setWidth w
    let b := v.setWidth w
    let n := (v.extractLsb' 0 8).toNat
    let gives (i : Instr) (r : Bool) : Prop := exec i s = .next (lands s 1 .prd (if r then 1 else 0) 0)
    gives (.cmpeq m sz) (a == b) ∧ gives (.cmpne m sz) (a != b) ∧ gives (.cmplt m sz) (a.slt b) ∧
    gives (.cmple m sz) (a.sle b) ∧ gives (.cmpltn m sz) (a.ult b) ∧ gives (.cmplen m sz) (a.ule b) ∧
    gives (.tbit m sz) (a.getLsbD n) ∧ gives (.pand m) (o != 0 && v != 0) ∧ gives (.por m) (o != 0 || v != 0) ∧
    gives (.pxor m) ((o != 0) != (v != 0)) ∧ gives (.pnot m) (v == 0) ∧ gives (.pmov m) (v != 0)

/-- R189: products and multiply-adds at every width: both latches land together after 3 cycles. -/
def Obligations.Multiply : Prop :=
  ∀ (s : State) m (sz : BitVec 2), InBundle s → Performed s m →
    let w := width sz
    let a := s.issueCtx.mul.o.setWidth w
    let b := (moveValue s).setWidth w
    let c := s.issueCtx.mul.o2.setWidth w
    let q (z : Int) : W64 := (BitVec.ofInt w z).setWidth 64
    let gives (i : Instr) (lo hi : W64) : Prop := exec i s = .next (lands s 3 (.mul false) lo hi)
    gives (.mul m sz) (q (a.toInt * b.toInt)) (q (a.toInt * b.toInt / 2 ^ w)) ∧
    gives (.mulh m sz) (q (a.toInt * b.toInt / 2 ^ w)) (q (a.toInt * b.toInt)) ∧
    gives (.mulhn m sz) (q (a.toNat * b.toNat / 2 ^ w : Nat)) (q (a.toNat * b.toNat : Nat)) ∧
    gives (.madd m sz) (q (a.toInt * b.toInt + c.toInt)) (q ((a.toInt * b.toInt + c.toInt) / 2 ^ w))

/-- R50, R190: quotients and remainders at every width, a zero divisor and −2^(w−1) by −1 among them, and the latency
10 + 2·⌈β/4⌉ with β the significant bits of the dividend's magnitude. -/
def Obligations.Divide : Prop :=
  ∀ (s : State) m (sz : BitVec 2), InBundle s → Performed s m →
    let w := width sz
    let a := s.issueCtx.mul.o.setWidth w
    let b := (moveValue s).setWidth w
    let bits (n : Nat) : Nat := if n = 0 then 0 else Nat.log2 n + 1
    let lat (n : Nat) : Nat := 10 + 2 * ((bits n + 3) / 4)
    let q : W64 := (if b = 0 then BitVec.allOnes w else a.sdiv b).setWidth 64
    let r : W64 := (if b = 0 then a else a.srem b).setWidth 64
    let qn : W64 := (if b = 0 then BitVec.allOnes w else a / b).setWidth 64
    let rn : W64 := (if b = 0 then a else a % b).setWidth 64
    exec (.div m sz) s = .next (lands s (lat a.toInt.natAbs) (.mul true) q r) ∧
    exec (.rem m sz) s = .next (lands s (lat a.toInt.natAbs) (.mul true) r q) ∧
    exec (.divn m sz) s = .next (lands s (lat a.toNat) (.mul true) qn rn) ∧
    exec (.remn m sz) s = .next (lands s (lat a.toNat) (.mul true) rn qn)

namespace Sys2Proof.Claims

/-- What the landing of a result also changes in its context: a replayed result leaves the snapshot buffer, and an error that
stood where the result has written is gone (R333, R379). -/
def LeavesBuffer (c : Ctx) (l : Landing) (written : ErrPlace → Prop) (d : Ctx) : Prop :=
  (∀ x, x ∈ d.snap ↔ x ∈ c.snap ∧ (c.replaying = true → x.tok ≠ l.tok)) ∧
    (d.replaying = true ↔ c.replaying = true ∧ d.snap ≠ []) ∧
    ∀ e, e ∈ d.errs ↔ e ∈ c.errs ∧ ¬written e.place

/-- The context with the result taken from flight; `d` has its buffer and its errors afterwards. -/
def withoutFlight (c d : Ctx) (rest : List Landing) : Ctx :=
  { c with inflight := rest, snap := d.snap, replaying := d.replaying, errs := d.errs }

/-- Flags that a result raises on core `k`: those of the four quarters of its lanes (R52, R332). -/
def flagsOf (l : Landing) (k : Nat) : Byte :=
  nth l.flags (4 * k) 0 ||| nth l.flags (4 * k + 1) 0 ||| nth l.flags (4 * k + 2) 0 ||| nth l.flags (4 * k + 3) 0

end Sys2Proof.Claims

/-- R11, R156, R229, R239, R254: RESULT_LAND brings the first result that is due into its latch, the lanes of its register
that its mask names, its mask register or the scale bypass, with its flags, and takes it from flight; no other register
changes. A quotient or remainder that lands also lets a bundle held on it alone go on (R129). -/
def Obligations.ResultLands : Prop :=
  ∀ (s : State) l rest,
    let cl := s.ev.cl
    let cx := s.ev.cx
    let c := s.ctx cl cx
    s.ev.n = 0 → c.inflight = l :: rest → l.time ≤ s.now → (l.tok = 0 ∨ (s.cluster cl).rows = []) →
    (l.dest = .alu0 → ∃ d, LeavesBuffer c l (fun p => p = .latch 0x50) d ∧ exec .resultLand s =
      .next (s.setCtx cl cx { withoutFlight c d rest with alu0 := { c.alu0 with q := l.lo } })) ∧
    (l.dest = .alu1 → ∃ d, LeavesBuffer c l (fun p => p = .latch 0x51) d ∧ exec .resultLand s =
      .next (s.setCtx cl cx { withoutFlight c d rest with alu1 := { c.alu1 with q := l.lo } })) ∧
    (l.dest = .prd → ∃ d, LeavesBuffer c l (fun p => p = .latch 0x55) d ∧ exec .resultLand s =
      .next (s.setCtx cl cx { withoutFlight c d rest with prd := { c.prd with q := l.lo } })) ∧
    (∀ b, l.dest = .mul b → ∃ d, LeavesBuffer c l (fun p => p = .latch 0x52 ∨ p = .latch 0x53) d ∧
      let x : Ctx := { withoutFlight c d rest with mul := { c.mul with q := l.lo, qh := l.hi } }
      ((b = false ∨ ∀ h, c.held = some h → x.heldReady h = false) →
        exec .resultLand s = .next (s.setCtx cl cx x)) ∧
      (b = true → ∀ h, c.held = some h → x.heldReady h = true →
        let t := s.setCtx cl cx { x with held := none, heldEnd := 1, readyAt := s.now }
        exec .resultLand s = .next (if c.parked then t else posted t s.now .arbiterDecide (EvArg.at cl 0 0)))) ∧
    (∀ r, l.dest = .vreg r → ∃ d ks,
      LeavesBuffer c l (fun p => ∃ k, k < 4 ∧ nth l.lmask k 0 = BitVec.allOnes 1024 ∧ p = .vreg k r) d ∧
      exec .resultLand s = .next (s.setCtx cl cx { withoutFlight c d rest with cores := ks }) ∧
      ∀ (k : Nat) (x : CoreCtx), k < 4 → c.cores[k]? = some x → ∃ y, ks[k]? = some y ∧
        y.fflg = x.fflg ||| flagsOf l k ∧
        (∀ n, n ≠ r → y.v[n]? = x.v[n]?) ∧
        (r < x.v.length → ∀ i, i < 1024 → nth (y.vreg r).lanes i 0 =
          if (nth l.lmask k 0).getLsbD i then nth (nth l.vec k VReg.zero).lanes i 0 else nth (x.vreg r).lanes i 0) ∧
        y.k = x.k ∧ y.sq = x.sq ∧ y.cmds = x.cmds ∧ y.bypass = x.bypass) ∧
    (∀ n, l.dest = .mask n → ∃ d ks,
      LeavesBuffer c l (fun p => ∃ k, k < 4 ∧ nth l.lmask k 0 ≠ 0 ∧ p = .mask k n) d ∧
      exec .resultLand s = .next (s.setCtx cl cx { withoutFlight c d rest with cores := ks }) ∧
      ∀ (k : Nat) (x : CoreCtx), k < 4 → c.cores[k]? = some x → ∃ y, ks[k]? = some y ∧
        y.fflg = x.fflg ||| flagsOf l k ∧ y.v = x.v ∧ y.bypass = x.bypass ∧
        y.k = if nth l.lmask k 0 = 0 then x.k else x.k.set (n - 1) (nth l.masks k 0)) ∧
    (l.dest = .bypass → ∃ d ks,
      LeavesBuffer c l (fun p => ∃ k, k < 4 ∧ nth l.lmask k 0 ≠ 0 ∧ p = .bypass k) d ∧
      exec .resultLand s = .next (s.setCtx cl cx { withoutFlight c d rest with cores := ks }) ∧
      ∀ (k : Nat) (x : CoreCtx), k < 4 → c.cores[k]? = some x → ∃ y, ks[k]? = some y ∧
        y.fflg = x.fflg ||| flagsOf l k ∧ y.v = x.v ∧ y.k = x.k ∧
        (nth l.lmask k 0 ≠ 0 → y.bypass = nth l.codes k [] ∧ y.target = l.target) ∧
        (nth l.lmask k 0 = 0 → y.bypass = x.bypass ∧ y.target = x.target))

namespace Sys2Proof.Claims

/-- The access an LSU trigger makes: its address is O + T, its data O2, with lsu.hi above it for st.128; its deadline, its
escalation, its scope and its compare value are those of the LSU's CFG ports; a deadline of 0 is the allowance of 4,096
cycles (R123, R202). -/
def accessOf (s : State) (k : AccKind) (n : Nat) (o : Order) : Access :=
  let c := s.issueCtx
  let d := (c.lsu.dl.extractLsb' 0 32).toNat
  { id := s.uid, kind := k, order := o, scope := c.lsu.sc.extractLsb' 0 2, va := c.lsu.o + moveValue s, size := n
    data := if n = 16 ∧ k = .store then c.lsu.hi ++ c.lsu.o2 else c.lsu.o2.setWidth 128
    cmp := c.lsu.cmp, who := c.who s.issue.cl s.issue.cx, task := c.task, bpc := s.issue.pc, slot := s.issue.slot
    s0 := s.now, dl := s.now + (if d = 0 then 4096 else d), esc := c.lsu.dl.getLsbD 32, token := none
    pieces := localPiece (s.task c) s.issue.cl (c.lsu.o + moveValue s) n, left := false, performed := false
    answered := false }

/-- An access has been made: it is on its way, with as many load-queue entries as its kind takes, which expire after its
deadline. Nothing else of the module changes. -/
def requested (s : State) (a : Access) (entries : Nat) : State :=
  let s1 := withCtx { used s with uid := s.uid + 1 } { s.issueCtx with
    lq := s.issueCtx.lq ++ (List.range entries).map
      (fun h => { id := a.id, half := h, state := .waiting, value := 0, esc := a.esc })
    accs := s.issueCtx.accs ++ [a] }
  let s2 := posted s1 s.now .requestLeavesCluster (EvArg.at s.issue.cl s.issue.cx a.id)
  if entries = 0 then s2 else posted s2 (a.dl + 1) .loadExpire (EvArg.at s.issue.cl s.issue.cx a.id)

/-- Order of a load's order bit. -/
def loadOrder (o : BitVec 1) : Order := if o = 1 then .acquire else .plain

/-- Order of a store's or reduction's order bit. -/
def storeOrder (o : BitVec 1) : Order := if o = 1 then .release else .plain

/-- Order of an atomic's order code. -/
def atomicOrder (o : BitVec 2) : Order :=
  if o = 0 then .plain else if o = 1 then .acquire else if o = 2 then .release else .acqRel

end Sys2Proof.Claims

/-! ### The LSU -/

/-- R202, R204 to R208, R158: each LSU trigger sends its access: a load or a returning atomic takes its load-queue
entries, two for ld.128; a store or a reduction takes none; pf does so in space 00 and does nothing elsewhere. That the
clusters' requests leave at once and are held back elsewhere is the model's choice (log 15). -/
def Obligations.LsuTriggers : Prop :=
  (∀ (s : State) m (o : BitVec 1), InBundle s → Performed s m →
    let gives (i : Instr) (n : Nat) (sg : Bool) (e : Nat) : Prop :=
      exec i s = .next (requested s (accessOf s (.load n sg) n (loadOrder o)) e)
    gives (.ldI8 m o) 1 true 1 ∧ gives (.ldN8 m o) 1 false 1 ∧ gives (.ldI16 m o) 2 true 1 ∧
    gives (.ldN16 m o) 2 false 1 ∧ gives (.ldI32 m o) 4 true 1 ∧ gives (.ldN32 m o) 4 false 1 ∧
    gives (.ld64 m o) 8 false 1 ∧ gives (.ld128 m o) 16 false 2) ∧
  (∀ (s : State) m (o : BitVec 1), InBundle s → Performed s m →
    let st (i : Instr) (n : Nat) : Prop := exec i s = .next (requested s (accessOf s .store n (storeOrder o)) 0)
    let rd (i : Instr) (k : AtomOp) (n : Nat) : Prop :=
      exec i s = .next (requested s (accessOf s (.red k) n (storeOrder o)) 0)
    st (.st8 m o) 1 ∧ st (.st16 m o) 2 ∧ st (.st32 m o) 4 ∧ st (.st64 m o) 8 ∧ st (.st128 m o) 16 ∧
    rd (.redAdd32 m o) .add 4 ∧ rd (.redAnd32 m o) .and 4 ∧ rd (.redOr32 m o) .or 4 ∧ rd (.redXor32 m o) .xor 4 ∧
    rd (.redMin32 m o) .min 4 ∧ rd (.redMax32 m o) .max 4 ∧ rd (.redMinn32 m o) .minn 4 ∧
    rd (.redMaxn32 m o) .maxn 4 ∧ rd (.redAdd64 m o) .add 8 ∧ rd (.redAnd64 m o) .and 8 ∧ rd (.redOr64 m o) .or 8 ∧
    rd (.redXor64 m o) .xor 8 ∧ rd (.redMin64 m o) .min 8 ∧ rd (.redMax64 m o) .max 8 ∧
    rd (.redMinn64 m o) .minn 8 ∧ rd (.redMaxn64 m o) .maxn 8 ∧
    (∀ a, a = s.issueCtx.lsu.o + moveValue s → space a = 0 → addrReservedOk a = true →
      exec (.pf m) s = .next (requested s (accessOf s .pf 1 .plain) 0)) ∧
    (∀ a, a = s.issueCtx.lsu.o + moveValue s → space a ≠ 0 → exec (.pf m) s = .next (used s))) ∧
  (∀ (s : State) m (o : BitVec 2), InBundle s → Performed s m →
    let gives (i : Instr) (k : AtomOp) (n : Nat) : Prop :=
      exec i s = .next (requested s (accessOf s (.atomic k) n (atomicOrder o)) 1)
    gives (.aAdd32 m o) .add 4 ∧ gives (.aAnd32 m o) .and 4 ∧ gives (.aOr32 m o) .or 4 ∧ gives (.aXor32 m o) .xor 4 ∧
    gives (.aMin32 m o) .min 4 ∧ gives (.aMax32 m o) .max 4 ∧ gives (.aMinn32 m o) .minn 4 ∧
    gives (.aMaxn32 m o) .maxn 4 ∧ gives (.aSwap32 m o) .swap 4 ∧ gives (.aCas32 m o) .cas 4 ∧
    gives (.aAdd64 m o) .add 8 ∧ gives (.aAnd64 m o) .and 8 ∧ gives (.aOr64 m o) .or 8 ∧ gives (.aXor64 m o) .xor 8 ∧
    gives (.aMin64 m o) .min 8 ∧ gives (.aMax64 m o) .max 8 ∧ gives (.aMinn64 m o) .minn 8 ∧
    gives (.aMaxn64 m o) .maxn 8 ∧ gives (.aSwap64 m o) .swap 8 ∧ gives (.aCas64 m o) .cas 8)

namespace Sys2Proof.Claims

/-- An access that may be performed at once at its home: it is the event's, lies in one piece whose sectors are clean and
whose frames serve, follows nothing, is current, and needs no page check; its task stages no writes, and in a scratchpad no
rows of the cluster's V-slot accesses still move. -/
def AtHome (s : State) (a : Access) (p : Piece) : Prop :=
  (s.ctx s.ev.cl s.ev.cx).accs.find? (fun x => x.id == s.ev.id && !x.performed) = some a ∧
    s.held s.ev.cl s.ev.cx a = false ∧ a.pieces = [p] ∧ p.len = a.size ∧
    (2 ^ 49 ≤ p.pa → (s.cluster ((p.pa - 2 ^ 49) / 2 ^ 23)).rows = []) ∧
    s.currentWho (homeStop p.pa) a.who = true ∧ space a.va ≠ 2 ∧ s.staging a.task = false ∧
    s.retiredAt p.pa = false ∧
    ∀ x ∈ sectorsOf p.pa p.len, NMap.getD s.syn x 0 = 0 ∧ s.retiredAt (32 * x) = false

/-- Number of the bytes at an address, lowest first (R7). -/
def valueAt (s : State) (a n : Nat) : Nat := leNat ((List.range n).map (fun i => memGet s.mem (a + i)))

/-- Memory after some bytes have been stored at an address: every other byte reads as before. -/
def Stored (s t : State) (a n v : Nat) : Prop :=
  ∀ x, memGet t.mem x = if a ≤ x ∧ x < a + n then BitVec.ofNat 8 (v / 256 ^ (x - a)) else memGet s.mem x

/-- The answer of an access is on its way to its slot (R356). -/
def Answers (t : State) (a : Access) (st : Byte) (v : BitVec 128) : Prop :=
  Pends t .responseAtSlot { EvArg.at a.who.cl a.who.cx a.id with who := a.who, status := st, value := v }

end Sys2Proof.Claims

/-- R204, R205, R7: at its home a load answers the sign- or zero-extended little-endian value of its bytes and changes no
byte; a store writes the low bytes of its data at its address and no other byte. -/
def Obligations.LoadAndStoreAtHome : Prop :=
  ∀ (s : State) a p, AtHome s a p →
    (∀ n sg, a.kind = .load n sg → a.size = n → ∃ t, exec .accessAtHome s = .next t ∧ SameMemory s t ∧
      Answers t a 0 (if sg then ((BitVec.ofNat (8 * n) (valueAt s p.pa n)).signExtend 64).setWidth 128
                     else BitVec.ofNat 128 (valueAt s p.pa n))) ∧
    (a.kind = .store → ∃ t, exec .accessAtHome s = .next t ∧ Stored s t p.pa a.size a.data.toNat ∧
      t.port = s.port ∧ t.regions = s.regions ∧ t.tasks = s.tasks)

/-- R206, R207: at its home an atomic writes the new value of its operation, unless a cas fails, and answers the old one,
zero-extended; a reduction writes likewise and answers nothing. No other byte changes. -/
def Obligations.AtomicAtHome : Prop :=
  ∀ (s : State) a p (n : Nat), AtHome s a p → a.size = n → (n = 4 ∨ n = 8) →
    let old : BitVec (8 * n) := BitVec.ofNat (8 * n) (valueAt s p.pa n)
    let v : BitVec (8 * n) := a.data.setWidth (8 * n)
    let rmw (op : AtomOp) (new : BitVec (8 * n)) : Prop :=
      (a.kind = .atomic op → ∃ t, exec .accessAtHome s = .next t ∧ Stored s t p.pa n new.toNat ∧
        Answers t a 0 (old.setWidth 128)) ∧
      (a.kind = .red op → ∃ t, exec .accessAtHome s = .next t ∧ Stored s t p.pa n new.toNat ∧
        ∀ q ∈ t.agenda, q ∈ s.agenda)
    rmw .add (old + v) ∧ rmw .and (old &&& v) ∧ rmw .or (old ||| v) ∧ rmw .xor (old ^^^ v) ∧
    rmw .min (if v.slt old then v else old) ∧ rmw .max (if v.slt old then old else v) ∧
    rmw .minn (if v < old then v else old) ∧ rmw .maxn (if v < old then old else v) ∧
    (a.kind = .atomic .swap → ∃ t, exec .accessAtHome s = .next t ∧ Stored s t p.pa n v.toNat ∧
      Answers t a 0 (old.setWidth 128)) ∧
    (a.kind = .atomic .cas → old = a.cmp.setWidth (8 * n) → ∃ t, exec .accessAtHome s = .next t ∧
      Stored s t p.pa n v.toNat ∧ Answers t a 0 (old.setWidth 128)) ∧
    (a.kind = .atomic .cas → old ≠ a.cmp.setWidth (8 * n) → ∃ t, exec .accessAtHome s = .next t ∧
      SameMemory s t ∧ Answers t a 0 (old.setWidth 128))

namespace Sys2Proof.Claims

/-- Counts are 32 bits and saturate (R356). -/
def oneMore (m : NMap W32) (d : BitVec 8) : NMap W32 :=
  let v := NMap.getD m d.toNat 0
  NMap.set m d.toNat (if v = 0xFFFFFFFF then v else v + 1)

/-- The orphan count of the requester's domain at its cluster's stop goes up by one (R356). -/
def CountsOrphan (s t : State) (w : Who) : Prop :=
  (t.stop (clusterStop w.cl)).orphan = oneMore (s.stop (clusterStop w.cl)).orphan w.dom ∧
    (t.stop (clusterStop w.cl)).stale = (s.stop (clusterStop w.cl)).stale

/-- The stale count of the requester's domain at its cluster's stop goes up by one (R355). -/
def CountsStale (s t : State) (w : Who) : Prop :=
  (t.stop (clusterStop w.cl)).stale = oneMore (s.stop (clusterStop w.cl)).stale w.dom ∧
    (t.stop (clusterStop w.cl)).orphan = (s.stop (clusterStop w.cl)).orphan

end Sys2Proof.Claims

/-- R128, R204, R356: the answer of a load or a returning atomic that still waits ends its entries with the status and its
half of the value, of a poisoned ld.128 only the half that holds the poison as poisoned. An answer that meets another tag
changes no register and is counted as an orphan; where it met a free slot that is judged at the end of the cycle, and it counts
as stale if its incarnation has passed and no stage has started there. An answer for a stage that has ended ends its access
alone. A load without an answer by its deadline has its entries expired. No byte of memory changes. -/
def Obligations.LoadAnswerAndExpiry : Prop :=
  ∀ (s : State),
    (∀ a, s.ev.n = 0 → s.ev.who.cx < 8 → (s.ctx s.ev.who.cl s.ev.who.cx).tagged s.ev.who = true →
      (s.ctx s.ev.who.cl s.ev.who.cx).accs.find? (fun x => x.id == s.ev.id) = some a → a.id = s.ev.id →
      a.kind.entries ≠ 0 → a.answered = false →
      ∃ t, exec .responseAtSlot s = .next t ∧ SameMemory s t ∧
        (t.ctx s.ev.who.cl s.ev.who.cx).lq = (s.ctx s.ev.who.cl s.ev.who.cx).lq.map (fun e =>
          if e.id = a.id ∧ e.state = .waiting then
            { e with
              value := s.ev.value.extractLsb' (64 * e.half) 64
              state := if s.ev.status = 0 then .arrived else if s.ev.status = 1 then .expired
                       else if s.ev.status = 4 then
                         (if s.ev.m = 0 ∨ s.ev.m.testBit e.half then .poisoned else .arrived)
                       else .denied }
          else e) ∧
        (∀ x ∈ (t.ctx s.ev.who.cl s.ev.who.cx).accs, x.id ≠ a.id)) ∧
    (s.ev.n ≤ 5 → s.ev.who.cx < 8 → (s.ctx s.ev.who.cl s.ev.who.cx).tagged s.ev.who = false →
      ∃ t, exec .responseAtSlot s = .next t ∧ t.ctxs = s.ctxs ∧ SameMemory s t ∧
        ((s.ctx s.ev.who.cl s.ev.who.cx).occ = .free →
          Pends t .responseAtSlot { EvArg.zero with n := 9, who := s.ev.who }) ∧
        ((s.ctx s.ev.who.cl s.ev.who.cx).occ ≠ .free → CountsOrphan s t s.ev.who)) ∧
    (s.ev.n = 9 → ∃ t, exec .responseAtSlot s = .next t ∧ t.ctxs = s.ctxs ∧ SameMemory s t ∧
      (if (s.ctx s.ev.who.cl (s.ev.who.cx % 8)).occ = .free ∧
          s.current (clusterStop s.ev.who.cl) s.ev.who.dom s.ev.who.inc = false then CountsStale s t s.ev.who
        else CountsOrphan s t s.ev.who)) ∧
    (s.ev.n ≤ 5 → 8 ≤ s.ev.who.cx → ∃ t, exec .responseAtSlot s = .next t ∧ SameMemory s t ∧
      (∀ x ∈ (t.ctx s.ev.who.cl s.ev.who.cx).accs, x.id ≠ s.ev.id) ∧
      (t.ctx s.ev.who.cl s.ev.who.cx).lq = (s.ctx s.ev.who.cl s.ev.who.cx).lq) ∧
    ((s.ctx s.ev.cl s.ev.cx).accs.any (fun a => a.id == s.ev.id && !a.answered) = true →
      ∃ t, exec .loadExpire s = .next t ∧ SameMemory s t ∧
        (t.ctx s.ev.cl s.ev.cx).lq = (s.ctx s.ev.cl s.ev.cx).lq.map (fun e =>
          if e.id = s.ev.id ∧ e.state = .waiting then { e with state := .expired, value := 0 } else e)) ∧
    ((s.ctx s.ev.cl s.ev.cx).accs.any (fun a => a.id == s.ev.id && !a.answered) = false →
      exec .loadExpire s = .next s)

namespace Sys2Proof.Claims

/-- What core `k` holds for the context of the bundle in issue. -/
def coreOf (s : State) (k : Nat) : CoreCtx := nth s.issueCtx.cores k .fresh

/-- Lane `i` of a register operand on core `k`: v8 to v15 are rotated by s.rrb (R161, R227). -/
def laneAt (s : State) (k : Nat) (v : BitVec 4) (i : Nat) : W32 :=
  let r := if v.toNat < 8 then v.toNat else 8 + (v.toNat - 8 + s.issue.rrb.toNat) % 8
  nth (nth (coreOf s k).v r .zero).lanes i 0

/-- The physical register of a destination (R161). -/
def vdest (s : State) (v : BitVec 4) : Dest :=
  .vreg (if v.toNat < 8 then v.toNat else 8 + (v.toNat - 8 + s.issue.rrb.toNat) % 8)

/-- Lane `i` of core `k` is active under a mask field (R228). -/
def activeAt (s : State) (k : Nat) (km : BitVec 2) (i : Nat) : Bool :=
  km.toNat = 0 || (nth (coreOf s k).k (km.toNat - 1) 0).getLsbD i

/-- Element `j` of a lane under a type (R39, R227). -/
def element (t : BitVec 3) (x : W32) (j : Nat) : BitVec (elemW t) := BitVec.ofNat (elemW t) (x.toNat / 2 ^ (elemW t * j))

/-- Value of an integer element: signed for the i types (R39). -/
def intValue (t : BitVec 3) {w : Nat} (x : BitVec w) : Int := if isSigned t then x.toInt else x.toNat

/-- Lane `i` that a result brings to core `k`. -/
def outLane (l : Landing) (k i : Nat) : W32 := nth (nth l.vec k .zero).lanes i 0

/-- A V slot answers with one result for the four cores, on its way to a destination with a latency, of which `q` holds;
nothing else of the module changes (R13, R156, R231). -/
def GivesV (s : State) (i : Instr) (lat : Nat) (d : Dest) (q : Landing → Prop) : Prop :=
  ∃ l : Landing, l.time = s.now + lat ∧ l.dest = d ∧ l.part = none ∧ l.tok = 0 ∧ q l ∧
    exec i s = .next (posted (withCtx s { s.issueCtx with inflight := s.issueCtx.inflight ++ [l] }) (s.now + lat)
      .resultLand (EvArg.at s.issue.cl s.issue.cx 0))

/-- Exactly the active lanes are written on every core (R229). -/
def WritesActive (s : State) (km : BitVec 2) (l : Landing) : Prop :=
  ∀ k, k < 4 → ∀ i, i < 1024 → (nth l.lmask k 0).getLsbD i = activeAt s k km i

/-- No flags are raised. -/
def NoFlags (l : Landing) : Prop := ∀ n, nth l.flags n 0 = 0

/-- On each core, the rows of quarter `q` raise exactly the flags that some element of one of their active lanes raises
(R43, R228, R235, R332). -/
def Raises (s : State) (t : BitVec 3) (km : BitVec 2) (f : Nat → Nat → Nat → Byte) (l : Landing) : Prop :=
  ∀ k q, k < 4 → q < 4 → ∀ b, (nth l.flags (4 * k + q) 0).getLsbD b = true ↔
    ∃ i, 256 * q ≤ i ∧ i < 256 * q + 256 ∧ activeAt s k km i = true ∧ ∃ j, j < elems t ∧ (f k i j).getLsbD b = true

/-- An element-wise result: in each active lane, element `j` and its flags come from element `j` of the two operands and of
the old destination. -/
def Elements (s : State) (t : BitVec 3) (d a b : BitVec 4) (km : BitVec 2)
    (f : BitVec (elemW t) → BitVec (elemW t) → BitVec (elemW t) → BitVec (elemW t) × Byte) (l : Landing) : Prop :=
  let r (k i j : Nat) : BitVec (elemW t) × Byte :=
    f (element t (laneAt s k a i) j) (element t (laneAt s k b i) j) (element t (laneAt s k d i) j)
  WritesActive s km l ∧ Raises s t km (fun k i j => (r k i j).2) l ∧
    ∀ k, k < 4 → ∀ i, i < 1024 → activeAt s k km i = true → ∀ j, j < elems t → element t (outLane l k i) j = (r k i j).1

/-- A result made of whole lanes, each a given function of core and lane number, in the active lanes, without flags. -/
def Lanes (s : State) (km : BitVec 2) (f : Nat → Nat → W32) (l : Landing) : Prop :=
  WritesActive s km l ∧ NoFlags l ∧ ∀ k, k < 4 → ∀ i, i < 1024 → activeAt s k km i = true → outLane l k i = f k i

/-- The value an integer is clamped to in a type (R10, R35). -/
def clamped (t : BitVec 3) (x : Int) : Int :=
  if isSigned t then
    if x < -(2 ^ (elemW t - 1)) then -(2 ^ (elemW t - 1)) else if 2 ^ (elemW t - 1) - 1 < x then 2 ^ (elemW t - 1) - 1 else x
  else if x < 0 then 0 else if 2 ^ elemW t - 1 < x then 2 ^ elemW t - 1 else x

/-- An integer as an element: clamped, with SAT just when that changes it (R10, R49). -/
def saturated (t : BitVec 3) (x : Int) : BitVec (elemW t) × Byte :=
  (BitVec.ofInt (elemW t) (clamped t x), if clamped t x = x then 0 else 0x20)

/-- A result of the floating arithmetic of "Number Formats" as an element. -/
def asElement (t : BitVec 3) (r : Nat × Byte) : BitVec (elemW t) × Byte := (BitVec.ofNat (elemW t) r.1, r.2)

/-- The floating value of an element (R36). -/
def number (t : BitVec 3) (x : BitVec (elemW t)) : Fp := fpOf (fracW t) x.toNat

/-- Flag of a signalling NaN (R43). -/
def signalled (x : Fp) : Byte := if x = .nan true then 0x01 else 0

/-- Element `i` of row `r` of a register operand on core `k` (R227). -/
def rowElement (s : State) (k : Nat) (v : BitVec 4) (t : BitVec 3) (r i : Nat) : BitVec (elemW t) :=
  element t (laneAt s k v (64 * r + i / elems t)) (i % elems t)

end Sys2Proof.Claims

/-! ### Vector operations -/

/-- R235 to R238, R10, R46, R48, R49: the wrapping integer arithmetic, minimum and maximum, shifts, and the bit operations
of every type, element by element in the active lanes, without flags; the saturating forms clamp the exact sum or
difference to the range of the type, and SAT is raised on a core just when that changed an active element there. -/
def Obligations.VectorInteger : Prop :=
  ∀ (s : State) (d a b c : BitVec 4) (t : BitVec 3) (k : BitVec 2), InBundle s →
    let ew (i : Instr) (lat : Nat) (a b : BitVec 4) (f : BitVec (elemW t) → BitVec (elemW t) → BitVec (elemW t)) : Prop :=
      GivesV s i lat (vdest s d) (Elements s t d a b k (fun x y _ => (f x y, 0)))
    let g := (nth s.issue.g c.toNat 0).extractLsb' 0 8
    let amount (y : BitVec (elemW t)) : Nat := y.toNat % 256
    (isInt t = true →
      ew (.vadd d a b t k) 6 a b (fun x y => x + y) ∧ ew (.vsub d a b t k) 6 a b (fun x y => x - y) ∧
      ew (.vmul d a b t k) 8 a b (fun x y => x * y) ∧
      ew (.vmin d a b t k) 6 a b (fun x y => if intValue t y < intValue t x then y else x) ∧
      ew (.vmax d a b t k) 6 a b (fun x y => if intValue t y < intValue t x then x else y) ∧
      ew (.vminn d a b t k) 6 a b (fun x y => if intValue t y < intValue t x then y else x) ∧
      ew (.vmaxn d a b t k) 6 a b (fun x y => if intValue t y < intValue t x then x else y) ∧
      ew (.vabs d a t k) 6 a a (fun x _ => if intValue t x < 0 then -x else x) ∧
      ew (.vneg d a t k) 6 a a (fun x _ => -x) ∧
      ew (.vshl d a b c t k 0) 6 a b (fun x y => x <<< amount y) ∧
      ew (.vshr d a b c t k 0) 6 a b (fun x y => x >>> amount y) ∧
      ew (.vsra d a b c t k 0) 6 a b (fun x y => x.sshiftRight (amount y)) ∧
      ew (.vshl d a b c t k 1) 6 a b (fun x _ => x <<< g.toNat) ∧
      ew (.vshr d a b c t k 1) 6 a b (fun x _ => x >>> g.toNat) ∧
      ew (.vsra d a b c t k 1) 6 a b (fun x _ => x.sshiftRight g.toNat) ∧
      GivesV s (.vadds d a b t k) 6 (vdest s d)
        (Elements s t d a b k (fun x y _ => saturated t (intValue t x + intValue t y))) ∧
      GivesV s (.vsubs d a b t k) 6 (vdest s d)
        (Elements s t d a b k (fun x y _ => saturated t (intValue t x - intValue t y)))) ∧
    GivesV s (.vand d a b t k) 6 (vdest s d) (Lanes s k (fun n i => laneAt s n a i &&& laneAt s n b i)) ∧
    GivesV s (.vor d a b t k) 6 (vdest s d) (Lanes s k (fun n i => laneAt s n a i ||| laneAt s n b i)) ∧
    GivesV s (.vxor d a b t k) 6 (vdest s d) (Lanes s k (fun n i => laneAt s n a i ^^^ laneAt s n b i))

/-- R235, R236, R40, R46: the floating forms in f32 and w16. Each active element and its flags are the operation of
"Number Formats" on the elements of its operands; vfma reads the old element of vd; vabs and vneg clear or invert the
sign bit of a number and give the canonical quiet NaN for a NaN. That 0·∞ with a quiet NaN addend raises NV is the
model's reading (log 34). -/
def Obligations.VectorFloat : Prop :=
  ∀ (s : State) (d a b : BitVec 4) (t1 : BitVec 1) (k : BitVec 2), InBundle s →
    let t := fpType t1
    let num := number t
    let p := fracW t
    let ew (i : Instr) (lat : Nat) (a b : BitVec 4)
        (f : BitVec (elemW t) → BitVec (elemW t) → BitVec (elemW t) → BitVec (elemW t) × Byte) : Prop :=
      GivesV s i lat (vdest s d) (Elements s t d a b k f)
    ew (.vadd d a b t k) 6 a b (fun x y _ => asElement t (fpAdd p (num x) (num y))) ∧
    ew (.vadds d a b t k) 6 a b (fun x y _ => asElement t (fpAdd p (num x) (num y))) ∧
    ew (.vsub d a b t k) 6 a b (fun x y _ => asElement t (fpAdd p (num x) (num y).negate)) ∧
    ew (.vsubs d a b t k) 6 a b (fun x y _ => asElement t (fpAdd p (num x) (num y).negate)) ∧
    ew (.vmul d a b t k) 8 a b (fun x y _ => asElement t (fpMul p (num x) (num y))) ∧
    ew (.vfma d a b t1 k) 8 a b (fun x y z => asElement t (fpFma p (num x) (num y) (num z))) ∧
    ew (.vmin d a b t k) 6 a b (fun x y _ => asElement t (fpMinMax p false false x.toNat y.toNat)) ∧
    ew (.vmax d a b t k) 6 a b (fun x y _ => asElement t (fpMinMax p true false x.toNat y.toNat)) ∧
    ew (.vminn d a b t k) 6 a b (fun x y _ => asElement t (fpMinMax p false true x.toNat y.toNat)) ∧
    ew (.vmaxn d a b t k) 6 a b (fun x y _ => asElement t (fpMinMax p true true x.toNat y.toNat)) ∧
    ew (.vabs d a t k) 6 a a (fun x _ _ =>
      if (num x).isNan then (BitVec.ofNat _ (qnan p), signalled (num x)) else (x &&& ~~~(BitVec.intMin (elemW t)), 0)) ∧
    ew (.vneg d a t k) 6 a a (fun x _ _ =>
      if (num x).isNan then (BitVec.ofNat _ (qnan p), signalled (num x)) else (x ^^^ BitVec.intMin (elemW t), 0))

/-- R239: each compare writes a mask register, all 1,024 bits of it: 1 where the lane is active and the test holds for each
of its elements; the flags are those of the tests. -/
def Obligations.VectorCompare : Prop :=
  ∀ (s : State) (d : BitVec 2) (a b : BitVec 4) (t : BitVec 3) (k : BitVec 2), InBundle s →
    let cmp (i : Instr) (t : BitVec 3) (f : BitVec (elemW t) → BitVec (elemW t) → Bool × Byte) : Prop :=
      GivesV s i 6 (.mask d.toNat) (fun l =>
        let r (n i j : Nat) : Bool × Byte := f (element t (laneAt s n a i) j) (element t (laneAt s n b i) j)
        Raises s t k (fun n i j => (r n i j).2) l ∧
        ∀ n, n < 4 → nth l.lmask n 0 = BitVec.allOnes 1024 ∧ ∀ i, i < 1024 →
          (nth l.masks n 0).getLsbD i = (activeAt s n k i && (List.range (elems t)).all (fun j => (r n i j).1)))
    (isInt t = true →
      cmp (.vcmpeq d a b t k) t (fun x y => (x == y, 0)) ∧
      cmp (.vcmplt d a b t k) t (fun x y => (intValue t x < intValue t y, 0)) ∧
      cmp (.vcmple d a b t k) t (fun x y => (intValue t x ≤ intValue t y, 0))) ∧
    ∀ t1, let t := fpType t1
      cmp (.vcmpeq d a b t k) t (fun x y => fpCompare (fracW t) 0 x.toNat y.toNat) ∧
      cmp (.vcmplt d a b t k) t (fun x y => fpCompare (fracW t) 1 x.toNat y.toNat) ∧
      cmp (.vcmple d a b t k) t (fun x y => fpCompare (fracW t) 2 x.toNat y.toNat)

/-- R240, R241, R256: the movements of lanes, the broadcast of a g register's low element and the number of the core, bit
for bit and without flags; vsel writes every lane. -/
def Obligations.VectorMoves : Prop :=
  ∀ (s : State) (d a b c : BitVec 4) (t : BitVec 3) (k : BitVec 2), InBundle s →
    let g := nth s.issue.g c.toNat 0
    let mv (i : Instr) (lat : Nat) (f : Nat → Nat → W32) : Prop := GivesV s i lat (vdest s d) (Lanes s k f)
    GivesV s (.vsel d a b t k) 6 (vdest s d)
      (Lanes s 0 (fun n i => if activeAt s n k i then laneAt s n a i else laneAt s n b i)) ∧
    mv (.vmov d a t k) 6 (fun n i => laneAt s n a i) ∧
    GivesV s (.vsplat d c t k) 6 (vdest s d) (Elements s t d d d k (fun _ _ _ => (g.setWidth (elemW t), 0))) ∧
    mv (.vbcr d a c t k) 6 (fun n i => laneAt s n a (64 * c.toNat + i % 64)) ∧
    mv (.vrotr d a c t k) 6 (fun n i => laneAt s n a (64 * ((i / 64 + c.toNat) % 16) + i % 64)) ∧
    mv (.vbcc d a c t k) 8 (fun n i => laneAt s n a (i / 64 * 64 + (g.extractLsb' 0 6).toNat)) ∧
    mv (.vrotc d a c t k) 10 (fun n i => laneAt s n a (i / 64 * 64 + (i % 64 + (g.extractLsb' 0 6).toNat) % 64)) ∧
    GivesV s (.vcore d) 6 (vdest s d) (Lanes s 0 (fun n _ => BitVec.ofNat 32 n))

/-- R242, R47: vredr reduces over the 16 rows, separately for each element position, and vredc over the elements of each
row; every lane is written, and a row raises the flags of the trees that made it, every quarter those of all of vredr's.
`reduce` is the tree of R47; for the integer types nothing
active gives 0; otherwise a sum is the sum of the active elements modulo 2^w, a maximum or minimum is the greatest or
least of them, and no flag is raised. -/
def Obligations.VectorReduce : Prop :=
  (∀ (s : State) (d a c : BitVec 4) (t : BitVec 3) (k : BitVec 2) (kind : BitVec 3), InBundle s → kind.toNat ≤ 4 →
    let n := rowElems t
    let on (q r i : Nat) : Bool := activeAt s q k (64 * r + i / elems t)
    let column (q i : Nat) : Nat × Byte :=
      reduce t kind.toNat ((List.range 16).map (fun r => ((rowElement s q a t r i).toNat, on q r i)))
    let row (q r : Nat) : Nat × Byte :=
      reduce t kind.toNat ((List.range n).map (fun i => ((rowElement s q a t r i).toNat, on q r i)))
    GivesV s (.vredr d a c t k kind) 10 (vdest s d) (fun l => WritesActive s 0 l ∧
      ∀ q, q < 4 →
        (∀ r i, r < 16 → i < n →
          element t (outLane l q (64 * r + i / elems t)) (i % elems t) = BitVec.ofNat _ (column q i).1) ∧
        ∀ u, u < 4 → ∀ b, (nth l.flags (4 * q + u) 0).getLsbD b = true ↔ ∃ i, i < n ∧ (column q i).2.getLsbD b = true) ∧
    GivesV s (.vredc d a c t k kind) 14 (vdest s d) (fun l => WritesActive s 0 l ∧
      ∀ q, q < 4 →
        (∀ r i, r < 16 → i < n →
          element t (outLane l q (64 * r + i / elems t)) (i % elems t) = BitVec.ofNat _ (row q r).1) ∧
        ∀ u, u < 4 → ∀ b, (nth l.flags (4 * q + u) 0).getLsbD b = true ↔
          ∃ r, 4 * u ≤ r ∧ r < 4 * u + 4 ∧ (row q r).2.getLsbD b = true)) ∧
  ∀ (t : BitVec 3) (xs : List (Nat × Bool)), isInt t = true → xs.length ≤ 256 → (∀ x ∈ xs, x.1 < 2 ^ elemW t) →
    let on := (xs.filter (·.2)).map (·.1)
    (∀ kind, kind ≤ 4 → (reduce t kind xs).2 = 0) ∧
    (on = [] → ∀ kind, kind ≤ 4 → (reduce t kind xs).1 = 0) ∧
    (on ≠ [] →
      (reduce t 0 xs).1 = on.sum % 2 ^ elemW t ∧
      (∀ kind, kind = 1 ∨ kind = 2 →
        (reduce t kind xs).1 ∈ on ∧ ∀ x ∈ on, elemInt t x ≤ elemInt t (reduce t kind xs).1) ∧
      (∀ kind, kind = 3 ∨ kind = 4 →
        (reduce t kind xs).1 ∈ on ∧ ∀ x ∈ on, elemInt t (reduce t kind xs).1 ≤ elemInt t x))

/-- R243 to R246: the layout of conversions, packing and unpacking, element `i` of a row in each active lane: conversions
of "Number Formats" with the draw of the old lane, zero beyond the source's elements; saturation; extension. -/
def Obligations.VectorConvert : Prop :=
  ∀ (s : State) (d a b : BitVec 4) (t src : BitVec 3) (k : BitVec 2) (e : BitVec 2) (h : BitVec 1), InBundle s →
    let wide := elemW src < elemW t
    let ns := rowElems src
    let rows (i : Instr) (lat : Nat) (f : Nat → Nat → Nat → BitVec (elemW t) × Byte) : Prop :=
      GivesV s i lat (vdest s d) (fun l => WritesActive s k l ∧
        Raises s t k (fun n i j => (f n (i / 64) (elems t * (i % 64) + j)).2) l ∧
        ∀ n, n < 4 → ∀ i, i < 1024 → activeAt s n k i = true → ∀ j, j < elems t →
          element t (outLane l n i) j = (f n (i / 64) (elems t * (i % 64) + j)).1)
    let x (n r i : Nat) := rowElement s n a src r i
    let y (n r i : Nat) := rowElement s n b src r i
    let sel (n r i : Nat) : Sel := selOf e.toNat (laneAt s n d (64 * r + i % 64)).toNat
    let first (i : Nat) (v : BitVec (elemW t) × Byte) : BitVec (elemW t) × Byte := if i < ns then v else (0, 0)
    (isInt src = true → isInt t = true → wide → rows (.vcvt d a t k src e) 8 (fun n r i =>
      first i (BitVec.ofInt _ (intValue src (x n r i)), 0))) ∧
    (isInt src = true → isInt t = true → ¬wide → rows (.vcvt d a t k src e) 8 (fun n r i =>
      first i (saturated t (intValue src (x n r i))))) ∧
    (isInt src = true → isFp t = true → rows (.vcvt d a t k src e) 8 (fun n r i =>
      first i (asElement t (intToFp (fracW t) (sel n r i) (intValue src (x n r i)))))) ∧
    (isFp src = true → isFp t = true → rows (.vcvt d a t k src e) 8 (fun n r i =>
      first i (asElement t (fpToFp (fracW t) (sel n r i) (number src (x n r i)))))) ∧
    (isFp src = true → isInt t = true → rows (.vcvt d a t k src e) 8 (fun n r i =>
      let v := fpToInt t (sel n r i) (number src (x n r i))
      first i (BitVec.ofInt _ v.1, v.2))) ∧
    (isInt src = true → isInt t = true → rows (.vpack d a b t k src) 6 (fun n r i =>
      if i < ns then saturated t (intValue src (x n r i))
      else if i < 2 * ns then saturated t (intValue src (y n r (i - ns))) else (0, 0))) ∧
    (isInt src = true → isInt t = true → wide → rows (.vunpk d a t k src h) 6 (fun n r i =>
      (BitVec.ofInt _ (intValue src (x n r (i + h.toNat * rowElems t))), 0)))

namespace Sys2Proof.Claims

/-- A finite number is `n` times 2^−h; no f32 and no w16 has a unit below 2^−149. -/
def IsMultiple (x : Fp) (n : Int) (h : Nat) : Prop :=
  match x with
  | .fin s m e => (if s then -(m : Int) else (m : Int)) * 2 ^ (e + 200 + h).toNat = n * 2 ^ 200
  | _ => False

/-- A number is 2^n, or −2^n. -/
def IsPower (x : Fp) (neg : Bool) (n : Int) : Prop :=
  match x with
  | .fin s m e => s = neg ∧ -200 ≤ n ∧ m * 2 ^ (e + 200).toNat = 2 ^ (n + 200).toNat
  | _ => False

/-- The fast grade takes an operand as it is: it is no subnormal (R252). -/
def Plain (acc : Bool) (p bits : Nat) : Prop := acc = true ∨ bits / 2 ^ p % 256 ≠ 0

/-- Bits of 2^n or −2^n, for a normal number (R36). -/
def powerBits (p : Nat) (neg : Bool) (n : Int) : Nat := signBits p neg + (n + 127).toNat * 2 ^ p

/-- Fraction width of a floating type (R36). -/
def Width (p : Nat) : Prop := p = 23 ∨ p = 7

end Sys2Proof.Claims

/-- R250 to R253: the transcendentals of both grades in f32 and w16 take 12 cycles in the fast grade, 24 in the accurate
one, element by element, on every operand. Every operand of the table of R253 gives its result in both grades and both types,
and so do the exact cases of R251. The accurate grade rounds the function's value once, and for the reciprocal, the square root
and its reciprocal that value is bracketed by the exact one. The fast grade takes a subnormal as zero, rounds the value to 13
bits and delivers it as f32, and in w16 converts what it gives in f32. The value of the other six functions between their
exact cases is taken with 512 fraction bits: the model's choice (log 6). -/
def Obligations.VectorTranscendental : Prop :=
  (∀ (s : State) (d a : BitVec 4) (t1 : BitVec 1) (k : BitVec 2) (g : BitVec 1), InBundle s →
    let t := fpType t1
    let fn (i : Instr) (f : TFun) : Prop :=
      GivesV s i (if g = 1 then 24 else 12) (vdest s d)
        (Elements s t d a a k (fun x _ _ => asElement t (tElem f (g == 1) (fracW t) x.toNat)))
    fn (.vexp2 d a t1 k g) .exp2 ∧ fn (.vlog2 d a t1 k g) .log2 ∧ fn (.vrcp d a t1 k g) .rcp ∧
    fn (.vrsq d a t1 k g) .rsq ∧ fn (.vsqrt d a t1 k g) .sqrt ∧ fn (.vtanh d a t1 k g) .tanh ∧
    fn (.vsigm d a t1 k g) .sigm ∧ fn (.vsin d a t1 k g) .sin ∧ fn (.vcos d a t1 k g) .cos) ∧
  (∀ (acc : Bool) (p : Nat), Width p →
    let one : Nat × Byte := (powerBits p false 0, 0)
    let half : Nat × Byte := (powerBits p false (-1), 0)
    let zero (neg : Bool) : Nat × Byte := (signBits p neg, 0)
    let inf (neg : Bool) (f : Byte) : Nat × Byte := (infBits p neg, f)
    let nan : Nat × Byte := (qnan p, 0x01)
    let row (f : TFun) (z nz i ni : Nat × Byte) : Prop :=
      tElem f acc p 0 = z ∧ tElem f acc p (signBits p true) = nz ∧ tElem f acc p (infBits p false) = i ∧
        tElem f acc p (infBits p true) = ni
    row .exp2 one one (inf false 0) (zero false) ∧
    row .log2 (inf true 0x02) (inf true 0x02) (inf false 0) nan ∧
    row .rcp (inf false 0x02) (inf true 0x02) (zero false) (zero true) ∧
    row .rsq (inf false 0x02) (inf true 0x02) (zero false) nan ∧
    row .sqrt (zero false) (zero true) (inf false 0) nan ∧
    row .tanh (zero false) (zero true) one (powerBits p true 0, 0) ∧
    row .sigm half half one (zero false) ∧
    row .sin (zero false) (zero true) nan nan ∧
    row .cos one one nan nan ∧
    ∀ x, x < 2 ^ (p + 9) →
      (∀ (f : TFun) sg, fpOf p x = .nan sg → tElem f acc p x = (qnan p, if sg then 0x01 else 0)) ∧
      (∀ (f : TFun) m e, f = .log2 ∨ f = .rsq ∨ f = .sqrt → Plain acc p x → fpOf p x = .fin true m e → m ≠ 0 →
        tElem f acc p x = nan) ∧
      (∀ n : Int, Plain acc p x → IsMultiple (fpOf p x) n 0 → -126 ≤ n → n ≤ 127 →
        tElem .exp2 acc p x = (powerBits p false n, 0)) ∧
      (∀ n : Int, Plain acc p x → IsPower (fpOf p x) false n →
        (tElem .log2 acc p x).2 = 0 ∧ IsMultiple (fpOf p (tElem .log2 acc p x).1) n 0) ∧
      (∀ neg n, Plain acc p x → IsPower (fpOf p x) neg n → -126 ≤ -n → -n ≤ 127 →
        tElem .rcp acc p x = (powerBits p neg (-n), 0)) ∧
      (∀ n, Plain acc p x → IsPower (fpOf p x) false (2 * n) →
        tElem .sqrt acc p x = (powerBits p false n, 0) ∧ tElem .rsq acc p x = (powerBits p false (-n), 0)) ∧
      (∀ n : Int, Plain acc p x → IsMultiple (fpOf p x) n 1 → n ≠ 0 →
        tElem .sin acc p x = (if n % 4 = 1 then one else if n % 4 = 3 then (powerBits p true 0, 0) else zero false) ∧
        tElem .cos acc p x = (if n % 4 = 0 then one else if n % 4 = 2 then (powerBits p true 0, 0) else zero false))) ∧
  (∀ (neg : Bool) (m : Nat) (e : Int), m ≠ 0 →
    (∃ r k st, tEval .rcp (.fin neg m e) = .num neg r k st ∧ k + e = -512 ∧ r * m ≤ 2 ^ 512 ∧ 2 ^ 512 < (r + 1) * m ∧
      (st = true ↔ r * m ≠ 2 ^ 512)) ∧
    (∃ r k st, ∃ j : Nat, tEval .sqrt (.fin false m e) = .num false r k st ∧ 2 * k + j = e ∧ 512 ≤ j ∧
      r * r ≤ m * 2 ^ j ∧ m * 2 ^ j < (r + 1) * (r + 1) ∧ (st = true ↔ r * r ≠ m * 2 ^ j)) ∧
    (∃ r k st, ∃ j : Nat, tEval .rsq (.fin false m e) = .num false r k st ∧ 2 * k + e = -j ∧ 1023 ≤ j ∧
      r * r * m ≤ 2 ^ j ∧ 2 ^ j < (r + 1) * (r + 1) * m ∧ (st = true ↔ r * r * m ≠ 2 ^ j))) ∧
  (∀ (f : TFun) (p x : Nat), Width p →
    (∀ neg m e st, tEval f (fpOf p x) = .num neg m e st → tElem f true p x = fpRound p neg m e st .rne) ∧
    (x / 2 ^ p % 256 = 0 → tElem f false p x = tElem f false p (signBits p (decide (x / 2 ^ (p + 8) % 2 = 1)))) ∧
    (∀ neg m e st, x / 2 ^ 23 % 256 ≠ 0 → tEval f (fpOf 23 x) = .num neg m e st → 2 ^ 13 ≤ m →
      let q := e + (Nat.log2 m : Int) - 12
      let r := roundMag neg m st (q - e) .rne
      let top := q + (Nat.log2 r.1 : Int)
      (127 < top → tElem f false 23 x = (infBits 23 neg, 0x14)) ∧
      (top < -126 → tElem f false 23 x = (signBits 23 neg, 0x18)) ∧
      (-126 ≤ top → top ≤ 127 → (tElem f false 23 x).2 = (if r.2 then 0x10 else 0) ∧
        ∃ u v, fpOf 23 (tElem f false 23 x).1 = .fin neg u v ∧ u * 2 ^ (v + 200).toNat = r.1 * 2 ^ (q + 200).toNat)) ∧
    let wide := tElem f false 23 (x * 2 ^ 16)
    let low := fpToFp 7 .rne (fpOf 23 wide.1)
    tElem f false 7 x = (low.1, wide.2 ||| low.2))

/-- R254, R44, R45: vqmax puts the scale codes of the sixteen rows, those of the block scale over elements 0
to 63 of each row with inactive ones as 0, into the bypass. R255, R74: rng.draw fills its rows with the draws that follow the counter, core
after core, and the counter moves on by those of the four cores. -/
def Obligations.ScaleAndDraw : Prop :=
  ∀ (s : State) (d a c n : BitVec 4) (t1 : BitVec 1) (k q : BitVec 2), InBundle s →
    (let t := fpType t1
     let scale (m r : Nat) : Nat × Byte := blockScale q.toNat ((List.range 64).map (fun i =>
       if activeAt s m k (64 * r + i / elems t) then number t (rowElement s m a t r i) else .fin false 0 0))
     q.toNat ≤ 2 →
     GivesV s (.vqmax a t1 k q) 6 .bypass (fun l => l.target = q ∧ ∀ m, m < 4 →
       nth l.lmask m 0 = BitVec.allOnes 1024 ∧
       nth l.codes m [] = (List.range 16).map (fun r => BitVec.ofNat 8 (scale m r).1) ∧
       ∀ u, u < 4 → ∀ b, (nth l.flags (4 * m + u) 0).getLsbD b = true ↔
         ∃ r, 4 * u ≤ r ∧ r < 4 * u + 4 ∧ (scale m r).2.getLsbD b = true)) ∧
    (let rows := n.toNat + 1
     let first := 64 * c.toNat
     c.toNat + rows ≤ 16 →
     ∃ l : Landing, l.time = s.now + 6 ∧ l.dest = vdest s d ∧ l.part = none ∧ l.tok = 0 ∧ NoFlags l ∧
       exec (.rngDraw d c n) s = .next (posted (withCtx s { s.issueCtx with
         inflight := s.issueCtx.inflight ++ [l]
         draw := s.issueCtx.draw + BitVec.ofNat 128 (256 * rows) }) (s.now + 6) .resultLand
           (EvArg.at s.issue.cl s.issue.cx 0)) ∧
       ∀ m, m < 4 → ∀ i, i < 1024 →
         (nth l.lmask m 0).getLsbD i = (decide (first ≤ i) && decide (i < first + 64 * rows)) ∧
         (first ≤ i → i < first + 64 * rows → outLane l m i =
           draw s.issueCtx.key0 s.issueCtx.key1 (s.issueCtx.draw + BitVec.ofNat 128 (64 * rows * m + (i - first)))))

namespace Sys2Proof.Claims

/-- A range of memory whose sectors are clean. -/
def CleanRange (s : State) (key n : Nat) : Prop :=
  ∀ x ∈ sectorsOf key n, NMap.getD s.syn x 0 = 0

/-- The rows of a V-slot access on core `k`: `rows` of them from the byte of address `a` that is the core's own, one a cycle
from the cycle after its issue on, which on core `k` is 2k cycles later (R13, R153, R233). -/
def rowsOf (s : State) (a : W64) (first rows : Nat) (write : Bool) (data : Nat → List (List W32))
    (marks : Nat → List (BitVec 64)) (k : Nat) : RowJob :=
  { id := s.uid, cx := s.issue.cx, core := k, write := write, at_ := s.vectorKey a k, time := s.now + 2 * k + 1
    left := rows, row := first, who := s.issueCtx.who s.issue.cl s.issue.cx, data := data k, marks := marks k, va := a
    bpc := s.issue.pc, told := false }

/-- The rows of an access begin to move on the four cores, and the tile port is reserved for as many cycles from the next one
on (R232, R233). Nothing else of the module changes. -/
def rowsBegin (s : State) (rows : Nat) (job : Nat → RowJob) : State :=
  let k := s.cluster s.issue.cl
  { s with
    uid := s.uid + 1
    clusters := NMap.set s.clusters s.issue.cl { k with
      rows := [job 0, job 1, job 2, job 3], portTo := Max.max k.portTo (s.now + 1 + rows)
      tileAt := if rows = 16 then some s.now else k.tileAt, tileCx := if rows = 16 then s.issue.cx else k.tileCx } }

/-- The rows of an access on its four cores: of one context and cluster and current there, each within its own core's
scratchpad at a row boundary, in clean sectors, without poison met before. -/
def FourRows (s : State) (cl cx rows first : Nat) (write : Bool) (job : Nat → RowJob) : Prop :=
  ∀ k, k < 4 →
    (job k).cx = cx ∧ (job k).core = k ∧ (job k).write = write ∧ (job k).left = rows ∧ (job k).row = first ∧
    (job k).id = (job 0).id ∧ (job k).told = false ∧
    s.current (clusterStop cl) (job k).who.dom (job k).who.inc = true ∧
    (job k).at_ % 256 = 0 ∧ scratchKey cl k 0 ≤ (job k).at_ ∧ (job k).at_ + 256 * rows ≤ scratchKey cl (k + 1) 0 ∧
    CleanRange s (job k).at_ (256 * rows)

end Sys2Proof.Claims

/-- R233, R247: a load or a store of the scratchpad begins: each core's rows, 16 of a tile or one, move from the next cycle of
the core on; a load's result lands 18 or 3 cycles after issue, in the lanes of its rows; a store takes with it the lanes and
the mask as they are at issue. Then the rows move: a load brings the bytes of each core's own scratchpad into the register,
lane by lane, little-endian, and changes no byte; a store writes the bytes of the active lanes, core by core, and no other
byte. When the model moves the rows is its choice (log 14). -/
def Obligations.VectorMemory : Prop :=
  (∀ (s : State) (v c r : BitVec 4) (k : BitVec 2), InBundle s →
    let g := nth s.issue.g c.toNat 0
    let load (i : Instr) (lat first rows : Nat) : Prop :=
      let job := rowsOf s g first rows false (fun _ => []) (fun _ => [])
      (∃ t : State, exec i s = .next t ∧ ∀ n, n < 4 → job n ∈ (t.cluster s.issue.cl).rows) ∧
      ((s.cluster s.issue.cl).rows = [] → (∀ n, n < 4 → CleanRange s (s.vectorKey g n) (256 * rows)) →
        ∃ l : Landing, l.time = s.now + lat ∧ l.dest = vdest s v ∧ l.part = none ∧ l.tok = s.uid ∧ NoFlags l ∧
          (∀ n, n < 4 → (nth l.vec n .zero).lanes.length = 1024 ∧ ∀ i, i < 1024 →
            (nth l.lmask n 0).getLsbD i = (decide (first ≤ i / 64) && decide (i / 64 < first + rows))) ∧
          exec i s = .next (posted (withCtx (rowsBegin s rows job) { s.issueCtx with inflight := s.issueCtx.inflight ++ [l] })
            (s.now + lat) .resultLand (EvArg.at s.issue.cl s.issue.cx 0)))
    let store (i : Instr) (first rows : Nat) : Prop :=
      ∃ (data : Nat → List (List W32)) (marks : Nat → List (BitVec 64)),
        let job := rowsOf s g first rows true data marks
        (∀ n w j, n < 4 → w < rows → j < 64 → first + w < 16 →
          nth (nth (data n) w []) j 0 = laneAt s n v (64 * (first + w) + j) ∧
          (nth (marks n) w 0).getLsbD j = activeAt s n k (64 * (first + w) + j)) ∧
        (∃ t : State, exec i s = .next t ∧ ∀ n, n < 4 → job n ∈ (t.cluster s.issue.cl).rows) ∧
        ((s.cluster s.issue.cl).rows = [] → exec i s = .next (rowsBegin s rows job))
    load (.vld v c) 18 0 16 ∧ store (.vst v c k) 0 16 ∧ load (.vldr v c r) 3 r.toNat 1 ∧ store (.vstr v c k r) r.toNat 1) ∧
  (∀ (s : State) (rows first r : Nat) (job : Nat → RowJob) (l : Landing) (rest : List Landing),
    let cl := s.ev.cl
    let cx := s.ev.cx
    s.ev.n = 0 → (s.ctx cl cx).inflight = l :: rest → l.time ≤ s.now → l.dest = .vreg r → l.tok ≠ 0 →
    (∀ x ∈ rest, x.tok ≠ l.tok) → (∀ x ∈ (s.ctx cl cx).snap, x.tok ≠ l.tok) →
    (∀ k, k < 4 → (nth l.vec k .zero).lanes.length = 1024) → l.vec.length = 4 → first + rows ≤ 16 →
    (s.cluster cl).rows = [job 0, job 1, job 2, job 3] → FourRows s cl cx rows first false job → (job 0).id = l.tok →
    ∃ t, exec .resultLand s = .next t ∧ SameMemory s t ∧ (t.cluster cl).rows = [] ∧ (t.ctx cl cx).inflight = rest ∧
      ∀ (k : Nat) (x : CoreCtx), k < 4 → (s.ctx cl cx).cores[k]? = some x → ∃ y, (t.ctx cl cx).cores[k]? = some y ∧
        (∀ n, n ≠ r → y.v[n]? = x.v[n]?) ∧
        (r < x.v.length → ∀ i, i < 1024 → nth (y.vreg r).lanes i 0 =
          if (nth l.lmask k 0).getLsbD i = false then nth (x.vreg r).lanes i 0
          else if first ≤ i / 64 ∧ i / 64 < first + rows then
            BitVec.ofNat 32 (valueAt s ((job k).at_ + 4 * (i - 64 * first)) 4)
          else nth (nth l.vec k .zero).lanes i 0)) ∧
  (∀ (s : State) (cx rows first : Nat) (job : Nat → RowJob),
    let cl := s.ev.cl
    s.ev.n = 1 → rows ≤ 16 → (s.cluster cl).rows = [job 0, job 1, job 2, job 3] → FourRows s cl cx rows first true job →
    (∀ k, k < 4 → (job k).time + rows ≤ s.now + 1 ∧ (job k).data.length = rows ∧ (job k).marks.length = rows ∧
      ∀ w ∈ (job k).data, w.length = 64) →
    ∃ t, exec .resultLand s = .next t ∧ (t.cluster cl).rows = [] ∧ t.ctxs = s.ctxs ∧
      (∀ k i, k < 4 → i < 64 * rows → (nth (job k).marks (i / 64) 0).getLsbD (i % 64) = true → ∀ j, j < 4 →
        memGet t.mem ((job k).at_ + 4 * i + j) = (nth (nth (job k).data (i / 64) []) (i % 64) 0).extractLsb' (8 * j) 8) ∧
      ∀ x, (∀ k i j, k < 4 → i < 64 * rows → (nth (job k).marks (i / 64) 0).getLsbD (i % 64) = true → j < 4 →
        x ≠ (job k).at_ + 4 * i + j) → memGet t.mem x = memGet s.mem x)

namespace Sys2Proof.Claims

/-- The earlier accesses of the context in issue: its own, and its V-slot accesses whose rows still move (R98, R117). -/
def earlierOf (s : State) : List Nat :=
  s.issueCtx.accs.map (·.id) ++ ((s.cluster s.issue.cl).rows.filter
    (fun j => j.cx = s.issue.cx ∧ s.now < j.time + j.left)).map (·.id)

/-- The command of an S slot as a core queues it: operation, flags, operands and everything it takes from the context at
issue, with the index that s.scc has after its advance (R259, R336). -/
def commandOf (s : State) (op : BitVec 6) (flags : Byte) (ops : List W64) (dest : Option (BitVec 6)) (sampled : Bool)
    (rows : VReg) (codes : List Byte) : StreamCmd :=
  let c := s.issueCtx
  { cidx := (c.scc + 1).setWidth 32, flags := flags, op := op, m := c.sl.toNat, seed := c.seed, dv := dest.isSome
    dest := dest.getD 0, token := s.uid, opnd := ops, rows := rows, codes := codes, key0 := c.key0, key1 := c.key1
    cur := { pos := 0, sub := 0, tbit := 0, pv := false, state := 0, cause := 0 }, part := [], sampled := sampled
    after := earlierOf s, claims := c.claims, bpc := s.issue.pc, faultAt := 0, spent := 0 }

/-- g register `n` is empty and awaits a result (R15, R159). -/
def emptied (c : Ctx) (n : BitVec 6) (tok : Nat) : Ctx :=
  { c with full := c.full &&& ~~~(1#64 <<< n.toNat), expd := c.expd &&& ~~~(1#64 <<< n.toNat)
           await := NMap.set c.await n.toNat tok }

/-- A command has been queued on each core of the context, a destination is empty with its parts noted, which lands in cycle 7
at the earliest, and the four engines are asked, each in the same cycle of its own core (R13, R166, R258, R259, R261). Nothing
else changes but what `f` says. -/
def queuedWith (s : State) (cmd : CoreCtx → StreamCmd) (dest : Option (BitVec 6)) (f : Ctx → Ctx) : State :=
  let c : Ctx := { s.issueCtx with
    scc := s.issueCtx.scc + 1, cores := s.issueCtx.cores.map (fun x => { x with cmds := x.cmds ++ [cmd x] }) }
  let c := match dest with
    | none => c
    | some r =>
      { (emptied c r s.uid) with gang := c.gang ++ [{
          cidx := (s.issueCtx.scc + 1).setWidth 32, reg := r.toNat, token := s.uid, at_ := s.now + 7, done := [], value := [] }] }
  let ask (s : State) (k : Nat) : State :=
    posted s s.now .streamChunk { EvArg.zero with cl := s.issue.cl, id := k, n := 1 }
  ask (ask (ask (ask (withCtx { s with uid := s.uid + 1 } (f c)) 0) 1) 2) 3

/-- A command that captures no rows. -/
def queued (s : State) (op : BitVec 6) (flags : Byte) (ops : List W64) (dest : Option (BitVec 6)) (f : Ctx → Ctx) : State :=
  queuedWith s (fun _ => commandOf s op flags ops dest false .zero []) dest f

/-- A command whose status the scalar plane decides: it is queued, and its register is empty until the status lands in cycle 7
(R264, R267; log 91). -/
def queuedSeven (s : State) (op : BitVec 6) (flags : Byte) (ops : List W64) (r : BitVec 6) (v : W64) (f : Ctx → Ctx) : State :=
  let q := queued s op flags ops none (fun x =>
    let y := emptied (f x) r (s.uid + 1)
    { y with inflight := y.inflight ++ [Landing.scalarAt (s.now + 7) (.greg r.toNat (s.uid + 1)) v 0] })
  posted { q with uid := s.uid + 2 } (s.now + 7) .resultLand (EvArg.at s.issue.cl s.issue.cx 0)

/-- What is left of the widening share of the context's region on its die (R265, R316). -/
def shareLeft (s : State) : Nat :=
  match s.region (s.regionOf s.issueCtx) with
  | some r => NMap.getD r.shares (s.issue.cl / 2) 0
  | none => 0

/-- A g operand as read at issue. -/
def operand (s : State) (n : BitVec 6) : W64 := nth s.issue.g n.toNat 0

/-- The four registers of a descriptor (R270). -/
def descriptorOf (s : State) (a : BitVec 6) : List W64 := [operand s a, operand s (a + 1), operand s (a + 2), operand s (a + 3)]

/-- The shelf is claimed by another stage of the task in a context slot of the cluster, or a release of it is under way
there (R267, R268). -/
def TakenShelf (s : State) (n : Nat) : Prop :=
  ∃ y, (y < 8 ∨ y ∈ s.shadows s.issue.cl) ∧
    let o := s.ctx s.issue.cl y
    o.occ ≠ .free ∧ o.task = s.issueCtx.task ∧
      ((y ≠ s.issue.cx ∧ o.claims.getLsbD n = true) ∨
        ∃ k ∈ o.cores, ∃ x, (x ∈ k.cmds ∨ ∃ e ∈ k.late, e.2 = x ∧ s.now < e.1) ∧
          x.op = 0x04 ∧ x.flags.toNat % 8 = n ∧ x.claims.getLsbD n = true)

end Sys2Proof.Claims

/-! ### Stream commands -/

/-- R172, R258, R259, R336: each S slot without an immediate effect of its own queues its command on the four cores with
its number, flags and operands; runs do so unwidened and uncounted by a sampled check. chk and str.stat leave their
destination empty. Nothing else changes. -/
def Obligations.StreamCommands : Prop :=
  ∀ (s : State) (a b c : BitVec 6) (r st f u : BitVec 1) (md : BitVec 2) (sh : BitVec 3) (np v : BitVec 4), InBundle s →
    let g := operand s
    let q (i : Instr) (op : BitVec 6) (flags : Byte) (ops : List W64) : Prop :=
      exec i s = .next (queued s op flags ops none id)
    let narrow : Prop := ∀ rg, s.fieldsOf s.issueCtx = some rg → s.issueCtx.sl.toNat ≤ rg.nomm
    let unchecked : Prop := ∀ rg, s.fieldsOf s.issueCtx = some rg → rg.chkn = 0
    q (.wld a b r sh) 0x05 (r ++ 0#4 ++ sh) [g a, g b] ∧
    q (.stopCfg a b c) 0x08 0 [g a, g b, g c] ∧ q (.fclr a b c) 0x09 0 [g a, g b, g c] ∧
    q (.drain a b c r f np) 0x0A (r ++ f ++ 0#2 ++ np) [g a, g b, g c] ∧
    q (.fld a b c r) 0x0B (r ++ 0#7) [g a, g b, g c] ∧ q (.fst a b c r) 0x0C (r ++ 0#7) [g a, g b, g c] ∧
    q (.sqLd a b r) 0x0F (r ++ 0#7) [g a, g b] ∧ q .sqClr 0x10 0 [] ∧
    exec (.strStat c) s = .next (queued s 0x12 0 [] (some c) id) ∧
    (narrow →
      exec (.chk a c md np) s = .next (queued s 0x11 (0#1 ++ md ++ 0#1 ++ np) (descriptorOf s a) (some c) id) ∧
      (st = 1 → q (.arun a r md st np) 0x06 (r ++ md ++ st ++ np) (descriptorOf s a)) ∧
      (st = 0 → unchecked → exec (.arun a r md st np) s = .next (queued s 0x06 (r ++ md ++ st ++ np) (descriptorOf s a)
        none (fun x => { x with runs := s.issueCtx.runs + 1 }))) ∧
      (unchecked → exec (.arunBt a r md 0 np) s = .next (queued s 0x07 (r ++ md ++ 0#1 ++ np) (descriptorOf s a)
        none (fun x => { x with runs := s.issueCtx.runs + 1 })))) ∧
    (md ≠ 2 →
      let cmd (op : BitVec 6) (flags : Byte) (x : CoreCtx) : StreamCmd :=
        let n := if v.toNat < 8 then v.toNat else 8 + (v.toNat - 8 + s.issue.rrb.toNat) % 8
        commandOf s op flags [g a, g b] none false (nth x.v n .zero) x.bypass
      exec (.sq4 a b r md u v) s = .next (queuedWith s (cmd 0x0D (r ++ md ++ u ++ v)) none id) ∧
      exec (.sq8 a b r md v) s = .next (queuedWith s (cmd 0x0E (r ++ md ++ 0#1 ++ v)) none id))

/-- R264, R266 to R268, R75, R280, R316: what the S slots that change the context at issue do to it: str.setl within the
nominal m of its task or the die's widening share, or denied with no change of s.sl, which the region notes; str.seed; claims
granted, denied and given up; and the counter, which goes on by 4·64·rows at a quantise under rsr. The status of str.setl and of
shf.claim lands in cycle 7, which of two rules is the model's choice (log 91). -/
def Obligations.StreamContextEffects : Prop :=
  ∀ (s : State) (a b c : BitVec 6) (r u : BitVec 1) (sh : BitVec 3) (v : BitVec 4), InBundle s →
    let x := s.issueCtx
    let g := operand s
    let rn := s.regionOf x
    let prev := x.sl.toNat * 256
    ((∀ f, s.fieldsOf x = some f → (g a).toNat ≤ f.nomm ∨ 0 < shareLeft s) →
      exec (.strSetl a c) s = .next (queuedSeven s 0x01 0 [g a] c (BitVec.ofNat 64 prev)
        (fun y => { y with sl := BitVec.ofNat 5 (g a).toNat }))) ∧
    (∀ f, s.fieldsOf x = some f → f.nomm < (g a).toNat → shareLeft s = 0 →
      let denied := queuedSeven s 0x01 0 [g a] c (BitVec.ofNat 64 (prev + 7)) id
      (∃ t, exec (.strSetl a c) s = .next t ∧ t.issueCtx = denied.issueCtx ∧
        ∀ rg, s.region rn = some rg → t.region rn = some { rg with denied := true }) ∧
      ((∀ rg, s.region rn = some rg → rg.denied = true) → exec (.strSetl a c) s = .next denied)) ∧
    exec (.strSeed a) s = .next (queued s 0x02 0 [g a] none (fun y => { y with seed := (g a).extractLsb' 0 32 })) ∧
    (sh.toNat < (s.task x).nsh → (x.claims.getLsbD sh.toNat = true ∨ ¬TakenShelf s sh.toNat) →
      exec (.shfClaim c sh) s = .next (queuedSeven s 0x03 (0#5 ++ sh) [] c 0
        (fun y => { y with claims := x.claims ||| 1#8 <<< sh.toNat }))) ∧
    ((s.task x).nsh ≤ sh.toNat ∨ x.claims.getLsbD sh.toNat = false ∧ TakenShelf s sh.toNat →
      exec (.shfClaim c sh) s = .next (queuedSeven s 0x03 (0#5 ++ sh) [] c 7 id)) ∧
    exec (.shfRel sh) s = .next (queued s 0x04 (0#5 ++ sh) [] none
      (fun y => { y with claims := x.claims &&& ~~~(1#8 <<< sh.toNat) })) ∧
    (let cmd (op : BitVec 6) (flags : Byte) (y : CoreCtx) : StreamCmd :=
        let n := if v.toNat < 8 then v.toNat else 8 + (v.toNat - 8 + s.issue.rrb.toNat) % 8
        commandOf s op flags [g a, g b, x.draw.extractLsb' 0 64, x.draw.extractLsb' 64 64] none false (nth y.v n .zero) y.bypass
      let on (y : Ctx) : Ctx := { y with draw := x.draw + BitVec.ofNat 128 (256 * (((g b).extractLsb' 4 4).toNat + 1)) }
      exec (.sq4 a b r 2 u v) s = .next (queuedWith s (cmd 0x0D (r ++ 2#2 ++ u ++ v)) none on) ∧
      exec (.sq8 a b r 2 v) s = .next (queuedWith s (cmd 0x0E (r ++ 2#2 ++ 0#1 ++ v)) none on))

/-- R261, R262, R269, R272, R274, R277, R281, R282: the end of a unit of the head command of a core, while no error stands in
what it reads. The stop configuration, the emptied scale queue, a cleared folio row, a loaded row of codes and loaded scales;
a command that is complete leaves the queue, one that is not goes on at its next unit, and scales without room stop it
with cause 4 and change nothing. An idle engine without an eligible context does nothing, nor does one asked while it is with a
unit. That a unit has its effects at its end is the model's choice (log 35). -/
def Obligations.StreamChunks : Prop :=
  ∀ (s : State) (x : CoreCtx) (cmd : StreamCmd) (rest : List StreamCmd),
    let e := s.ev
    let c := s.ctx e.cl e.cx
    let task := s.task c
    let o (n : Nat) : W64 := nth cmd.opnd n 0
    let key (a : W64) (off : Nat) : Nat := scratchKey e.cl e.id (physOff task a + off)
    (e.n = 0 → c.cores[e.id]? = some x → x.cmds = cmd :: rest → c.errs = [] → (s.cluster e.cl).errs = [] →
      (∀ n, (s.cluster n).rows = []) → c.occ = .resident →
      c.tagged e.who = true → e.v = cmd.cidx.setWidth 64 →
      let cur : Cursor := { pos := cmd.cur.pos + 1, sub := 0, tbit := 0, pv := false, state := 1, cause := cmd.cur.cause }
      let next : StreamCmd := { cmd with part := [], spent := 0, cur := cur }
      let ends (cmds : List StreamCmd) (p : State → CoreCtx → Prop) : Prop :=
        ∃ (t : State) (z : CoreCtx), exec .streamChunk s = .next t ∧ SameMemory s t ∧
          (t.ctx e.cl e.cx).cores[e.id]? = some z ∧ z.cmds = cmds ∧ z.v = x.v ∧ z.k = x.k ∧ p t z
      (cmd.op = 0x08 → ends rest (fun _ z => z.stopX = (o 0).extractLsb' 0 8 ∧ z.stopY = (o 1).extractLsb' 0 8 ∧
        z.theta = (o 2).extractLsb' 0 32 ∧ z.sq = x.sq)) ∧
      (cmd.op = 0x10 → ends rest (fun _ z => z.sq = [])) ∧
      (cmd.op = 0x09 → ends (if cmd.cur.pos + 1 = (o 1).toNat then rest else next :: rest) (fun t z => z.sq = x.sq ∧
        NMap.get? (t.cluster e.cl).folio (e.id * 512 + task.frow + ((o 0).toNat + cmd.cur.pos)) =
          some { f := List.replicate 256 0, b := (o 2).extractLsb' 0 16 })) ∧
      (cmd.op = 0x05 → cmd.cur.pos < 256 → CleanRange s (key (o 0) (256 * cmd.cur.pos)) 256 →
        ends (next :: rest) (fun t _ => ∃ sh, ∀ i, i < 256 →
          NMap.get? (t.cluster e.cl).shelves (e.id * 8 + task.shelf + cmd.flags.toNat % 8) = some sh ∧
          NMap.getD sh.codes (256 * cmd.cur.pos + i) 0 = memGet s.mem (key (o 0) (256 * cmd.cur.pos) + i))) ∧
      (cmd.op = 0x0F → 0 < (o 1).toNat → x.sq.length + (o 1).toNat ≤ 64 → CleanRange s (key (o 0) 0) (o 1).toNat →
        ends rest (fun _ z => z.sq = x.sq ++ (List.range (o 1).toNat).map (fun i => memGet s.mem (key (o 0) 0 + i)))) ∧
      (cmd.op = 0x0F → 64 < x.sq.length + (o 1).toNat →
        ends ({ cmd with faultAt := 0, cur := { cmd.cur with state := 2, cause := 4 } } :: rest)
          (fun _ z => z.sq = x.sq))) ∧
    (e.n = 1 → ((s.cluster e.cl).engine e.id).cur = none →
      (∀ i, i < 8 → ∀ y ∈ s.slotStages e.cl i, s.eligible e.cl e.id y = false) → exec .streamChunk s = .next s) ∧
    (e.n = 1 → ((s.cluster e.cl).engine e.id).cur ≠ none → exec .streamChunk s = .next s)

/-! ### The K slot -/

namespace Sys2Proof.Claims

/-- g register `n` holds a value: full, not expired, awaiting nothing, without an error (R15, R159, R379). -/
def filled (c : Ctx) (n : Nat) (v : W64) : Ctx :=
  { c with g := c.g.set n v, full := c.full ||| 1#64 <<< n, expd := c.expd &&& ~~~(1#64 <<< n)
           await := NMap.erase c.await n, errs := c.errs.filter (fun e => e.place ≠ .g n) }

/-- The tag of the bundle in issue (R356). -/
def tagOf (s : State) : Who := s.issueCtx.who s.issue.cl s.issue.cx

/-- The event operands of the bundle in issue. -/
def here (s : State) (id : Nat) : EvArg := EvArg.at s.issue.cl s.issue.cx id

/-- A local query has been started: its register is empty, and a read is to be made at the end of a cycle (R210). Nothing
else changes. -/
def asksLocally (s : State) (c : BitVec 6) (t : Nat) (d : Dest) : State :=
  let x := emptied s.issueCtx c s.uid
  posted (withCtx { s with uid := s.uid + 1 } { x with inflight := x.inflight ++ [Landing.scalarAt t d 0 0] }) t .resultLand
    { here s 0 with n := 2 }

/-- The wait that a waiting form begins (R122, R123, R210): s0 is s.ccy at issue, and a deadline of 0 has the allowance of
4,096 cycles. -/
def waitOf (s : State) (kind : WaitKind) (i : Instr) (gc : BitVec 6) (gval : Option (BitVec 6)) (d : Nat) (ops : List W64)
    (e : BitVec 1) (scope : BitVec 2) : Wait :=
  let c := s.issueCtx
  { id := s.uid, kind := kind, kword := (encode i).getD 0, s0 := (c.ccy s.now).toNat, d := d, gc := gc.toNat
    gval := gval.map (·.toNat), tokC := s.uid, tokV := s.uid + 1, ops := ops, esc := e == 1, scope := scope
    bpc := s.issue.pc, covers := earlierOf s, upto := c.scc, cancelSent := false, reset := false, arr := 0
    rstat := none, rval := 0, mask := none, deadline := s.now + (if d = 0 then 4096 else d), sent := false }

/-- The context waits: the destinations are empty, and the wait ends at its deadline at the latest; the classes of a fence are
read in its deadline cycle (R131). Nothing else changes. -/
def waits (s : State) (w : Wait) (gc : BitVec 6) (gval : Option (BitVec 6)) : State :=
  let c : Ctx := { (emptied s.issueCtx gc s.uid) with wait := some w }
  let c := match gval with
    | some r => emptied c r (s.uid + 1)
    | none => c
  let t := withCtx { s with uid := s.uid + 2 } c
  let t := if w.kind = .fence then posted t w.deadline .waitDeadlineExpire { here s s.uid with n := 1 } else t
  posted t (w.deadline + 1) .waitDeadlineExpire (here s s.uid)

/-- The deadline operand: bits 31:0 (R210). -/
def deadlineBits (v : W64) : Nat := v.toNat % 2 ^ 32

/-- A counter operation of the bundle in issue, sent in cycle 6 (R210, R216). -/
def counterRequest (s : State) (id : Nat) (k : AccKind) (a data cmp : W64) (sc : BitVec 2) (d : Nat) (token : Option Nat) :
    Access :=
  { id := id, kind := k, order := .plain, scope := sc, va := a, size := 8, data := data.setWidth 128, cmp := cmp
    who := tagOf s, task := s.issueCtx.task, bpc := s.issue.pc, slot := 7, s0 := s.now, dl := d, esc := false
    token := token, pieces := [], left := false, performed := false, answered := false }

/-- The access is made by the bundle's context and leaves in cycle 6. -/
def sends (s : State) (c : Ctx) (a : Access) : State :=
  posted (withCtx s { c with accs := c.accs ++ [a] }) (s.now + 6) .requestLeavesCluster (here s a.id)

/-- The hops from the cluster in issue to a stop. -/
def hopsTo (s : State) (t : Nat) : Nat := hops (clusterStop s.issue.cl) t

end Sys2Proof.Claims

/-- R222, R74, R75: the counter random state: key, draw counter, skip modulo 2^128, the next draw, and its save into four
registers. Nothing else changes. -/
def Obligations.RandomState : Prop :=
  ∀ (s : State) (a b c : BitVec 6), InBundle s →
    let x := s.issueCtx
    let g := operand s
    exec (.rngKey a b) s = .next (withCtx s { x with key0 := g a, key1 := g b }) ∧
    exec (.rngCtr a b) s = .next (withCtx s { x with draw := g b ++ g a }) ∧
    exec (.rngSkip a b) s = .next (withCtx s { x with draw := x.draw + (g b ++ g a) }) ∧
    exec (.rngNext c) s = .next (withCtx s { (filled x c.toNat ((draw x.key0 x.key1 x.draw).setWidth 64)) with
      draw := x.draw + 1 }) ∧
    exec (.rngSave c) s = .next (withCtx s
      (filled (filled (filled (filled x c.toNat x.key0) (c.toNat + 1) x.key1) (c.toNat + 2) (x.draw.extractLsb' 0 64))
        (c.toNat + 3) (x.draw.extractLsb' 64 64)))

/-- R210, R213, R224, R225: the local queries: the register is empty from issue, the value is read in cycle 6 and fills
it in cycle 7; what cpy.wp and sys.flg read, sys.flg core k's copy in that core's cycle 6 − 2k, which is cycle 6 of core 0. That
a read comes after the other steps of its cycle is the model's choice (log 17). -/
def Obligations.LocalQueries : Prop :=
  (∀ (s : State) (c : BitVec 6) (h sel : BitVec 4), InBundle s →
    exec (.cpyWp c h) s =
      .next (asksLocally s c (s.now + 6) (.query ((encode (.cpyWp c h)).getD 0) c.toNat s.uid)) ∧
    exec (.sysCtx c sel) s =
      .next (asksLocally s c (s.now + 6) (.query ((encode (.sysCtx c sel)).getD 0) c.toNat s.uid)) ∧
    exec (.sysFlg c) s = .next (asksLocally s c s.now (.copies 3 c.toNat s.uid))) ∧
  ∀ (s : State) (l : Landing) (rest : List Landing) (reg tok : Nat),
    let c := s.ctx s.ev.cl s.ev.cx
    let reads (v : W64) : Prop := exec .resultLand s = .next (posted (s.setCtx s.ev.cl s.ev.cx
      { c with inflight := rest ++ [Landing.scalarAt (s.now + 1) (.greg reg tok) v 0] }) (s.now + 1) .resultLand
      (EvArg.at s.ev.cl s.ev.cx 0))
    let copy (k : Nat) : W64 := (nth c.cores k .fresh).fflg.setWidth 64 <<< (8 * k)
    c.inflight = l :: rest → l.time ≤ s.now →
      (∀ d (h : BitVec 4), s.ev.n = 2 → l.dest = .query ((encode (.cpyWp d h)).getD 0) reg tok →
        (∀ k, (s.cluster s.ev.cl).chan h.toNat = some k → k.task = c.task → reads (BitVec.ofNat 64 k.wp)) ∧
        ((∀ k, (s.cluster s.ev.cl).chan h.toNat = some k → k.task ≠ c.task) → reads 0)) ∧
      (s.ev.n = 2 → l.dest = .copies 0 reg tok → reads (l.lo ||| copy 0 ||| c.fflg.setWidth 64 <<< 32)) ∧
      (∀ k, s.ev.n = 2 → k < 3 → l.dest = .copies (k + 1) reg tok → exec .resultLand s = .next (posted
        (s.setCtx s.ev.cl s.ev.cx { c with
          inflight := rest ++ [Landing.scalarAt (s.now + 2) (.copies k reg tok) (l.lo ||| copy (k + 1)) 0] })
        (s.now + 2) .resultLand { EvArg.at s.ev.cl s.ev.cx 0 with n := 2 })) ∧
      (∀ d (h : BitVec 4), s.ev.n = 2 → l.dest = .query ((encode (.sysCtx d h)).getD 0) reg tok →
        reads (BitVec.ofNat 64 (s.sysCtxValue s.ev.cl s.ev.cx h.toNat))) ∧
      (s.ev.n = 0 → l.dest = .greg reg tok → l.tok = 0 → c.held = none →
        (NMap.get? c.await reg = some tok → exec .resultLand s = .next (s.setCtx s.ev.cl s.ev.cx
          (filled { c with inflight := rest } reg l.lo))) ∧
        (NMap.get? c.await reg ≠ some tok → exec .resultLand s = .next (s.setCtx s.ev.cl s.ev.cx
          { c with inflight := rest })))

/-- R122, R123, R210, R214, R217 to R221, R223, R361, R372: each waiting form blocks its context with its deadline and
operands, empties its destinations, and sends its request or is judged from cycle 6 on. Nothing else changes. That some
waits are judged from cycle to cycle is the model's choice (log 25). -/
def Obligations.WaitingForms : Prop :=
  ∀ (s : State) (a b c : BitVec 6) (e all : BitVec 1) (sc k : BitVec 2) (h q : BitVec 4), InBundle s →
    let g := operand s
    let d := deadlineBits (g c)
    let wait (kind : WaitKind) (i : Instr) (gval : Option (BitVec 6)) (ops : List W64) (e : BitVec 1) (sc : BitVec 2) : State :=
      waits s (waitOf s kind i c gval d ops e sc) c gval
    let judged (kind : WaitKind) (i : Instr) (gval : Option (BitVec 6)) (ops : List W64) (sc : BitVec 2) : Prop :=
      exec i s = .next (posted (wait kind i gval ops e sc) (s.now + 6) .waitComplete (here s s.uid))
    judged .wpwait (.cpyWpwait a c e sc h) none [g a] sc ∧ judged .fence (.fence a c e k sc) none [g a] sc ∧
    judged .qsend (.qsend a c e q) none [g a] 0 ∧ judged .qrecv (.qrecv b c e q) (some b) [] 0 ∧
    judged .launch (.launch a b c e) none [g a, g b] 2 ∧
    exec (.ctrRead a b c sc) s = .next (let t := wait .ctrRead (.ctrRead a b c sc) (some b) [g a, 0, 0] 0 sc
      sends t t.issueCtx (counterRequest s s.uid .ctrRead (g a) 0 0 sc d none)) ∧
    exec (.ctrWait a b c e sc) s = .next (let t := wait .ctrWait (.ctrWait a b c e sc) none [g a, g b, 0] e sc
      sends t t.issueCtx (counterRequest s s.uid .ctrWait (g a) (g b) 0 sc d none)) ∧
    exec (.ctrArw a c e sc) s = .next (
      let n := deadlineBits (g (a + 3))
      let t := waits s (waitOf s .ctrArw (.ctrArw a c e sc) c none n [g a, g (a + 1), g (a + 2)] e sc) c none
      sends t t.issueCtx (counterRequest s s.uid .ctrArw (g a) (g (a + 1)) (g (a + 2)) sc n none)) ∧
    exec (.reclaim a c e) s = .next (posted (wait .reclaim (.reclaim a c e) none [g a] e 0) (s.now + 6) .reclaimAtController
      { here s s.uid with n := 2, who := tagOf s }) ∧
    exec (.tlbInv a b c e all sc) s = .next (
      let w := waitOf s .tlbInv (.tlbInv a b c e all sc) c none d [g a, g b] e sc
      posted (waits s w c none) (s.now + 6) .tlbInvAtTlb { here s s.uid with
        who := tagOf s, v := g a, w := g b, m := (w.kword.extractLsb' 0 3).toNat, value := w.bpc.setWidth 128
        target := { who := tagOf s, target := if d = 0 then 1 else 0, image := 0, cctr := 0, after := w.covers } })

/-- R210, R216, R362: posted counter operations leave in cycle 6; with RET their register is empty until the answer. R211,
R212, R215: cpy.start makes its channel busy with its command, which begins in cycle 6 at the earliest, and the channel keeps
how the latest commands of other tasks ended that still run (R224); cpy.abort marks a command of the issuing task that runs or
is suspended with the cycle in which the first abort reaches it, and has no effect otherwise. -/
def Obligations.PostedOperations : Prop :=
  (∀ (s : State) (a b c : BitVec 6) (sc : BitVec 2), InBundle s →
    let g := operand s
    let s1 := { s with uid := s.uid + 1 }
    let plain (i : Instr) (k : AccKind) (sc : BitVec 2) : Prop :=
      exec i s = .next (sends s1 s.issueCtx (counterRequest s s.uid k (g a) (g b) 0 sc 0 none))
    let ret (i : Instr) (k : AccKind) : Prop :=
      exec i s = .next (sends s1 (emptied s.issueCtx c s.uid)
        (counterRequest s s.uid k (g a) (g b) 0 sc 0 (some (64 * s.uid + c.toNat))))
    plain (.ctrAdd a b c 0 sc) .ctrAdd sc ∧ plain (.ctrMax a b c 0 sc) .ctrMax sc ∧ plain (.ctrReset a b) .ctrReset 3 ∧
    ret (.ctrAdd a b c 1 sc) .ctrAdd ∧ ret (.ctrMax a b c 1 sc) .ctrMax) ∧
  (∀ (s : State) (a : BitVec 6) (h : BitVec 4), InBundle s →
    let g := operand s
    let was := nth (s.cluster s.issue.cl).chans h.toNat Channel.none
    (∃ t hist, exec (.cpyStart a h) s = .next t ∧
      (∀ x : Nat × Nat, x ∈ hist ↔ (x = (was.task, was.state) ∨ x ∈ was.hist ∧ x.1 ≠ was.task) ∧
        x.1 ≠ s.issueCtx.task ∧ x.2 ≠ 0 ∧ ∃ k, NMap.get? s.tasks x.1 = some k ∧ k.done = false) ∧
      (t.cluster s.issue.cl).chan h.toNat = some
        { state := 1, task := s.issueCtx.task, stage := s.issueCtx.stage, cmd := s.uid, who := tagOf s, ctxw := s.issueCtx.sctx, src := g a
          dst := g (a + 1), len := deadlineBits (g (a + 2)), cctr := g (a + 3), sc := (g (a + 2)).extractLsb' 32 2, wp := 0
          begun := false, abortAt := none, faultDst := false, faultVa := 0, after := earlierOf s, hist := hist
          unanswered := [], buf := [] } ∧
      (∀ j, j ≠ h.toNat → (t.cluster s.issue.cl).chan j = (s.cluster s.issue.cl).chan j) ∧
      t.ctxs = s.ctxs ∧ SameMemory s t ∧ t.agenda = (posted s (s.now + 6) .copyCommandBegin
        (EvArg.at s.issue.cl h.toNat s.uid)).agenda) ∧
    (∀ k, (s.cluster s.issue.cl).chan h.toNat = some k → k.task = s.issueCtx.task → k.state = 1 ∨ k.state = 2 →
      ∃ t, exec (.cpyAbort h) s = .next t ∧
        (t.cluster s.issue.cl).chan h.toNat = some { k with abortAt := some (k.abortAt.getD (s.now + 6)) } ∧
        t.ctxs = s.ctxs ∧ SameMemory s t ∧ Pends t .copySectorStep { EvArg.at s.issue.cl h.toNat k.cmd with m := 3 }) ∧
    ((∀ k, (s.cluster s.issue.cl).chan h.toNat = some k → k.task ≠ s.issueCtx.task ∨ k.state ≠ 1 ∧ k.state ≠ 2) →
      exec (.cpyAbort h) s = .next s))

/-- R210, R314, R346 to R349, R359, R360, R387, R390, R427: each privileged request of supervisor mode leaves for its
target and arrives after the path of its form; those with a result leave their register empty. Nothing else changes.
pwr.cfg of a domain without BIND is refused with PERM. The cycle in which err.clr acts, and the place where pwr.cfg is judged,
are the model's choices (logs 53, 58). -/
def Obligations.PrivilegedRequests : Prop :=
  ∀ (s : State) (a b c : BitVec 6), InBundle s →
    let g := operand s
    let u := s.issue
    let who := tagOf s
    let s1 := { s with uid := s.uid + 1 }
    let cl := ((g a).extractLsb' 3 7).toNat
    let arrives (cl : Nat) : Nat := s.now + (if cl = u.cl then 7 else 56 + 6 * hopsTo s (clusterStop cl))
    let arrive := arrives cl
    let target (i ev : Instr) (image cctr : W64) : Prop :=
      exec i s = .next (posted s arrive ev { here s 0 with
        target := { who := who, target := g a, image := image, cctr := cctr, after := earlierOf s } })
    let register (i : Instr) (t n : Nat) (w : W64) : Prop :=
      exec i s = .next (posted (withCtx s1 (emptied s.issueCtx c s.uid)) t .responseAtSlot
        { EvArg.zero with n := n, who := who, m := 64 * s.uid + c.toNat, v := g a, w := w, value := u.pc.setWidth 128 })
    let req (value : Option W64) (token : Nat) : EvArg := { here s 0 with
      domreq := { who := who, target := (g a).setWidth 8, value := value, token := token, bpc := u.pc } }
    let ctl := s.now + 56 + 6 * hopsTo s 0
    target (.ctxPark a) .ctxParkAtTarget 0 0 ∧ target (.ctxResume a) .ctxResumeAtTarget 0 0 ∧
    target (.ctxEvict a b c) .ctxEvictAtTarget (g b) (g c) ∧
    exec (.ctxLoad a b c) s = .next (posted s (arrives ((g b).extractLsb' 3 7).toNat) .ctxLoadPerform { here s 0 with
      target := { who := who, target := g b, image := g a, cctr := g c, after := earlierOf s } }) ∧
    register (.snapRead a b c) arrive 4 (g b) ∧ register (.errRead a c) (s.catAt (g a)) 5 0 ∧
    exec (.errClr a) s = .next (posted s (s.catAt (g a)) .responseAtSlot
      { here s 0 with n := 6, who := who, v := g a, value := u.pc.setWidth 128 }) ∧
    exec (.domSet a b) s = .next (posted s ctl .domainControllerRequest (req (some (g b)) 0)) ∧
    exec (.incAdv a c) s = .next (posted (withCtx s1 (emptied s.issueCtx c s.uid)) ctl .domainControllerRequest
      (req none (64 * s.uid + c.toNat))) ∧
    exec (.rcbBind a b) s = .next (posted (withCtx s1 { s.issueCtx with hold := some s.uid })
      (s.now + 31 + 3 * hopsTo s (dispatchStop ((g b).toNat % 4096))) .rcbBindAtDispatch
      { here s s.uid with bind := { who := who, addr := g a, region := (g b).toNat % 4096, bpc := u.pc } }) ∧
    (s.inLpddr (g a).toNat = true → exec (.frameRetire a) s = .next (posted s
      (s.now + 28 + 3 * hopsTo s (archiveStop ((g a).toNat / 2 ^ 37))) .frameRetireAtHome
      { here s 0 with n := archiveStop ((g a).toNat / 2 ^ 37), who := who, v := g a, value := u.pc.setWidth 128 })) ∧
    (s.inLpddr (g a).toNat = false → exec (.frameRetire a) s = .next (posted s
      (s.now + 28 + 3 * hopsTo s (clusterStop u.cl)) .frameRetireAtHome
      { here s 0 with n := clusterStop u.cl, who := who, v := g a, value := u.pc.setWidth 128 })) ∧
    (∀ die sel : Nat, die < 64 → g a = BitVec.ofNat 64 (die * 256 + sel) → sel < 256 →
      (sel = 1 ∧ 1 ≤ (g b).toNat ∧ (g b).toNat ≤ 2 ^ 40) ∨ (sel = 2 ∧ (g b).toNat ≤ 1024) ∨
        (sel = 3 ∧ 400 ≤ (g b).toNat ∧ (g b).toNat ≤ 490) →
      (s.domAt (clusterStop u.cl) who.dom).getLsbD 33 = true →
      exec (.pwrCfg a b) s = .next (posted s (s.now + 56 + 6 * hopsTo s (frondStop die)) .pwrCfgAtDie
        { here s 0 with n := die, m := sel, v := g b, who := who })) ∧
    ((s.domAt (clusterStop u.cl) who.dom).getLsbD 33 = false → exec (.pwrCfg a b) s = .next (posted s (s.now + 6) .deferredFault
      { here s 0 with n := 5, who := who, value := u.pc.setWidth 128 }))

/-! ### Counters and waits -/

namespace Sys2Proof.Claims

/-- An event is posted for a cycle. -/
def PendsAt (s : State) (time : Nat) (ev : Instr) (arg : EvArg) : Prop :=
  ∃ p ∈ s.agenda, p.ev = ev ∧ p.arg = arg ∧ p.time = time

/-- A counter operation that may be performed at once at its home: it is the event's, its counter's sector is clean and its
frame serves, it follows nothing and is current. -/
def AtCounter (s : State) (a : Access) (p : Piece) : Prop :=
  (s.ctx s.ev.cl s.ev.cx).accs.find? (fun x => x.id == s.ev.id && !x.performed) = some a ∧
    s.held s.ev.cl s.ev.cx a = false ∧ a.pieces.head? = some p ∧ s.currentWho (homeStop p.pa) a.who = true ∧
    inWindow p.pa = false ∧ (2 ^ 49 ≤ p.pa → (s.cluster ((p.pa - 2 ^ 49) / 2 ^ 23)).rows = []) ∧
    s.retiredAt p.pa = false ∧ ∀ x ∈ sectorsOf p.pa 8, NMap.getD s.syn x 0 = 0

/-- The waiters of a counter that a value meets have been completed with OK, and the others are still registered (R218). -/
def Completed (s t : State) (pa v : Nat) : Prop :=
  (∀ w ∈ s.waiters, w.pa = pa → w.thr.toNat ≤ v →
    Pends t .responseAtSlot { EvArg.zero with who := w.who, id := w.accId, status := 0, value := BitVec.ofNat 128 v }) ∧
  ∀ w, w ∈ s.waiters → (w.pa ≠ pa ∨ v < w.thr.toNat) → w ∈ t.waiters

/-- A wait has ended with a status: its context no longer waits and is offered to the arbiter unless it is parked, s.stat has
the status, and the register of the status dword, if it still awaits it, has the elapsed cycles, the detail and the status. A
register that awaits the wait's value has it after OK, and 0 with its expired bit after any other status (R125, R127, R129). The
access of the wait is over, but for the add of a ctr.arw that was never learnt to be performed, which stays outstanding (R108,
R130). No other register and nothing outside the context changes. -/
def WaitEnded (s t : State) (cl cx : Nat) (w : Wait) (st : Byte) (detail : Nat) (val : W64) : Prop :=
  let c := s.ctx cl cx
  let d := t.ctx cl cx
  d.wait = none ∧ SameRest { c with stat := st } d ∧ d.pc = c.pc ∧ d.parked = c.parked ∧ OthersAlone s t cl cx ∧
    (c.parked = false → Pends t .arbiterDecide (EvArg.at cl 0 0)) ∧
    (∀ b, b ∈ d.accs ↔ (b ∈ c.accs ∧ b.id ≠ w.id) ∨ (st = 6 ∧ ∃ a ∈ c.accs, a.id = w.id ∧ a.kind = .ctrArw ∧
      a.performed = false ∧ b = { a with kind := .ctrAdd })) ∧
    (∀ n, n ≠ w.gc → w.gval ≠ some n → nth d.g n 0 = nth c.g n 0 ∧ d.full.getLsbD n = c.full.getLsbD n ∧
      d.expd.getLsbD n = c.expd.getLsbD n) ∧
    (NMap.get? c.await w.gc = some w.tokC → w.gc < c.g.length → w.gval ≠ some w.gc →
      nth d.g w.gc 0 = BitVec.ofNat 32 (Min.min ((c.ccy s.now).toNat - w.s0) 0xFFFFFFFF) ++ 0#4 ++ BitVec.ofNat 20 detail ++ st ∧
      (w.gc < 64 → d.full.getLsbD w.gc = true ∧ d.expd.getLsbD w.gc = false)) ∧
    (∀ r, w.gval = some r → NMap.get? c.await r = some w.tokV → (r = w.gc → w.tokC ≠ w.tokV) → r < c.g.length →
      nth d.g r 0 = (if st = 0 then val else 0) ∧
      (r < 64 → d.full.getLsbD r = true ∧ d.expd.getLsbD r = decide (st ≠ 0)))

/-- The context of an event waits as given, and is not being evicted. -/
def WaitsHere (s : State) (w : Wait) : Prop :=
  let c := s.ctx s.ev.cl s.ev.cx
  c.wait = some w ∧ w.id = s.ev.id ∧ c.occ ≠ .evicting

/-- No expiry of a wait escalates: the wait does not ask for it, and the region of its task sets no limit on expiries (R133,
R134). -/
def NoEscalation (s : State) (c : Ctx) (w : Wait) : Prop := w.esc = false ∧ (s.streakOf c).1 = 0

/-- The queue of a wait's task that the wait names (R221). -/
def queueOf (s : State) (c : Ctx) (w : Wait) : Option StageQ :=
  ((NMap.get? s.tasks c.task).getD .none).queues[(w.kword.extractLsb' 0 4).toNat]?

/-- A wait that the cluster judges is not met yet, and may still be (R214, R220, R221): the write pointer of its own task's
command is below the operand while the command runs or is suspended; a selected class is not complete; the queue has no room, or
what the send releases is not performed, while its consumer has not ended; the queue has no token to give, or an acquire before
it is not performed, while its producer may still send. -/
def Unmet (s : State) (cl cx : Nat) (w : Wait) : Prop :=
  let c := s.ctx cl cx
  let ended := ((NMap.get? s.tasks c.task).getD .none).ended
  (w.kind = .wpwait ∧ ∃ k, (s.cluster cl).chan (w.kword.extractLsb' 0 4).toNat = some k ∧ k.task = c.task ∧
    k.wp < (nth w.ops 0 0).toNat ∧ (k.state = 1 ∨ k.state = 2)) ∨
  (w.kind = .fence ∧ ∃ i, i < 20 ∧ (nth w.ops 0 0).getLsbD i = true ∧ s.classDone cl cx i = false) ∨
  (w.kind = .qsend ∧ ∃ k, queueOf s c w = some k ∧ k.consumer ∉ ended ∧
    (k.depth ≤ k.tokens.length + (if k.popAt = s.now then 1 else 0) ∨ s.coversDone cl w.covers = false ∨
      s.startsDone cl cx = false)) ∨
  (w.kind = .qrecv ∧ ∃ k, queueOf s c w = some k ∧
    ((∃ at_ v rest, k.tokens = (at_, v) :: rest ∧ (s.now ≤ at_ ∨ c.acquiresDone w.covers = false)) ∨
      (k.tokens = [] ∧ (k.producer ∉ ended ∨ s.sending cl c.task k.producer = true))))

/-- What a wait finds when it is met or can no longer be, with the value it is given (R108, R131, R214, R220, R221): OK, or
DENIED where the channel is not its task's or its command is over below the operand, where the consumer of a queue has ended,
where the producer of an empty queue has. -/
def Met (s : State) (cl cx : Nat) (w : Wait) (st : Byte) (detail : Nat) (val : W64) : Prop :=
  let c := s.ctx cl cx
  let ended := ((NMap.get? s.tasks c.task).getD .none).ended
  let chan := (s.cluster cl).chan (w.kword.extractLsb' 0 4).toNat
  (w.kind = .wpwait ∧ val = 0 ∧ detail = 0 ∧
    ((st = 0 ∧ ∃ k, chan = some k ∧ k.task = c.task ∧ (nth w.ops 0 0).toNat ≤ k.wp) ∨
      (st = 7 ∧ ∀ k, chan = some k → k.task ≠ c.task ∨ k.wp < (nth w.ops 0 0).toNat ∧ k.state ≠ 1 ∧ k.state ≠ 2))) ∨
  (w.kind = .fence ∧ val = 0 ∧ detail = 2 ^ 20 - 1 ∧ st = 0 ∧
    ∀ i, i < 20 → (nth w.ops 0 0).getLsbD i = true → s.classDone cl cx i = true) ∨
  (w.kind = .qsend ∧ val = 0 ∧ detail = 0 ∧ st = 7 ∧ ∀ k, queueOf s c w = some k → k.consumer ∈ ended) ∨
  (w.kind = .qrecv ∧ val = 0 ∧ detail = 0 ∧ st = 7 ∧ ∀ k, queueOf s c w = some k →
    k.tokens = [] ∧ k.producer ∈ ended ∧ s.sending cl c.task k.producer = false)

/-- The status of a judged wait has been found: it is delivered in the next cycle. -/
def found (s : State) (w : Wait) (st : Byte) (detail : Nat) (val : W64) : State :=
  posted (s.setCtx s.ev.cl s.ev.cx { s.ctx s.ev.cl s.ev.cx with wait := some { w with rstat := some st } }) (s.now + 1)
    .waitComplete { s.ev with n := 1, status := st, m := detail, v := val }

/-- A queue of a task has become `k` (R221). -/
def withQueue (s : State) (task q : Nat) (k : StageQ) : State :=
  { s with tasks := NMap.modify s.tasks task .none (fun t => { t with queues := t.queues.set q k }) }

/-- The cancel of a wait has reached the counter's home: its waiter is gone, and no request of it waits for a window (R130). -/
def withdrawn (s : State) : State :=
  let e := s.ev
  { s with
    waiters := s.waiters.filter (fun w => !(w.accId == e.id && w.who == e.who))
    winWaiters := s.winWaiters.filter (fun w => !(w.accId == e.id && w.who == e.who))
    port := { s.port with flows := s.port.flows.map (fun f =>
      (f.1, { f.2 with waiting := f.2.waiting.filter (fun h => h.acc != .access e.cl e.cx e.id) })) } }

end Sys2Proof.Claims

/-- R111, R136, R216 to R219, R362: each counter operation at its home: the saturating add, the maximum, the read, the wait
that is met, registered, or answered at once when its deadline is 0, the add and wait, and the reset, which ends every
wait on the counter with RESET. Waiters that a new value meets are completed, and no other byte changes. -/
def Obligations.CounterAtHome : Prop :=
  ∀ (s : State) a p, AtCounter s a p →
    let old := valueAt s p.pa 8
    let v := a.data.toNat % 2 ^ 64
    let sum := Min.min (old + a.data.toNat) (2 ^ 64 - 1)
    let sets (v : Nat) (q : State → Prop) : Prop :=
      ∃ t, exec .counterOpAtHome s = .next t ∧ Stored s t p.pa 8 v ∧ Completed s t p.pa v ∧ t.port = s.port ∧ q t
    let waiter : Waiter := { pa := p.pa, thr := a.data.setWidth 64, who := a.who, accId := a.id, arw := false
                             trip := (s.trip s.ev.cl a).2 }
    (a.kind = .ctrAdd → sets sum (fun t => a.token ≠ none → Answers t a 0 (BitVec.ofNat 128 sum))) ∧
    (a.kind = .ctrMax → a.data.toNat = v →
      sets (Max.max old v) (fun t => a.token ≠ none → Answers t a 0 (BitVec.ofNat 128 (Max.max old v)))) ∧
    (a.kind = .ctrRead → ∃ t, exec .counterOpAtHome s = .next t ∧ SameMemory s t ∧ Answers t a 0 (BitVec.ofNat 128 old)) ∧
    (a.kind = .ctrWait → v ≤ old → ∃ t, exec .counterOpAtHome s = .next t ∧ SameMemory s t ∧ Answers t a 0 0) ∧
    (a.kind = .ctrWait → old < v → a.dl = 0 → ∃ t, exec .counterOpAtHome s = .next t ∧ SameMemory s t ∧ Answers t a 1 0) ∧
    (a.kind = .ctrWait → old < v → a.dl ≠ 0 → ∃ t, exec .counterOpAtHome s = .next t ∧ SameMemory s t ∧
      t.waiters = s.waiters ++ [waiter]) ∧
    (a.kind = .ctrArw → a.cmp.toNat ≤ sum → sets sum (fun t => Answers t a 0 0)) ∧
    (a.kind = .ctrArw → sum < a.cmp.toNat → a.dl = 0 → sets sum (fun t => Answers t a 8 0)) ∧
    (a.kind = .ctrArw → sum < a.cmp.toNat → a.dl ≠ 0 → sets sum (fun t =>
      { waiter with thr := a.cmp, arw := true } ∈ t.waiters)) ∧
    (a.kind = .ctrReset → ∃ t, exec .counterOpAtHome s = .next t ∧ Stored s t p.pa 8 a.data.toNat ∧
      t.waiters = s.waiters.filter (fun w => w.pa != p.pa) ∧
      ∀ w ∈ s.waiters, w.pa = p.pa →
        Pends t .responseAtSlot { EvArg.at w.who.cl w.who.cx w.accId with who := w.who, status := 2 })

/-- R122 to R131, R133, R214, R218 to R221: how waits end. A status that was found is delivered; a write-pointer wait, a fence and
the queue operations are judged in each cycle up to the deadline, with D = 0 once, and a token is appended or taken when they are
met; a launch sends its request when what it releases is performed. Past the deadline every form but reclaim ends with TIMEOUT, a
fence with PARTIAL and the classes complete at the deadline, a counter wait sends its cancel, and a ctr.arw stays blocked until
the cancel's answer. An escalating expiry parks the context with a DENIED record of its status. The wait of a stage that has issued
END delivers nothing. The cancel removes the waiter and tells a ctr.arw whether its add was performed; without the answer in
4,096 cycles the status is INDETERMINATE. The bound of a held bundle lets it go on. That a status found is delivered a cycle later
is the model's choice (log 25). -/
def Obligations.WaitsEnd : Prop :=
  ∀ (s : State),
    let e := s.ev
    let c := s.ctx e.cl e.cx
    (∀ w, WaitsHere s w →
      let q := (w.kword.extractLsb' 0 4).toNat
      let ends (i : Instr) (st : Byte) (detail : Nat) (val : W64) (and : State → Prop) : Prop :=
        c.occ ≠ .ended → NoEscalation s c w → ∃ t, exec i s = .next t ∧ WaitEnded s t e.cl e.cx w st detail val ∧ and t
      let cancel (a : Access) (t : State) : Prop :=
        PendsAt t (s.now + (s.trip e.cl a).1) .waitCancelAtHome { EvArg.at e.cl e.cx w.id with who := a.who }
      (e.n = 1 → ends .waitComplete e.status e.m e.v (fun _ => True)) ∧
      (e.n = 1 → c.occ ≠ .ended → c.parked = false → w.esc = true → e.status = 1 ∨ e.status = 5 ∨ e.status = 8 ∨ e.status = 9 →
        ∃ t, exec .waitComplete s = .next t ∧ (t.ctx e.cl e.cx).wait = none ∧ (t.ctx e.cl e.cx).stat = e.status ∧
          (t.ctx e.cl e.cx).parked = true ∧ (t.ctx e.cl e.cx).pc = c.pc ∧ (t.cluster e.cl).run ≠ some e.cx ∧
          (t.ctx e.cl e.cx).pend = inIssueOrder
            { ord := w.id, ctxw := c.sctx, cls := 12, slot := 7, engine := 5, bpc := w.bpc, npc := c.pc, cidx := 0
              esw := e.status.setWidth 64, addr := 0, rg := s.fieldsOf c } c.pend ∧
          Pends t .trapDelivery (EvArg.at e.cl e.cx 0) ∧ OthersAlone s t e.cl e.cx) ∧
      (e.n = 1 → c.occ = .ended → ∃ t, exec .waitComplete s = .next t ∧ (t.ctx e.cl e.cx).wait = none ∧
        t.agenda = s.agenda ∧ SameRegs c (t.ctx e.cl e.cx) ∧ OthersAlone s t e.cl e.cx) ∧
      (e.n ≠ 1 → w.kind ≠ .launch → w.d = 0 ∨ s.now < w.deadline →
        (∀ st detail val, Met s e.cl e.cx w st detail val → exec .waitComplete s = .next (found s w st detail val)) ∧
        (w.kind = .qsend → ∀ T k, NMap.get? s.tasks c.task = some T → queueOf s c w = some k → k.consumer ∉ T.ended →
          k.tokens.length + (if k.popAt = s.now then 1 else 0) < k.depth → s.coversDone e.cl w.covers = true →
          s.startsDone e.cl e.cx = true →
          exec .waitComplete s = .next (found (withQueue s c.task q { k with tokens := k.tokens ++ [(s.now, nth w.ops 0 0)] })
            w 0 0 0)) ∧
        (w.kind = .qrecv → ∀ T k at_ v rest, NMap.get? s.tasks c.task = some T → queueOf s c w = some k →
          k.tokens = (at_, v) :: rest → at_ < s.now → c.acquiresDone w.covers = true →
          exec .waitComplete s = .next (found (withQueue s c.task q { k with tokens := rest, popAt := s.now }) w 0 0 v)) ∧
        (Unmet s e.cl e.cx w → w.d ≠ 0 → exec .waitComplete s = .next (posted s (s.now + 1) .waitComplete e)) ∧
        (Unmet s e.cl e.cx w → w.d = 0 → exec .waitComplete s = .next
          (if w.kind = .fence then found s w 5 (s.fenceMask e.cl e.cx (nth w.ops 0 0)) 0 else found s w 1 0 0))) ∧
      (e.n ≠ 1 → w.kind ≠ .launch → w.d ≠ 0 → w.deadline ≤ s.now → exec .waitComplete s = .next s) ∧
      (e.n ≠ 1 → w.kind = .launch → w.sent = true → exec .waitComplete s = .next s) ∧
      (e.n ≠ 1 → w.kind = .launch → w.sent = false →
        let die := (nth w.ops 1 0).toNat % 4096 / 64
        let arrives := s.now + 25 + 3 * hops (clusterStop e.cl) (frondStop die)
        let ready := s.coversDone e.cl w.covers && s.startsDone e.cl e.cx
        exec .waitComplete s = .next (if ready = false then posted s (s.now + 1) .waitComplete e else
          posted (s.setCtx e.cl e.cx { c with wait := if c.occ = .ended then none else some { w with sent := true } }) arrives .launchEnqueue
            { EvArg.at e.cl e.cx w.id with
              who := c.who e.cl e.cx
              launch := { addr := nth w.ops 0 0, region := (nth w.ops 1 0).toNat, by_ := .task c.task, who := c.who e.cl e.cx
                          waitId := w.id, seq := 0, deadline := if w.d = 0 then 0 else w.deadline, arrived := arrives
                          dom := c.dom, inc := c.inc } })) ∧
      (e.n ≠ 1 → w.deadline < s.now →
        (w.kind = .ctrWait → ends .waitDeadlineExpire 1 0 0 (fun t =>
          w.d ≠ 0 → ∀ a, c.accs.find? (fun a => a.id == w.id) = some a → cancel a t)) ∧
        (w.kind = .ctrRead ∨ w.kind = .tlbInv ∨ w.kind = .qsend ∨ w.kind = .qrecv ∨ w.kind = .wpwait →
          ends .waitDeadlineExpire 1 0 0 (fun _ => True)) ∧
        (w.kind = .launch → ends .waitDeadlineExpire 1 0 0 (fun t =>
          t.launches = s.launches.filter (fun l => l.waitId != w.id))) ∧
        (w.kind = .fence → ends .waitDeadlineExpire 5 (w.mask.getD (s.fenceMask e.cl e.cx (nth w.ops 0 0))) 0 (fun _ => True)) ∧
        (w.kind = .reclaim → exec .waitDeadlineExpire s = .next s) ∧
        (w.kind = .ctrArw → ∃ t, exec .waitDeadlineExpire s = .next t ∧ OthersAlone s t e.cl e.cx ∧
          t.ctx e.cl e.cx = { c with wait := some { w with cancelSent := true } } ∧
          (∀ a, c.accs.find? (fun a => a.id == w.id) = some a → cancel a t) ∧
          PendsAt t (Max.max (w.deadline + 4097) s.now) .arwIndeterminate (EvArg.at e.cl e.cx w.id))) ∧
      ends .arwIndeterminate 6 0 0 (fun _ => True)) ∧
    (∀ w, c.wait = some w → w.id = e.id → e.n = 1 → exec .waitDeadlineExpire s = .next (s.setCtx e.cl e.cx
      { c with wait := some { w with mask := some (s.fenceMask e.cl e.cx (nth w.ops 0 0)) } })) ∧
    ((e.n ≠ 1 ∧ ∀ w, c.wait = some w → w.id ≠ e.id ∨ s.now ≤ w.deadline ∨ c.occ = .evicting) →
      exec .waitDeadlineExpire s = .next s) ∧
    ((∀ w, c.wait = some w → w.id ≠ e.id) →
      exec .waitComplete s = .next s ∧ exec .arwIndeterminate s = .next s) ∧
    (c.accs.find? (fun a => a.id == e.id) = none →
      exec .waitCancelAtHome s = .next { s with waiters := (withdrawn s).waiters, winWaiters := (withdrawn s).winWaiters }) ∧
    (∀ a, c.accs.find? (fun a => a.id == e.id) = some a →
      let replies (st : Byte) (t : State) : Prop := exec .waitCancelAtHome s = .next (posted t (s.now + (s.trip e.cl a).1)
        .responseAtSlot { EvArg.at e.cl e.cx e.id with who := e.who, status := st, m := 1 })
      (a.kind ≠ .ctrArw → a.performed = true → exec .waitCancelAtHome s = .next (withdrawn s)) ∧
      (a.kind ≠ .ctrArw → a.performed = false → exec .waitCancelAtHome s = .next
        ((withdrawn s).setCtx e.cl e.cx { c with accs := c.accs.filter (fun b => b.id != e.id) })) ∧
      (a.kind = .ctrArw → a.performed = true → replies 8 (withdrawn s)) ∧
      (a.kind = .ctrArw → a.performed = false → s.sentOut e.cl e.cx e.id = true → exec .waitCancelAtHome s = .next
        { withdrawn s with winWaiters :=
            { who := a.who, accId := a.id, pa := 0, thr := 0, cancelled := true } :: (withdrawn s).winWaiters }) ∧
      (a.kind = .ctrArw → a.performed = false → s.sentOut e.cl e.cx e.id = false →
        replies 9 ((withdrawn s).setCtx e.cl e.cx { c with
          accs := c.accs.map (fun b => if b.id = e.id then { b with performed := true, left := true } else b) }))) ∧
    (∀ h, c.held = some h → c.occ = .resident → h.since + h.budget < s.now →
      let t := s.setCtx e.cl e.cx { c with held := none, heldEnd := 2, readyAt := s.now }
      exec .mdlExpire s = .next (if c.parked then t else posted t s.now .arbiterDecide (EvArg.at e.cl 0 0))) ∧
    ((∀ h, c.held = some h → c.occ ≠ .resident ∨ s.now ≤ h.since + h.budget) → exec .mdlExpire s = .next s)

/-! ### Requests, walks, traps, the sequencer -/

namespace Sys2Proof.Claims

/-- A trap has been taken by a context: its record waits among those before it, in the issue order of their causes, the context
is parked at its boundary and off the sequencer, a delivery is posted, and no register and no byte of memory changes (R330, R339,
R341). -/
def TrapTaken (s t : State) (cl cx : Nat) (r : TrapRec) : Prop :=
  (t.ctx cl cx).pend = inIssueOrder r (s.ctx cl cx).pend ∧ (t.ctx cl cx).parked = true ∧ (t.ctx cl cx).pc = (s.ctx cl cx).pc ∧
    ((s.ctx cl cx).parked = false → (t.cluster cl).run ≠ some cx) ∧ Pends t .trapDelivery (EvArg.at cl cx 0) ∧
    SameRegs (s.ctx cl cx) (t.ctx cl cx) ∧ OthersAlone s t cl cx ∧ t.tasks = s.tasks

/-- A record of a context with the window offset of its next bundle as NPC and no command word; `ord` is the operation that
caused it (R340, R341). -/
def recordOf (s : State) (c : Ctx) (ord cls slot engine : Nat) (bpc : BitVec 30) (esw addr : W64) : TrapRec :=
  { ord := ord, ctxw := c.sctx, cls := cls, slot := slot, engine := engine, bpc := bpc, npc := c.pc, cidx := 0, esw := esw
    addr := addr, rg := s.fieldsOf c }

/-- Every entry that a walk reads lies in clean sectors of frames that serve, the directory's included where the device has no
copy of it (R374, R380). -/
def CleanWalk (s : State) (d : BitVec 8) (va : Nat) : Prop :=
  ∀ a ∈ s.walkReads d va, a < 2 ^ 48 ∧ ∀ x ∈ sectorsOf a 8, NMap.getD s.syn x 0 = 0 ∧ s.retiredAt (32 * x) = false

/-- The walk that ends is nobody else's: no other miss that it would serve has a step due (R370). -/
def LoneWalk (s : State) : Prop :=
  ∀ p ∈ s.agenda, p.ev = .tableWalk → p.time ≤ s.now → p.arg.sameWalk s.ev = false ∧ p.arg.sameBlock s.ev = false

end Sys2Proof.Claims

/-- R87, R107, R203, R209, R369 to R373: an access of the cluster's own scratchpad arrives there 7 cycles after it
leaves; one whose page no buffer holds starts a walk, or shares the one that its die makes for that page; a walk that finds the
page brings it to the access, which goes on at once, and one that does not has the access fault with XLATE; a deferred fault
takes its trap and ends the access, which changes no byte. The engine of a deferred record is the model's reading (log 24). -/
def Obligations.RequestsOnTheirWay : Prop :=
  ∀ (s : State) (a : Access),
    let e := s.ev
    let c := s.ctx e.cl e.cx
    a.who.cl = e.cl → a.who.cx = e.cx → a.kind.counter = false → a.kind ≠ .pf →
    (∀ p, c.accs.find? (fun x => x.id == e.id && !x.left) = some a → space a.va ≠ 0 → a.pieces = [p] → 2 ^ 49 ≤ p.pa →
      2 ^ 62 ≤ a.va.toNat → (p.pa - 2 ^ 49) / 2 ^ 23 = e.cl →
      ∃ t, exec .requestLeavesCluster s = .next t ∧ SameMemory s t ∧ t.tasks = s.tasks ∧
        PendsAt t (s.now + 7) .accessAtHome { EvArg.at e.cl e.cx a.id with who := a.who }) ∧
    (∀ v n rest, c.accs.find? (fun x => x.id == e.id && !x.left) = some a → space a.va = 0 →
      (pageParts a.va.toNat (a.kind.size a.size)).drop a.pieces.length = (v, n) :: rest →
      tlbFind (nth (s.cluster e.cl).tlbs 0 []) a.who.dom v = none → tlbFind (s.frond (e.cl / 2)).tlb2 a.who.dom v = none →
      let walk : EvArg :=
        { EvArg.zero with cl := e.cl, n := 0, who := a.who, dom := a.who.dom, v := BitVec.ofNat 64 v
                          walker := .access e.cl e.cx e.id, id := 0, w := 0 }
      ((∀ p ∈ s.agenda, p.ev = .tableWalk → p.arg.sameWalk walk = false ∧
          (p.arg.sameBlock walk = false ∨ ∀ x, s.walkLeaf a.who.dom v = some x → x.block = false)) →
        exec .requestLeavesCluster s = .next (posted s
          (s.walkFrom (e.cl / 2) + s.walkCost (frondStop (e.cl / 2)) a.who.dom v) .tableWalk { walk with status := 1 })) ∧
      (∀ p ∈ s.agenda, p.ev = .tableWalk → p.arg.sameWalk walk = true →
        ∃ q ∈ s.agenda, q.ev = .tableWalk ∧ (q.arg.sameWalk walk = true ∨ q.arg.sameBlock walk = true) ∧
          exec .requestLeavesCluster s = .next (posted s (Max.max q.time s.now) .tableWalk walk))) ∧
    (∀ x v n rest, LoneWalk s → e.walker = .access e.cl e.cx e.id → c.accs.find? (fun x => x.id == e.id && !x.left) = some a →
      s.currentWho (frondStop (e.cl / 2)) e.who = true → CleanWalk s e.dom e.v.toNat →
      (s.walk e.dom e.v.toNat).2 = some x →
      (pageParts a.va.toNat (a.kind.size a.size)).drop a.pieces.length = (v, n) :: rest →
      ∃ t, exec .tableWalk s = .next t ∧ SameMemory s t ∧ Pends t .requestLeavesCluster (EvArg.at e.cl e.cx e.id) ∧
        ∃ b ∈ (t.ctx e.cl e.cx).accs, b.id = a.id ∧
          b.pieces = a.pieces ++ [{ pa := (x.entry e.dom e.v.toNat).pa v, len := n, leaf := x.leaf }]) ∧
    (LoneWalk s → e.walker = .access e.cl e.cx e.id → c.accs.find? (fun x => x.id == e.id) = some a →
      s.currentWho (frondStop (e.cl / 2)) e.who = true → CleanWalk s e.dom e.v.toNat →
      (s.walk e.dom e.v.toNat).2 = none →
      ∃ t, exec .tableWalk s = .next t ∧ SameMemory s t ∧
        Pends t .deferredFault { EvArg.at e.cl e.cx a.id with n := 4, who := a.who }) ∧
    (c.tagged e.who = true → c.occ = .resident → c.parked = false → e.id ≠ 0 → a.token = none →
      c.accs.find? (fun x => x.id == e.id) = some a → c.wait = none → c.held = none →
      ∃ t, exec .deferredFault s = .next t ∧ SameMemory s t ∧ (∀ b ∈ (t.ctx e.cl e.cx).accs, b.id ≠ e.id) ∧
        (t.ctx e.cl e.cx).lq = c.lq.map (fun x =>
          if x.id = e.id ∧ x.state = .waiting then { x with state := .denied, value := 0 } else x) ∧
        (t.ctx e.cl e.cx).pend = inIssueOrder (recordOf s c a.id e.n a.slot.toNat 1 a.bpc 0 a.va) c.pend ∧
        (t.ctx e.cl e.cx).parked = true ∧ Pends t .trapDelivery (EvArg.at e.cl e.cx 0))

/-- R22, R28, R329, R340, R341, R383: the stop of a context whose segment is over its bound or has failed its closing test,
and a stop that another unit asks for, are taken at the context's boundary with their records; the record of a checked segment
has its count and its CRC, and its test is not made again. A stop without a class parks the context and leaves no record. Work
of a stage that has issued END has no context to stop: its failure is noted for the task, with DENIED, or POISON for poison. A
stop that names a stage which has left its slot does nothing. -/
def Obligations.StopsAtBoundary : Prop :=
  ∀ (s : State),
    let e := s.ev
    let c := s.ctx e.cl e.cx
    let cause := if e.id = 0 then s.uid else e.id
    (∃ t, exec .segmentOverrun s = .next t ∧ (t.ctx e.cl e.cx).seg.tested = (c.seg.tested || e.m == 1) ∧
      TrapTaken s t e.cl e.cx (recordOf s c s.uid e.n 0 0 c.pc
        (if c.seg.chk then BitVec.ofNat 16 (s.segCount e.cl e.cx) ++ c.seg.crc |>.setWidth 64 else 0) 0)) ∧
    (c.tagged e.who = true → c.occ ≠ .ended → e.n ≠ 0 →
      ∃ t, exec .contextStop s = .next t ∧
        TrapTaken s t e.cl e.cx (recordOf s c cause e.n (e.m / 16) (e.m % 16) (e.value.setWidth 30) e.v e.w)) ∧
    (c.tagged e.who = true → c.occ ≠ .ended → e.n = 0 →
      ∃ t, exec .contextStop s = .next t ∧ (t.ctx e.cl e.cx).parked = true ∧ (t.ctx e.cl e.cx).pend = c.pend ∧
        (t.ctx e.cl e.cx).pc = c.pc ∧ (c.parked = false → (t.cluster e.cl).run ≠ some e.cx) ∧
        SameRegs c (t.ctx e.cl e.cx) ∧ OthersAlone s t e.cl e.cx ∧ t.tasks = s.tasks) ∧
    (∀ k, c.tagged e.who = true → c.occ = .ended → c.parked = false → NMap.get? s.tasks c.task = some k →
      exec .contextStop s = .next { s with
        tasks := NMap.set s.tasks c.task { k with fail := (if e.n = 6 then 4 else 7) :: k.fail } }) ∧
    (c.tagged e.who = true → c.occ = .ended → c.parked = true → exec .contextStop s = .next s) ∧
    (c.tagged e.who = false → exec .contextStop s = .next s)

namespace Sys2Proof.Claims

/-- What a die's agents find for an address: what the die's second-level buffer holds, or, where it holds nothing, what a walk
over clean entries reads (R369, R380). -/
def Finds (s : State) (die : Nat) (d : BitVec 8) (va : Nat) (x : Xlat) : Prop :=
  match tlbFind (s.tlb2 die) d va with
  | some t => x = { pa := t.pa va, leaf := t.leaf, block := t.block }
  | none => CleanWalk s d va ∧ (s.walk d va).2 = some x

/-- Two addresses are found side by side: both held or both walked for, or the entry that is walked for neither displaces nor
hides the one that is held. -/
def FindsBoth (s : State) (die : Nat) (d : BitVec 8) (va vb : Nat) (x y : Xlat) : Prop :=
  Finds s die d va x ∧ Finds s die d vb y ∧
    ((tlbFind (s.tlb2 die) d va).isSome = (tlbFind (s.tlb2 die) d vb).isSome ∨
      (s.tlb2 die).length < 8192 ∧ (x.entry d va).maps d vb = false ∧ (y.entry d vb).maps d va = false)

/-- Bytes lie in clean sectors of LPDDR frames that serve. -/
def CleanAt (s : State) (a n : Nat) : Prop :=
  s.retiredAt a = false ∧ ∀ x ∈ sectorsOf a n, NMap.getD s.syn x 0 = 0 ∧ s.retiredAt (32 * x) = false

end Sys2Proof.Claims

/-- R262, R340, R341: the delivery of a record: its eight dwords go to entry (counter mod 64) of the trap area of its region, 1
is added to the trap counter, the record no longer waits, and no other byte changes. The record of a stream fault names the cores
that have reported by then; every other is delivered as it was taken. A record of a task that no region holds, or whose counter
page does not serve, is not written. -/
def Obligations.TrapRecordDelivered : Prop :=
  ∀ (s : State) (r : TrapRec) (rest : List TrapRec),
    let e := s.ev
    let c := s.ctx e.cl e.cx
    let w := c.streamRecord r
    c.pend = r :: rest →
    (r.engine ≠ 3 ∨ r.cidx = 0 → w = r) ∧
    (r.rg = none → ∃ t, exec .trapDelivery s = .next t ∧ (t.ctx e.cl e.cx).pend = rest ∧ SameRegs c (t.ctx e.cl e.cx) ∧
      SameMemory s t) ∧
    ∀ (rg : Region) (xc xa : Xlat), r.rg = some rg →
      FindsBoth s (e.cl / 2) rg.dom rg.trapc.toNat rg.trapa.toNat xc xa →
      (leafC xc.leaf = false → ∃ t, exec .trapDelivery s = .next t ∧ (t.ctx e.cl e.cx).pend = rest ∧ SameMemory s t) ∧
      let n := valueAt s xc.pa 8
      let area := xa.pa + 64 * (n % 64)
      (leafW xc.leaf = true → leafC xc.leaf = true → leafW xa.leaf = true → leafC xa.leaf = false →
        inWindow xc.pa = false → inWindow xa.pa = false → rg.trapc.toNat % 8 = 0 →
        CleanAt s area 64 → CleanAt s xc.pa 8 → (xc.pa + 8 ≤ area ∨ area + 64 ≤ xc.pa) → n < 2 ^ 64 - 1 →
        ∃ t, exec .trapDelivery s = .next t ∧ (t.ctx e.cl e.cx).pend = rest ∧ SameRegs c (t.ctx e.cl e.cx) ∧
          valueAt t area 8 = n ∧ valueAt t (area + 8) 8 = r.ctxw.toNat ∧
          (r.cls < 32 → r.slot < 16 → r.engine < 16 →
            valueAt t (area + 16) 8 = r.cls * 2 ^ 32 + r.slot * 2 ^ 28 + r.engine * 2 ^ 24) ∧
          valueAt t (area + 24) 8 = r.bpc.toNat ∧ valueAt t (area + 32) 8 = r.npc.toNat ∧
          valueAt t (area + 40) 8 = r.cidx.toNat ∧ valueAt t (area + 48) 8 = w.esw.toNat ∧
          valueAt t (area + 56) 8 = w.addr.toNat ∧ valueAt t xc.pa 8 = n + 1 ∧
          ∀ x, ¬(area ≤ x ∧ x < area + 64) → ¬(xc.pa ≤ x ∧ x < xc.pa + 8) → memGet t.mem x = memGet s.mem x)

/-- R23, R199, R232, R325, R433: the arbiter gives an idle sequencer to the only ready context and to none when none is ready;
the context issues once its owed STALL cycles, and 16 cycles from another context's tile access, have passed; the instruction cache takes a line's 64 bytes as memory holds them. -/
def Obligations.SequencerGiven : Prop :=
  ∀ (s : State),
    let e := s.ev
    let k := s.cluster e.cl
    (k.run = none → (∀ p ∈ s.agenda, p.ev = .arbiterDecide ∧ p.time ≤ s.now ∨ p.ev ≠ .arbiterDecide ∧ s.now < p.time) →
      (∀ x, x < 8 → (s.ctx e.cl x).ready = true → (∀ y, y < 8 → y ≠ x → (s.ctx e.cl y).ready = false) →
        ∃ t, exec .arbiterDecide s = .next t ∧ (t.cluster e.cl).run = some x ∧ (t.ctx e.cl x).begun = true ∧
          (t.ctx e.cl x).owed = (s.ctx e.cl x).owed ∧
          (t.ctx e.cl x).nextIssue = Max.max (Max.max (s.ctx e.cl x).nextIssue (s.now + (s.ctx e.cl x).owed))
            (match k.tileAt with
              | some at_ => if k.tileCx = x then 0 else at_ + 16
              | none => 0) ∧ SameRegs (s.ctx e.cl x) (t.ctx e.cl x) ∧ (t.ctx e.cl x).pc = (s.ctx e.cl x).pc ∧
          SameMemory s t ∧ t.agenda = s.agenda) ∧
      ((∀ y, y < 8 → (s.ctx e.cl y).ready = false) →
        ∃ t, exec .arbiterDecide s = .next t ∧ (t.cluster e.cl).run = none ∧ t.ctxs = s.ctxs ∧ SameMemory s t)) ∧
    (k.run ≠ none → exec .arbiterDecide s = .next s) ∧
    ((s.ctx e.cl e.cx).tagged e.who = true → e.m = 3 → s.currentWho (homeStop e.n) e.who = true → e.n < 2 ^ 48 →
      (∀ x ∈ sectorsOf e.n 64, NMap.getD s.syn x 0 = 0 ∧ s.retiredAt (32 * x) = false) →
      ∃ t rest, exec .icacheLineFill s = .next t ∧ SameMemory s t ∧ (t.cluster e.cl).lines =
        { pkt := s.packetOf (s.ctx e.cl e.cx), off := e.v.toNat
          bytes := (List.range 64).map (fun i => memGet s.mem (e.n + i)) } :: rest ∧
        rest = k.lines.take 1023)

/-! ### Targets, images, copies -/

/-- R330, R335, R346, R347, R348, R350: park stops its target at its boundary without a record; resume lets a parked
target go on, or with TERM ends its stage; an eviction stops its target, cancels what it has registered elsewhere, keeps the budget
of its wait, and holds it for the drain, then frees the slot and notes the stage as evicted; a load of a context image brings it,
parked, into the slot with its registers. That an eviction waits for the drain of every access is the model's reading (log 54). -/
def Obligations.TargetsAndImages : Prop :=
  ∀ (s : State),
    let e := s.ev
    let r := e.target
    let cl := targetCl r.target
    let cx := targetCx r.target
    let c := s.ctx cl cx
    let ok : Prop := s.currentWho (clusterStop cl) r.who = true ∧ s.targetFault r.target r.who.dom false = 0
    let okTerm : Prop := s.currentWho (clusterStop cl) r.who = true ∧ s.targetFault r.target r.who.dom true = 0
    (ok → c.parked = false → ∃ t, exec .ctxParkAtTarget s = .next t ∧ (t.ctx cl cx).parked = true ∧
      (t.ctx cl cx).pend = c.pend ∧ (t.ctx cl cx).pc = c.pc ∧ SameRegs c (t.ctx cl cx) ∧
      (t.cluster cl).run ≠ some cx ∧ SameMemory s t) ∧
    (okTerm → c.occ = .resident → c.parked = true → r.target.getLsbD 10 = false →
      ∃ t, exec .ctxResumeAtTarget s = .next t ∧ (t.ctx cl cx).parked = false ∧ (t.ctx cl cx).pc = c.pc ∧
        (t.ctx cl cx).wait = c.wait ∧ Pends t .arbiterDecide (EvArg.at cl 0 0) ∧ SameMemory s t ∧
        (t.ctx cl cx).g = c.g ∧ (t.ctx cl cx).snap = c.snap) ∧
    (okTerm → c.occ = .resident → c.parked = true → r.target.getLsbD 10 = true → c.pend = [] → c.lastCls ≠ 6 →
      ∃ t, exec .ctxResumeAtTarget s = .next t ∧ (t.ctx cl cx).occ = .ended ∧ (t.ctx cl cx).snap = [] ∧
        (∀ k, NMap.get? s.tasks c.task = some k → ∃ k', NMap.get? t.tasks c.task = some k' ∧ 7 ∈ k'.fail) ∧
        Pends t .taskEnd (EvArg.at cl cx c.task) ∧ SameMemory s t) ∧
    (ok → e.n = 0 → c.occ = .resident → r.image.toNat % 65536 = 0 →
      let kind := if (s.task c).othersGone c.stage then 1 else 0
      (s.evictPages r (s.task c) kind).1.isSome = true →
      (∀ o, o < imageSize kind (s.task c).tfr (s.task c).nsh (s.task c).tsp → o % 65536 = 0 →
        CleanWalk s r.who.dom (r.image.toNat + o)) →
      ∃ t, exec .ctxEvictAtTarget s = .next t ∧ (t.ctx cl cx).occ = .evicting ∧ (t.ctx cl cx).parked = true ∧
        (t.ctx cl cx).wait = c.wait.map (fun w => { w with deadline := w.deadline - s.now, rstat := none }) ∧
        (∀ w a, c.wait = some w → w.kind = .ctrWait ∨ w.kind = .ctrArw ∨ w.kind = .ctrRead → w.cancelSent = false →
          c.accs.find? (fun a => a.id == w.id) = some a →
          Pends t .waitCancelAtHome { EvArg.at cl cx w.id with who := a.who }) ∧
        SameRegs c (t.ctx cl cx) ∧ SameMemory s t ∧
        PendsAt t (s.now + 1) .ctxEvictAtTarget { e with n := 1, who := c.who cl cx }) ∧
    (∀ k, e.n = 1 → c.occ = .evicting → c.tagged e.who = true → s.drainedForEviction cl cx = true →
      s.othersFreed cl cx = true → NMap.get? s.tasks c.task = some k → k.uid = c.task → k.othersGone c.stage = false →
      s.currentWho (clusterStop cl) (c.who cl cx) = true → (s.evictPages r k 0).1.isSome = true →
      ∃ t k', exec .ctxEvictAtTarget s = .next t ∧ (t.ctx cl cx).occ = .free ∧ (t.ctx cl cx).serial = c.serial ∧
        NMap.get? t.tasks c.task = some k' ∧ (wbits c.sctx 63 32, c.stage, c.inc) ∈ k'.evicted) ∧
    (∀ s1 s2 s3 ps1 ps2 ps3 tk tk',
      let s1' := s1.settleListed (imageKey ps1 0) 256
      let h := ImageHead.ofBytes (s1'.getPart ps1 0 256)
      let s4 := s3.readImage r.who cl ps3 { index := 0, nsh := 0, tsp := 0, tfr := 0, sbase := 0, tstg := 0 } tk.uid
      s.currentWho (clusterStop cl) r.who = true → s.coversDone r.who.cl r.after = true →
      s.loadPages r 256 0 = (some ps1, s1) → h.kind = 0 → s1'.loadPages r imageBase 0 = (some ps2, s2) →
      (s2.loadConditions r { pages := ps2 } h { index := 0, nsh := 0, tsp := 0, tfr := 0, sbase := 0, tstg := 0 }).find?
        (·.2) = none →
      s2.loadPages r h.size 0 = (some ps3, s3) → s3.taskOfImage h = some tk → s4.taskOfImage h = some tk' →
      ∃ t, exec .ctxLoadPerform s = .next t ∧ (t.ctx cl cx).occ = .resident ∧ (t.ctx cl cx).parked = true ∧
        (t.ctx cl cx).serial = c.serial + 1 ∧ (t.ctx cl cx).task = tk'.uid ∧ (t.ctx cl cx).pc = h.pc ∧
        (t.ctx cl cx).pbase = h.pbase ∧ (t.ctx cl cx).g = s4.imgs { pages := ps3 } 0x100 64)

/-- R90, R91, R117, R212, R215, R342: a copy command whose ranges and counter are in order begins; one that fails a check
ends as failed with PERM, and one with a page that does not translate is suspended there with WP = 0; with LEN = 0 it is done. A
sector step moves its bytes and no other, and advances WP, the last one ending the command as done; a suspended channel whose
address translates again goes on; an abort ends a running command at the next step after it and a suspended one at once, with WP
as it is. That a step moves what is left of one sector is the model's choice (log 32). -/
def Obligations.CopySteps : Prop :=
  ∀ (s : State) (k : Channel),
    let e := s.ev
    let tk := (NMap.get? s.tasks k.task).getD .none
    let d := k.dst.toNat + k.wp
    let len := Min.min (32 - d % 32) (k.len - k.wp)
    let chan (t : State) : Option Channel := (t.cluster e.cl).chan e.cx
    s.command e.cl e.cx e.id = some k → s.currentWho (clusterStop e.cl) k.who = true →
    (e.m ≠ 1 → (∀ t, k.abortAt = some t → s.now < t) → s.coversDone e.cl k.after = true →
      let k' : Channel := { k with wp := 0, begun := true, state := 1, buf := [] }
      let x := s.cctrOk e.cl e.cx k
      let inOrder := copyRangeOk tk k.src k.len && copyRangeOk tk k.dst k.len && x.1
      let src := x.2.checkRange e.cl e.cx k' false k.src k.src
      let dst := src.1.checkRange e.cl e.cx k' true k.dst k.dst
      let becomes (c : Channel) : Prop := ∃ t, exec .copyCommandBegin s = .next t ∧ chan t = some c
      (inOrder = true → src.2 = .ok → dst.2 = .ok → k.len ≠ 0 →
        ∃ t, exec .copyCommandBegin s = .next t ∧ chan t = some k' ∧ t.ctxs = s.ctxs ∧ t.mem = dst.1.mem ∧
          (k.cctr = 0 → space k.src ≠ 0 → space k.dst ≠ 0 → SameMemory s t) ∧
          PendsAt t (s.now + 1) .copySectorStep { e with m := 0 }) ∧
      (inOrder = true → src.2 = .ok → dst.2 = .ok → k.len = 0 → becomes { k' with state := 3, abortAt := none }) ∧
      (inOrder = false → becomes { k with state := 5, abortAt := none, wp := 0, begun := true, buf := [] }) ∧
      (inOrder = true → src.2 = .perm ∨ dst.2 = .perm → becomes { k' with state := 5, abortAt := none }) ∧
      (∀ va, inOrder = true → src.2 = .xlate va → dst.2 ≠ .perm →
        becomes { k' with begun := false, state := 2, faultDst := false, faultVa := BitVec.ofNat 64 va }) ∧
      (∀ va, inOrder = true → src.2 = .ok → dst.2 = .xlate va →
        becomes { k' with begun := false, state := 2, faultDst := true, faultVa := BitVec.ofNat 64 va })) ∧
    (∀ p q, (∀ t, k.abortAt = some t → s.now ≤ t) → e.m = 0 → k.state = 1 → k.begun = true → k.wp < k.len →
      space (BitVec.ofNat 64 (k.src.toNat + k.wp)) ≠ 0 → space (BitVec.ofNat 64 d) ≠ 0 →
      localPiece tk e.cl (BitVec.ofNat 64 (k.src.toNat + k.wp)) len = [p] → localPiece tk e.cl (BitVec.ofNat 64 d) len = [q] →
      2 ^ 48 ≤ p.pa → 2 ^ 48 ≤ q.pa → (p.pa + len ≤ q.pa ∨ q.pa + len ≤ p.pa) → (∀ cl, (s.cluster cl).rows = []) →
      (∀ x, x ∈ sectorsOf p.pa len ∨ x ∈ sectorsOf q.pa len → NMap.getD s.syn x 0 = 0) →
      s.currentWho (homeStop p.pa) k.who = true → s.currentWho (homeStop q.pa) k.who = true →
      (space k.src = 2 → s.pageHeld p.pa k.who = true ∧ s.pageHeld (p.pa + len - 1) k.who = true) →
      (space k.dst = 2 → s.pageHeld q.pa k.who = true) → k.cctr = 0 →
      ∃ t k', exec .copySectorStep s = .next t ∧ chan t = some k' ∧ k'.wp = k.wp + len ∧
        k'.state = (if k.wp + len = k.len then 3 else 1) ∧
        (k.wp + len ≠ k.len → Pends t .copySectorStep e) ∧
        ∀ x, memGet t.mem x = if q.pa ≤ x ∧ x < q.pa + len then memGet s.mem (p.pa + (x - q.pa)) else memGet s.mem x) ∧
    (∀ a, e.m ≠ 3 → k.abortAt = some a → a < s.now → k.state = 1 → k.begun = true → k.cctr = 0 →
      ∃ t, exec .copySectorStep s = .next t ∧ chan t = some { k with state := 4, abortAt := none } ∧ SameMemory s t) ∧
    (e.m = 3 → k.state = 2 → k.cctr = 0 →
      ∃ t, exec .copySectorStep s = .next t ∧ chan t = some { k with state := 4, abortAt := none } ∧ SameMemory s t) ∧
    (e.m = 3 → k.state = 1 → exec .copySectorStep s = .next s) ∧
    (∀ x, e.m = 0 → k.state = 2 → (s.chanXlat e.cl e.cx k.who k.faultVa.toNat).1 = some x →
      CleanWalk s k.who.dom k.faultVa.toNat → s.reaches { pa := x.pa, len := 1, leaf := x.leaf } = true →
      ∃ t, exec .copyTranslationRetry s = .next t ∧ chan t = some { k with state := 1 } ∧ SameMemory s t ∧
        (k.begun = true → PendsAt t s.now .copySectorStep (EvArg.at e.cl e.cx e.id)) ∧
        (k.begun = false → PendsAt t s.now .copyCommandBegin { EvArg.at e.cl e.cx e.id with m := 1 }))

/-! ### Packets and tasks -/

/-- R24, R27, R31, R223, R318, R319: a launch that is in order enters its region's queue and is answered, and one that
is denied enters none; one that finds the queue full waits, or times out with no deadline to wait for; an invalid packet ends
DENIED with no failed task; a packet with dependences is polled, again every 512 cycles, becomes eligible when they are met in
time, and runs no task when its deadline passes; a placed task waits in its cluster's queue; a complete packet writes its
status word, adds to its counter and is gone. In which domain a packet's addresses are translated is the model's reading
(log 47). -/
def Obligations.PacketsAtDispatch : Prop :=
  ∀ (s : State),
    let e := s.ev
    let l := e.launch
    (∀ uid, l.by_ = .task uid → e.n = 0 →
      (∀ p ∈ s.agenda, p.ev = .launchEnqueue → p.time ≤ s.now → p.arg.n = 0 → p.arg.launch.region = l.region →
        l.rank ≤ p.arg.launch.rank) →
      let u := s.touchRange (l.who.cl / 2) l.dom l.addr 128
      let room : Prop := s.queueLen l.region < 256 ∧ ∀ x ∈ s.launches, x.region ≠ l.region
      (s.current (dispatchStop l.region) l.dom l.inc = false →
        exec .launchEnqueue s = .next (s.dropStale (dispatchStop l.region) l.dom l.inc l.addr.toNat)) ∧
      (s.current (dispatchStop l.region) l.dom l.inc = true →
        (u.launchDenied l = true → exec .launchEnqueue s = .next (u.answerLaunch l 7)) ∧
        (u.launchDenied l = false → room → s.inTime l = true → ∃ t p, exec .launchEnqueue s = .next t ∧
          NMap.get? t.packets s.uid = some p ∧
          p.uid = s.uid ∧ p.region = l.region ∧ p.addr = l.addr ∧ p.by_ = l.by_ ∧ p.dom = l.dom ∧ p.order = s.now ∧
          Pends t .responseAtSlot { EvArg.zero with n := 2, id := l.waitId, who := l.who, status := 0 } ∧ t.mem = u.mem) ∧
        (u.launchDenied l = false → ¬room → l.deadline = 0 → exec .launchEnqueue s = .next (u.answerLaunch l 1)) ∧
        (u.launchDenied l = false → ¬room → l.deadline ≠ 0 →
          exec .launchEnqueue s = .next { u with launches := insertLaunch l u.launches }))) ∧
    (∀ p, NMap.get? s.packets e.id = some p → p.uid = e.id →
      (∀ s1 p1, p.phase = .reading → s.readPacket p = (s1, p1, none) → p1.uid = p.uid → p1.deps ≠ [] →
        ∃ t, exec .packetRead s = .next t ∧ NMap.get? t.packets p.uid = some { p1 with phase := .polling } ∧
          Pends t .dependencePoll { EvArg.zero with id := p.uid } ∧
          (p1.ddl ≠ 0 → PendsAt t (Max.max (p1.order + p1.ddl.toNat + 1) s1.now) .dependenceTimeout
            { EvArg.zero with id := p.uid })) ∧
      (∀ s1 p1 why, p.phase = .reading → s.readPacket p = (s1, p1, some why) → p1.uid = p.uid →
        (∀ x ∈ s1.launches, x.region ≠ p1.region) →
        ∃ t q', exec .packetRead s = .next t ∧ NMap.get? t.packets p.uid = some q' ∧ q'.phase = .done ∧
          q'.status = Max.max p1.status 7 ∧ q'.nfail = 0 ∧ Pends t .packetComplete { EvArg.zero with id := p.uid }) ∧
      (let r := s.readDeps p
       let q := { p with deps := r.2 }
       let inTime : Prop := p.ddl = 0 ∨ s.now ≤ p.order + p.ddl.toNat
       p.phase = .polling →
        (inTime → q.deps.all (·.2.2) = true → ∀ g, r.1.region p.region = some g →
          State.unmetNeed { r.1 with packets := NMap.set r.1.packets p.uid q } q g = none →
          ∃ t, exec .dependencePoll s = .next t ∧ NMap.get? t.packets p.uid = some { q with phase := .eligible }) ∧
        (inTime → q.deps.all (·.2.2) = false → p.ddl ≠ 0 → ∃ t, exec .dependencePoll s = .next t ∧
          NMap.get? t.packets p.uid = some q ∧ PendsAt t (r.1.now + 512) .dependencePoll r.1.ev) ∧
        (¬inTime → exec .dependencePoll s = .next s) ∧
        ((∀ x ∈ s.launches, x.region ≠ p.region) → ∃ t q', exec .dependenceTimeout s = .next t ∧
          NMap.get? t.packets p.uid = some q' ∧ q'.phase = .done ∧
          q'.status = Max.max p.status 1 ∧ q'.nfail = p.total ∧ Pends t .packetComplete { EvArg.zero with id := p.uid })) ∧
      (∀ xs xc, p.ctl.getLsbD 0 = false → s.committing p.uid = false → p.usable = true →
        let dom := s.packetDom p
        FindsBoth s (dispatchDie p.region) dom p.stw.toNat p.cctr.toNat xs xc →
        (∀ a ∈ s.walkReads dom p.cctr.toNat, a + 8 ≤ xs.pa ∨ xs.pa + 8 ≤ a) →
        globalOk p.stw = true → p.stw.toNat % 8 = 0 → p.stw.toNat + 8 ≤ 2 ^ 52 → leafDeviceW xs.leaf = true →
        s.inLpddrN xs.pa 8 = true → CleanAt s xs.pa 8 → CleanAt s xc.pa 8 →
        wbits p.cctr 63 52 = 0 → p.cctr.toNat % 8 = 0 → leafW xc.leaf = true → leafC xc.leaf = true →
        inWindow xc.pa = false → (xc.pa + 8 ≤ xs.pa ∨ xs.pa + 8 ≤ xc.pa) →
        ∃ t, exec .packetComplete s = .next t ∧ NMap.get? t.packets p.uid = none ∧
          valueAt t xs.pa 8 = (p.nfail % 2 ^ 32 * 2 ^ 32 + p.rtry * 2 ^ 20 + p.code * 2 ^ 8 + p.status) % 2 ^ 64 ∧
          valueAt t xc.pa 8 = Min.min (valueAt s xc.pa 8 + (p.cinc.toNat + if p.status = 0 then 0 else 2 ^ 48)) (2 ^ 64 - 1) ∧
          ∀ x, ¬(xs.pa ≤ x ∧ x < xs.pa + 8) → ¬(xc.pa ≤ x ∧ x < xc.pa + 8) → memGet t.mem x = memGet s.mem x)) ∧
    (∀ p g, s.placeable e.n = [(p, g)] → entryValid (s.domAt (frondStop e.n) g.dom) = true → p.nextTask + 1 < p.total →
      NMap.get? s.packets p.uid = some p →
      let cl := g.clusterOf p.nextTask
      ∃ t k, exec .taskPlace s = .next t ∧ NMap.get? t.tasks s.uid = some k ∧ k.pkt = p.uid ∧ k.index = p.nextTask ∧
        k.cluster = cl ∧ k.region = p.region ∧ k.dom = g.dom ∧ k.rg = some g ∧ k.nstg = p.nstg ∧ k.queues = p.queues ∧ k.holds = false ∧
        (t.cluster cl).queue = (s.cluster cl).queue ++ [{ uid := s.uid, level := g.pri }] ∧
        NMap.get? t.packets p.uid = some { p with nextTask := p.nextTask + 1 } ∧ Pends t .taskPlace e ∧ SameMemory s t)

/-- R18, R19, R20, R22, R34, R92, R320: a task that needs no more than its cluster has free starts, and a re-run starts with what
it holds: its scratchpad pages and its staging run read as zero and no other byte changes; its stages start together in the lowest
free slots, each with the registers of R18: the entry point of its stage, the packet's argument, its task, grid point and stage,
and zero elsewhere. R28, R31: a task whose stages have ended and of whose work nothing remains is done, and its packet counts it,
its failures and its completion code. That the code of a failed task does not count is the model's choice (log 93). -/
def Obligations.StageEntry : Prop :=
  ∀ (s : State),
    let e := s.ev
    let cl := e.cl
    (∀ (q : Placed) (tk : Sys2Proof.Machine.Task) (p : Packet) (j x sp sb : Nat), cl < 128 → (s.cluster cl).head = some q →
      NMap.get? s.tasks q.uid = some tk → tk.uid = q.uid → tk.cluster = cl →
      (tk.holds = true ∧ sp = tk.spbase ∧ sb = tk.sbase ∨
        tk.holds = false ∧ s.fitCluster tk tk.region cl = some sp ∧
          s.stagingRun ((tk.rg.map (·.slmask)).getD 0) tk.tstg = some sb ∧
          (s.commitUnits ((tk.rg.map (·.slmask)).getD 0) tk.csb sb tk.tstg).isSome = true ∧
          s.stagingBudget tk.region (tk.tstg + tk.csb) = true) →
      NMap.get? s.packets tk.pkt = some p → (s.cluster cl).rows = [] → (s.cluster cl).withdrawn = false →
      tk.nstg ≤ (s.freeSlots cl).length → entryValid (s.domAt (clusterStop cl) tk.dom) = true → j < tk.nstg →
      (s.freeSlots cl)[j]? = some x →
      ∃ t, exec .taskStart s = .next t ∧ (t.cluster cl).queue = (s.cluster cl).queue.erase q ∧
        (∀ a,
          let scrubbed : Prop :=
            (∃ k, k < 4 ∧ scratchKey cl k (sp * 16384) ≤ a ∧ a < scratchKey cl k (sp * 16384) + tk.tsp * 16384) ∨
              (2 ^ 48 + sb ≤ a ∧ a < 2 ^ 48 + sb + tk.tstg * 65536)
          (scrubbed → memGet t.mem a = 0) ∧ (¬scrubbed → memGet t.mem a = memGet s.mem a)) ∧
        let c := t.ctx cl x
        let grid := BitVec.ofNat 64 (tk.index / (p.gx * p.gy) * 2 ^ 32 + tk.index / p.gx % p.gy * 2 ^ 16 + tk.index % p.gx)
        c.occ = .resident ∧ c.parked = false ∧ c.task = tk.uid ∧ c.serial = (s.ctx cl x).serial + 1 ∧
        c.pc = nth p.entries j 0 ++ 0#2 ∧ c.pbase = p.pbase ∧ c.arg = p.arg ∧ c.grid = grid ∧
        c.g = [p.arg, BitVec.ofNat 64 tk.index, grid, BitVec.ofNat 64 j] ++ List.replicate 60 0 ∧
        c.full = BitVec.allOnes 64 ∧ c.expd = 0 ∧ c.await = [] ∧ (∀ i, 0 < i → c.p.getLsbD i = false) ∧
        c.lx = List.replicate 6 0 ∧ c.loops = [] ∧ c.links = [] ∧ c.lq = [] ∧
        c.alu0 = .zero ∧ c.alu1 = .zero ∧ c.prd = .zero ∧ c.mul = .zero ∧
        c.lsu = { o := 0, o2 := 0, dl := 0, sc := 0, cmp := 0, hi := 0 } ∧
        (∀ k, k < 4 → ∃ y, c.cores[k]? = some y ∧ y.v = List.replicate 16 .zero ∧ y.k = [0, 0, 0] ∧ y.sq = [] ∧ y.fflg = 0) ∧
        c.claims = 0 ∧ c.ccy s.now = 0 ∧ c.stat = 0 ∧ c.fflg = 0 ∧ c.rrb = 0 ∧ c.scc = 0 ∧ c.mdl = 65535 ∧
        (∀ rg, tk.rg = some rg → c.sl = BitVec.ofNat 5 rg.nomm) ∧ c.seed = 0 ∧ c.key0 = 0 ∧ c.key1 = 0 ∧
        c.draw = 0 ∧ c.seg.bound = tk.ymax ∧ c.seg.count = 0 ∧
        (c.sctx.extractLsb' 32 32).toNat = tk.index % 2 ^ 32) ∧
    (∀ (tk : Sys2Proof.Machine.Task) (p : Packet), NMap.get? s.tasks e.id = some tk → tk.uid = e.id →
      s.freeEnded tk.cluster = s → s.taskOver tk = true → s.rerunGranted tk = false → (s.cluster tk.cluster).rows = [] →
      NMap.get? s.packets tk.pkt = some p → p.uid = tk.pkt →
      let fail := if tk.poisoned then 4 :: tk.fail else tk.fail
      ∃ t k, exec .taskEnd s = .next t ∧ NMap.get? t.tasks e.id = some k ∧ k.done = true ∧ k.holds = false ∧ k.fail = fail ∧
        NMap.get? t.packets p.uid = some { p with
          finished := p.finished + 1, rtry := Max.max p.rtry tk.reruns
          code := if fail = [] then Max.max p.code tk.code else p.code
          nfail := if fail = [] then p.nfail else p.nfail + 1, status := fail.foldl Max.max p.status } ∧
        SameMemory s t ∧ t.ctxs = s.ctxs)

/-! ### Domains, regions, translations -/

namespace Sys2Proof.Claims

/-- Cycle in which an answer of the port die reaches a cluster (R87, R361). -/
def fromPort (s : State) (cl : Nat) : Nat := s.now + (22 + 3 * hops 0 (clusterStop cl))

/-- An entry is on its way to the 81 stops, each after its trip over the ring (R353). -/
def Broadcast (s t : State) (d : BitVec 8) (e : W64) : Prop :=
  ∀ k, k < 81 → PendsAt t (s.now + (22 + 3 * hops 0 k)) .domainUpdateAtStop { EvArg.zero with n := k, dom := d, v := e }

/-- A change of the master table and its broadcast; no copy, context or byte changes before the broadcast arrives. -/
def MasterSet (s t : State) (d : BitVec 8) (e : W64) : Prop :=
  t.port = { s.port with doms := NMap.set s.port.doms d.toNat e } ∧ Broadcast s t d e ∧ t.copies = s.copies ∧
    t.ctxs = s.ctxs ∧ SameMemory s t

/-- The domain controller may take a request up: it has arrived, or waited, none waits before it, and none is being
broadcast (R353). -/
def ControllerFree (s : State) : Prop :=
  ∀ p ∈ s.agenda, (p.ev = .domainControllerRequest → p.arg.n = 0) ∧ (p.ev = .reclaimAtController → p.arg.n ≠ 3)

/-- A refused operation of the domain controller: PERM with its code at the issuer, and nothing changes (R209, R359). -/
def RefusedDomain (s t : State) (w : Who) (code : Nat) (d : BitVec 8) (bpc : BitVec 30) (token : Nat) (st : Byte) : Prop :=
  t.port = s.port ∧ t.copies = s.copies ∧ t.ctxs = s.ctxs ∧ SameMemory s t ∧
    PendsAt t (fromPort s w.cl) .deferredFault { EvArg.at w.cl w.cx 0 with
      n := 5, who := w, v := d.setWidth 64, w := BitVec.ofNat 64 code, value := bpc.setWidth 128, m := token, status := st }

/-- Fields of an entry other than its incarnations. -/
def sameRights (a b : W64) : Prop :=
  entryValid a = entryValid b ∧ entrySupv a = entrySupv b ∧ entryMode a = entryMode b ∧ entryBind a = entryBind b

end Sys2Proof.Claims

/-- R352, R353, R357 to R360: dom.set and inc.adv at the domain controller: what the entry becomes, the broadcast, the
refusals with their codes, BUSY, and the answer with WM, the old and the new CUR; the update at a stop changes that
stop's copy alone, and where the incarnation has passed, its waiters and contexts there are gone. -/
def Obligations.DomainTable : Prop :=
  ∀ (s : State),
    let e := s.ev
    let r := e.domreq
    let old := NMap.getD s.port.doms r.target.toNat 0
    let issuer := r.who.dom
    let refused (code : Nat) : Prop := ∃ t, exec .domainControllerRequest s = .next t ∧
      RefusedDomain s t r.who code r.target r.bpc r.token 0
    let inUse : Prop := (∃ x ∈ s.regions, x.2.dom = r.target) ∨ ∃ x ∈ s.tasks, x.2.dom = r.target ∧ x.2.done = false
    (e.n = 0 ∨ e.n = 2 → ControllerFree s → s.currentWho 0 r.who = true →
      (∀ v, r.value = some v →
        let clean : Prop := wbits v 19 10 = 0 ∧ wbits v 63 48 = 0 ∧ wbits v 39 34 = 0 ∧ wbits v 30 20 = 0
        (¬clean → refused 1) ∧
        (clean → entryValid old = true → entrySupv old ≠ issuer ∨ r.target = issuer → refused 2) ∧
        (clean → entryValid old = false → entrySupv v ≠ issuer ∨ r.target = issuer → refused 2) ∧
        (clean → entryValid old = false → entrySupv v = issuer → r.target ≠ issuer → entryValid v = false → refused 4) ∧
        (clean → entryValid old = true → entrySupv old = issuer → r.target ≠ issuer → entryValid v = false →
          inUse ∨ entryWm old ≠ entryCur old → refused 3) ∧
        (clean → entryValid old = true → entrySupv old = issuer → r.target ≠ issuer →
          entryValid v = true ∨ ¬inUse ∧ entryWm old = entryCur old →
          ∃ t new, exec .domainControllerRequest s = .next t ∧ MasterSet s t r.target new ∧ sameRights new v ∧
            entryCur new = entryCur old ∧ entryWm new = entryWm old) ∧
        (clean → entryValid old = false → entrySupv v = issuer → r.target ≠ issuer → entryValid v = true →
          ∃ t new, exec .domainControllerRequest s = .next t ∧ MasterSet s t r.target new ∧ sameRights new v ∧
            entryCur new = entryCur v ∧ entryWm new = entryCur v)) ∧
      (r.value = none →
        (entryValid old = false ∨ entrySupv old ≠ issuer ∨ r.target = issuer → refused 2) ∧
        (entryValid old = true → entrySupv old = issuer → r.target ≠ issuer → entryCur old + 1 ≠ entryWm old →
          ∃ t new, exec .domainControllerRequest s = .next t ∧ MasterSet s t r.target new ∧ sameRights new old ∧
            entryCur new = entryCur old + 1 ∧ entryWm new = entryWm old ∧
            PendsAt t (s.now + 284) .domainControllerRequest { EvArg.at r.who.cl r.who.cx 0 with
              n := 1, domreq := r, v := 0#34 ++ entryWm old ++ entryCur old ++ (entryCur old + 1) }) ∧
        (entryValid old = true → entrySupv old = issuer → r.target ≠ issuer → entryCur old + 1 = entryWm old →
          exec .domainControllerRequest s = .next (posted s (fromPort s r.who.cl) .responseAtSlot
            { EvArg.zero with n := 1, who := r.who, m := r.token
                              value := (0#32 ++ 1#2 ++ entryWm old ++ entryCur old ++ entryCur old).setWidth 128 })))) ∧
    (e.n = 1 → r.value = none → exec .domainControllerRequest s = .next (posted s (fromPort s r.who.cl) .responseAtSlot
      { EvArg.zero with n := 1, who := r.who, m := r.token, value := e.v.setWidth 128 })) ∧
    (let copy := s.domAt e.n e.dom
     let past (i : BitVec 10) : Prop := (entryValid e.v && entryCur e.v == i) = false
     (∀ cl, cl < 128 → clusterStop cl = e.n → (s.cluster cl).rows = []) →
     (entryValid copy = false ∨ entryCur copy = entryCur e.v →
       exec .domainUpdateAtStop s = .next { s with copies := NMap.set s.copies (256 * e.n + e.dom.toNat) e.v }) ∧
     (entryValid copy = true → entryCur copy ≠ entryCur e.v → ∃ t, exec .domainUpdateAtStop s = .next t ∧
       t.copies = NMap.set s.copies (256 * e.n + e.dom.toNat) e.v ∧
       (∀ w ∈ t.waiters, w ∈ s.waiters ∧ ¬(homeStop w.pa = e.n ∧ w.who.dom = e.dom ∧ past w.who.inc)) ∧
       ∀ cl cx, cl < 128 → cx < 8 → clusterStop cl = e.n → (s.ctx cl cx).occ = .resident → (s.ctx cl cx).dom = e.dom →
         past (s.ctx cl cx).inc → (t.ctx cl cx).occ ≠ .resident))

/-- R353, R358, R361: a reclaim captures C0 when it arrives, is registered with the 81 stops in its turn, is answered
by each stop once it holds nothing older, sets WM to C0 after the last answer, and ends PARTIAL with the count and the
lowest of the missing stops at its deadline. The cycle of the OK is the model's reading (log 56). -/
def Obligations.ReclaimSteps : Prop :=
  ∀ (s : State),
    let e := s.ev
    let m := NMap.getD s.port.doms e.dom.toNat 0
    (e.n = 0 → (∀ p ∈ s.agenda, (p.ev = .domainControllerRequest → p.arg.n ≠ 2) ∧ (p.ev = .reclaimAtController → p.arg.n ≠ 3)) →
      s.currentWho 0 e.who = true →
      (entryValid m = true → entrySupv m = e.who.dom → e.dom ≠ e.who.dom → ∃ t, exec .reclaimAtController s = .next t ∧
        t.port = { s.port with reclaims := s.port.reclaims ++ [{
          rid := s.uid, who := e.who, waitId := e.id, dom := e.dom, c0 := entryCur m, once := e.m == 0
          deadline := (BitVec.ofNat 64 s.now).toNat + e.v.toNat, answered := [], nonzero := [], active := false }] } ∧
        PendsAt t s.now .reclaimAtController { EvArg.zero with n := 1, id := s.uid } ∧
        (e.m ≠ 0 → Pends t .reclaimDeadline { EvArg.zero with id := s.uid }) ∧ t.ctxs = s.ctxs ∧ SameMemory s t) ∧
      (entryValid m = false ∨ entrySupv m ≠ e.who.dom ∨ e.dom = e.who.dom → ∃ t, exec .reclaimAtController s = .next t ∧
        RefusedDomain s t e.who 2 e.dom (e.value.setWidth 30) 0 1)) ∧
    (∀ r, s.port.reclaims.find? (fun r => r.rid == e.id) = some r →
      (e.n = 1 → (∀ x ∈ s.port.reclaims, x.dom = r.dom → r.rid ≤ x.rid) → ∃ t, exec .reclaimAtController s = .next t ∧
        (∀ k, k < 81 → PendsAt t (s.now + (22 + 3 * hops 0 k)) .reclaimStopAnswer { EvArg.zero with id := e.id, n := k }) ∧
        t.port = { s.port with
          reclaims := s.port.reclaims.map (fun x => if x.rid = e.id then { x with active := true } else x) }) ∧
      (let older := s.holdsAny e.n (fun d i => d == r.dom && olderThan r.c0 (entryWm (NMap.getD s.port.doms r.dom.toNat 0)) i)
       let tells (n : Nat) : Prop := exec .reclaimStopAnswer s =
         .next (posted s (s.now + (22 + 3 * hops 0 e.n)) .reclaimStopAnswer { e with m := n })
       (e.m = 0 → older = false → tells 1) ∧ (e.m = 0 → older = true → r.once = true → tells 2) ∧
       (e.m = 0 → older = true → r.once = false →
         exec .reclaimStopAnswer s = .next (posted s (s.now + 1) .reclaimStopAnswer e))) ∧
      (e.m = 1 → r.answered.length < 80 → ∃ t, exec .reclaimStopAnswer s = .next t ∧ t.port.doms = s.port.doms ∧
        { r with answered := e.n :: r.answered } ∈ t.port.reclaims) ∧
      (e.m = 1 → r.answered.length = 80 → r.nonzero = [] → ∃ t new, exec .reclaimStopAnswer s = .next t ∧
        entryWm new = r.c0 ∧ entryCur new = entryCur (NMap.getD s.port.doms r.dom.toNat 0) ∧
        sameRights new (NMap.getD s.port.doms r.dom.toNat 0) ∧ Broadcast s t r.dom new ∧
        t.port.doms = NMap.set s.port.doms r.dom.toNat new ∧
        t.port.reclaims = s.port.reclaims.filter (fun x => x.rid != e.id) ∧
        PendsAt t (fromPort s r.who.cl + 284) .responseAtSlot { EvArg.zero with n := 2, id := r.waitId, who := r.who }) ∧
      (∀ lo rest, (List.range 81).filter (fun k => !r.answered.contains k) = lo :: rest →
        ∃ t, exec .reclaimDeadline s = .next t ∧ t.port.doms = s.port.doms ∧
          t.port.reclaims = s.port.reclaims.filter (fun x => x.rid != e.id) ∧
          PendsAt t (fromPort s r.who.cl) .responseAtSlot { EvArg.zero with
            n := 2, id := r.waitId, who := r.who, status := 5, v := BitVec.ofNat 64 (rest.length + 1 + 128 * lo) })) ∧
    (s.port.reclaims.find? (fun r => r.rid == e.id) = none →
      exec .reclaimDeadline s = .next s ∧ exec .reclaimStopAnswer s = .next s)

/-- R311 to R314, R369, R372, R373: rcb.bind at its dispatch unit: a control block that meets every condition gives the
region its fields, one that fails a condition changes no region and comes back as PERM with its number, and an address
of 0 unbinds an idle region. R123, R374: tlb.inv: once what it follows is performed it goes to the buffers in its scope, which
lose exactly the entries it covers, and ALL at device scope also to the device's copy of the directory entry; each place answers
when what could use an entry is over, with D = 0 also with TIMEOUT where that is not so at once; after the last answer the wait
ends OK. That an invalidation waits for what could use an entry is the model's reading
(log 55). -/
def Obligations.BindAndInvalidate : Prop :=
  ∀ (s : State),
    let e := s.ev
    let b := e.bind
    let at_ := dispatchStop b.region
    let back := s.now + (25 + 3 * hops (clusterStop b.who.cl) at_)
    let may := entryBind (s.domAt at_ b.who.dom)
    let granted (t : State) : Prop := PendsAt t back .responseAtSlot { EvArg.zero with n := 3, id := e.id, who := b.who }
    (s.currentWho at_ b.who = true →
      (∀ s1 bs, b.addr ≠ 0 → b.addr.toNat % 64 = 0 →
        s.readVirtual (dispatchDie b.region) b.who.dom b.addr 128 = (s1, some bs) →
        let w := dwordsOf 16 bs
        let x (n : Nat) : W64 := nth w n 0
        let g := resolveRcb w (if (x 0).getLsbD 0 then none else s1.region (wbits (x 0) 31 16))
        let looks (va : W64) (n : Nat) (s : State) : State := s.touchRange (dispatchDie b.region) g.dom va n
        let s2 := looks g.wdenc 8 (looks g.trapc 8 (looks g.trapa 4096 s1))
        ((s2.bindConditions w b.region may).find? (·.2) = none → ∃ t, exec .rcbBindAtDispatch s = .next t ∧ granted t ∧
          t.mem = s2.mem ∧ t.region b.region = some g ∧ (∀ n, n ≠ b.region → t.region n = s1.region n) ∧
          ((x 0).getLsbD 0 = true → g.parent = none ∧ g.dom = (x 1).extractLsb' 16 8 ∧ g.cmask = x 3 ++ x 2 ∧
            g.trapa = x 9 ∧ g.trapc = x 10 ∧ g.ymax = ((x 1).extractLsb' 32 16).toNat)) ∧
        (∀ n, (s2.bindConditions w b.region may).find? (·.2) = some (n, true) →
          ∃ t, exec .rcbBindAtDispatch s = .next t ∧ t.regions = s1.regions ∧ PendsAt t back .deferredFault
            { EvArg.at b.who.cl b.who.cx 0 with
              n := 5, who := b.who, v := b.addr, w := BitVec.ofNat 64 n, value := b.bpc.setWidth 128 })) ∧
      (b.addr = 0 → may = true → (s.region b.region).isSome → (∀ p ∈ s.packets, p.2.region ≠ b.region) →
        (∀ l ∈ s.launches, l.region ≠ b.region) → (∀ k ∈ s.tasks, k.2.region ≠ b.region ∨ k.2.done = true) →
        (∀ g ∈ s.regions, g.2.parent ≠ some b.region) →
        ∃ t, exec .rcbBindAtDispatch s = .next t ∧ granted t ∧ t.region b.region = none ∧
          (∀ n, n ≠ b.region → t.region n = s.region n) ∧ SameMemory s t)) ∧
    (s.currentWho at_ b.who = false → ∃ t, exec .rcbBindAtDispatch s = .next t ∧ t.regions = s.regions ∧ SameMemory s t) ∧
    (let dom := e.v.extractLsb' 56 8
     let lo := (e.v.extractLsb' 16 36).toNat
     let hi := lo + (e.w.toNat - 1) / 2 ^ 16
     let gone (x : TlbEntry) : Bool :=
       x.dom == dom && (e.m / 4 == 1 || decide (x.vpn ≤ hi) && decide (lo ≤ if x.block then x.vpn + 8191 else x.vpn))
     let kept (l : List TlbEntry) : List TlbEntry := l.filter (fun x => !gone x)
     let home := clusterStop e.cl
     let once (s : State) (trip : Nat) : State := if e.target.target = 1 ∧ e.status = 0 then
       posted s (s.now + trip + 1) .responseAtSlot { EvArg.zero with n := 2, id := e.id, who := e.who, status := 1 } else s
     (e.n = 0 → s.currentWho home e.who = true → dom = e.who.dom ∨ s.supervises home e.who.dom dom = true →
       (s.coversDone e.cl e.target.after = true →
         ∃ t, exec .tlbInvAtTlb s = .next t ∧ t.ctxs = s.ctxs ∧ SameMemory s t ∧
           (e.m % 4 = 0 → PendsAt t s.now .tlbInvAtTlb { e with n := 66, status := 0 }) ∧
           (e.m % 4 = 1 → PendsAt t s.now .tlbInvAtTlb { e with n := 1 + e.cl / 2, status := 0 }) ∧
           (2 ≤ e.m % 4 → ∀ k, k ≤ 64 → Pends t .tlbInvAtTlb { e with n := 1 + k, status := 0 }) ∧
           (e.m / 4 = 1 → 2 ≤ e.m % 4 → t.dirs = NMap.erase s.dirs dom.toNat) ∧
           (e.m / 4 ≠ 1 ∨ e.m % 4 < 2 → t.dirs = s.dirs)) ∧
       (s.coversDone e.cl e.target.after = false →
         exec .tlbInvAtTlb s = .next (posted (once s 0) (s.now + 1) .tlbInvAtTlb { e with status := 1 }))) ∧
     (∀ k, e.n = 1 + k → k < 64 → ∃ t, exec .tlbInvAtTlb s = .next t ∧ t.ctxs = s.ctxs ∧ SameMemory s t ∧
       (t.frond k).tlb2 = kept (s.frond k).tlb2 ∧
       (∀ cl, (t.cluster cl).tlbs = if cl / 2 = k then (s.cluster cl).tlbs.map kept else (s.cluster cl).tlbs) ∧
       t.port = s.port ∧ Pends t .tlbInvAtTlb { e with n := 101 + k, target := { e.target with cctr := BitVec.ofNat 64 s.uid } }) ∧
     (e.n = 65 → ∃ t, exec .tlbInvAtTlb s = .next t ∧ t.port = { s.port with tlb2 := kept s.port.tlb2 } ∧
       t.clusters = s.clusters ∧ t.fronds = s.fronds) ∧
     (e.n = 66 → ∃ t, exec .tlbInvAtTlb s = .next t ∧ t.port = s.port ∧ t.fronds = s.fronds ∧
       ∀ cl, (t.cluster cl).tlbs = if cl = e.cl then (s.cluster cl).tlbs.map kept else (s.cluster cl).tlbs) ∧
     (∀ k, e.n = 101 + k → k < 100 →
       exec .tlbInvAtTlb s = .next (
         if s.siteDone (.of e.v e.w (e.m / 4 == 1)) k e.cl e.id e.target.cctr.toNat then
           posted s (s.now + siteTrip k e.cl) .tlbInvAtTlb { e with n := 201 }
         else posted (once s (siteTrip k e.cl)) (s.now + 1) .tlbInvAtTlb { e with status := 1 })) ∧
     (e.n = 201 → (∀ p ∈ s.agenda, p.ev = .tlbInvAtTlb → p.arg.id ≠ e.id) →
       exec .tlbInvAtTlb s = .next (posted s (s.now + 1) .responseAtSlot
         { EvArg.zero with n := 2, id := e.id, who := e.who, status := 0 })))

/-! ### Power, heat, errors -/

namespace Sys2Proof.Claims

/-- Only one frond die changes. -/
def OnlyFrond (s t : State) (n : Nat) : Prop :=
  (∀ k, k ≠ n → t.frond k = s.frond k) ∧ t.ctxs = s.ctxs ∧ t.clusters = s.clusters ∧ t.port = s.port ∧ SameMemory s t

/-- The module with some change of one stop's die. -/
def withStop (s : State) (n : Nat) (f : Stop → Stop) : State := { s with stops := NMap.set s.stops n (f (s.stop n)) }

end Sys2Proof.Claims

/-- R327, R426, R427: the controls of a frond die: pwr.cfg sets one of them and cuts the bucket to a new capacity; the
refill, half of it once the die has been hot, saturates at the capacity and goes on while it is below; a supply below
the threshold stretches the clock and is counted, and a recovered one ends it; 95 degrees halve the refill, and 105
degrees on any die stop issue. Supply and temperature are operands of the steps (log 58). -/
def Obligations.PowerAndHeat : Prop :=
  ∀ (s : State),
    let e := s.ev
    let f := s.frond e.n
    (1 ≤ e.m → e.m ≤ 3 → (∀ p ∈ s.agenda, s.now < p.time) → s.currentWho (frondStop e.n) e.who = true →
      ∃ t, exec .pwrCfgAtDie s = .next t ∧ OnlyFrond s t e.n ∧
        let g := t.frond e.n
        g.cap = (if e.m = 1 then e.v.toNat else f.cap) ∧ g.bucket = (if e.m = 1 then Min.min f.bucket e.v.toNat else f.bucket) ∧
        g.refill = (if e.m = 2 then e.v.toNat else f.refill) ∧ g.dth = (if e.m = 3 then e.v.toNat else f.dth) ∧
        g.halved = f.halved ∧ g.tlb2 = f.tlb2) ∧
    (∃ t, exec .powerBucketRefill s = .next t ∧ OnlyFrond s t e.n ∧
      let g := t.frond e.n
      g.bucket = Min.min f.cap (f.bucket + (if f.halved then f.refill / 2 else f.refill)) ∧
      g.cap = f.cap ∧ g.refill = f.refill ∧ g.dth = f.dth ∧ g.halved = f.halved ∧ g.tlb2 = f.tlb2 ∧
      (f.refill ≠ 0 → g.bucket < f.cap → PendsAt t (s.now + 1) .powerBucketRefill { EvArg.zero with n := e.n }) ∧
      (g.bucket = f.cap → t.agenda = s.agenda)) ∧
    (∀ k, k < 64 → e.n = frondStop k →
      (e.m < (s.frond k).dth → (s.stop e.n).stretched = false → exec .droopStretch s =
        .next (withStop s e.n (fun d => { d with stretched := true, droopc := d.droopc + 1 }))) ∧
      ((s.frond k).dth ≤ e.m ∨ (s.stop e.n).stretched = true → exec .droopStretch s = .next s) ∧
      ((s.frond k).dth ≤ e.m → exec .droopRecovery s = .next (withStop s e.n (fun d => { d with stretched := false }))) ∧
      (e.m < (s.frond k).dth → exec .droopRecovery s = .next s) ∧
      (∃ t, exec .tempRefillHalve s = .next t ∧ t.stops = (withStop s e.n (fun d => { d with temp := BitVec.ofNat 16 e.m })).stops ∧
        OnlyFrond s t k ∧ t.frond k = (if 950 ≤ e.m then { s.frond k with halved := true } else s.frond k))) ∧
    (1050 ≤ e.m → s.port.thermal = false → ∃ t, exec .thermalStop s = .next t ∧ t.port = { s.port with thermal := true } ∧
      (t.stop e.n).temp = BitVec.ofNat 16 e.m ∧ (t.stop e.n).written = (s.stop e.n).written + 1 ∧ t.ctxs = s.ctxs ∧
      SameMemory s t) ∧
    (e.m < 1050 → exec .thermalStop s = .next (withStop s e.n (fun d => { d with temp := BitVec.ofNat 16 e.m }))) ∧
    (s.port.thermal = true → ∀ cl cx, s.attempt cl cx = .wait none)

/-- R376, R377, R381, R385, R387: a retired frame stays retired and is listed; the patrol scrub writes a single-bit
correction back and begins its next period; a window's counts start again; a spare takes a lasting source's place once,
and withdraws the cluster after that; a staging unit is withdrawn once no task holds it. That the scrub acts as one
sweep and that a full list changes nothing are the model's choices (logs 57, 58). -/
def Obligations.ErrorsOverTime : Prop :=
  ∀ (s : State),
    let e := s.ev
    (let pa := e.v.toNat
     let frame := pa / 2 ^ 16
     s.currentWho e.n e.who = true → pa % 2 ^ 16 = 0 → s.inLpddr pa = true → entryBind (s.domAt e.n e.who.dom) = true →
       ∃ t, exec .frameRetireAtHome s = .next t ∧ (∀ a, a / 2 ^ 16 = frame → t.retiredAt a = true) ∧
         (∀ a, a / 2 ^ 16 ≠ frame → t.retiredAt a = s.retiredAt a) ∧
         (s.port.retired.length < 4096 → frame ∉ s.port.retired → t.port = { s.port with retired := s.port.retired ++ [frame] }) ∧
         (frame ∈ s.port.retired → t.port = s.port) ∧ SameMemory s t ∧ t.ctxs = s.ctxs) ∧
    (let pa := e.v.toNat
     s.currentWho e.n e.who = true → pa % 2 ^ 16 ≠ 0 ∨ s.inLpddr pa = false ∨ entryBind (s.domAt e.n e.who.dom) = false →
       ∃ t, exec .frameRetireAtHome s = .next t ∧ t.archives = s.archives ∧ t.port = s.port ∧ SameMemory s t ∧
         PendsAt t (s.now + (22 + 3 * hops e.n (clusterStop e.cl))) .deferredFault
           { EvArg.at e.who.cl e.who.cx 0 with n := 5, who := e.who, v := e.v, value := (e.value.setWidth 30).setWidth 128 }) ∧
    (s.syn = [] → exec .patrolScrub s = .next (posted s (s.now + 2 ^ 38) .patrolScrub e)) ∧
    (∀ sec i n, i < 4 → n < 64 → s.syn = [(sec, BitVec.ofNat 32 (nth hColumns n 0) <<< (8 * i))] → 32 * sec < 2 ^ 49 →
      homeStop (32 * sec) = archiveStop e.n → (∀ x ∈ (s.stop (archiveStop e.n)).sources, x.count < 3) →
      ∃ t, exec .patrolScrub s = .next t ∧ t.syn = [] ∧ PendsAt t (s.now + 2 ^ 38) .patrolScrub e ∧ t.ctxs = s.ctxs ∧
        ∀ a, memGet t.mem a = if a = 32 * sec + 8 * i + n / 8 then memGet s.mem a ^^^ (1#8 <<< (n % 8)) else memGet s.mem a) ∧
    (exec .errorWindowStart s = .next (withStop s e.n (fun d => { d with
      sources := (d.sources.filter (·.lasting)).map (fun x => { x with count := 0 }) }))) ∧
    (∀ cl core b, e.source = .bank cl core b →
      let t0 := clusterStop cl
      ((s.cluster cl).tasks = [] → (∀ x, .bank cl core x ∉ (s.cluster cl).spares) → ∃ t, exec .spareSubstitution s = .next t ∧
        (t.cluster cl) = { s.cluster cl with spares := .bank cl core b :: (s.cluster cl).spares } ∧
        (∀ x ∈ (t.stop t0).sources, x.source ≠ .bank cl core b) ∧ (t.stop t0).written = (s.stop t0).written + 1 ∧
        SameMemory s t ∧ t.ctxs = s.ctxs) ∧
      ((s.cluster cl).tasks = [] → (∃ x, .bank cl core x ∈ (s.cluster cl).spares) → ∃ t, exec .spareSubstitution s = .next t ∧
        (t.cluster cl) = { s.cluster cl with withdrawn := true } ∧ SameMemory s t ∧ t.ctxs = s.ctxs) ∧
      ((s.cluster cl).tasks ≠ [] → ∃ t, exec .spareSubstitution s = .next t ∧ t.clusters = s.clusters ∧
        Pends t .spareSubstitution e)) ∧
    (let held : Prop := ∃ x ∈ s.tasks, x.2.holds = true ∧ ((e.n, e.m) ∈ x.2.cunits ∨
       x.2.sbase / 2 ^ 24 = e.n ∧ x.2.sbase % 2 ^ 24 / 2 ^ 16 ≤ e.m ∧ e.m < x.2.sbase % 2 ^ 24 / 2 ^ 16 + x.2.tstg)
     (held → ∃ t, exec .stagingUnitWithdraw s = .next t ∧ t.archives = s.archives ∧ Pends t .stagingUnitWithdraw e) ∧
     (¬held → ∃ t, exec .stagingUnitWithdraw s = .next t ∧ (e.n, e.m) ∈ (t.archive (e.n / 8)).withdrawn ∧
       (∀ x, x ≠ (e.n, e.m) → (x ∈ (t.archive (e.n / 8)).withdrawn ↔ x ∈ (s.archive (e.n / 8)).withdrawn)) ∧
       SameMemory s t ∧ t.ctxs = s.ctxs))

/-! ### Boot, links, management -/

/-- R396, R398, R420, R422, R423, R426: power-good without an acceptable image halts with code 2; whatever it finds,
its code is one of those of R420, the management flow is open, and the module leaves restricted mode just when it is
up. The ROM is measured into register 0, the digest and the version into 1, the configuration into 2. The loss of power
leaves the module as reset does, but for its fuses, its flash and its lists. Links come up and go down with their
flows, and a host port without a link is tried again after 2^30 cycles. What power-good finds comes with its step, and
what a loss of power keeps is the model's reading (logs 65, 66). -/
def Obligations.BootAndLinks : Prop :=
  (∀ (s : State),
    let e := s.ev
    let up (n : Nat) : State := { s with port := { s.port with links := s.port.links ||| BitVec.ofNat 18 (2 ^ n) } }
    (s.port.powered = true → exec .powerGood s = .next s) ∧
    (s.port.powered = false → ∃ t, exec .powerGood s = .next t ∧ t.port.powered = true ∧
      (∃ c, 1 ≤ c ∧ c ≤ 6 ∧ (t.port.bootst = BitVec.ofNat 64 c ∨ t.port.bootst = BitVec.ofNat 64 (256 + c)) ∧
        (t.port.restricted = false ↔ c = 1)) ∧
      (∃ x, t.flow 0 = some x ∧ x.dom = 0 ∧ x.inc = 0 ∧ x.held = [] ∧ x.reorder = []) ∧
      t.port.links = BitVec.ofNat 18 (e.m % 4) ∧
      (∀ n, n < 2 → t.port.links.getLsbD n = false → PendsAt t (s.now + 2 ^ 30) .portLinkRetry { EvArg.zero with n := n }) ∧
      (s.bootImage = none → t.port.bootst = 2 ∧ SameMemory s t ∧ t.copies = s.copies)) ∧
    (∃ t, exec .powerLoss s = .next t ∧ t.ctxs = [] ∧ t.mem = [] ∧ t.syn = [] ∧ t.clusters = [] ∧ t.copies = [] ∧
      t.regions = [] ∧ t.packets = [] ∧ t.tasks = [] ∧ t.port.powered = false ∧ t.port.links = 0 ∧ t.port.flows = [] ∧
      t.port.bootst = 0 ∧ t.port.thermal = false ∧ t.port.mse = List.replicate 4 (List.replicate 64 0) ∧
      t.port.fwmin = s.port.fwmin ∧ t.port.flash = s.port.flash ∧ t.port.retired = s.port.retired) ∧
    (s.port.powered = true → exec .linkUp s = .next (up e.n)) ∧ (s.port.powered = false → exec .linkUp s = .next s) ∧
    (∃ t, exec .linkDown s = .next t ∧ (e.n < 18 → t.port.links.getLsbD e.n = false) ∧
      (∀ n, n ≠ e.n → t.port.links.getLsbD n = s.port.links.getLsbD n) ∧
      (∀ n x, n ≠ 0 → s.flow n = some x → x.port = e.n → t.flow n = none) ∧
      (∀ n x, (∀ y ∈ s.port.flows, y.2.port ≠ e.n) → s.flow n = some x → t.flow n = some x)) ∧
    (s.port.powered = false ∨ s.port.links.getLsbD e.n = true → exec .portLinkRetry s = .next s) ∧
    (s.port.powered = true → s.port.links.getLsbD e.n = false →
      (e.m = 1 → exec .portLinkRetry s = .next (up e.n)) ∧
      (e.m ≠ 1 → exec .portLinkRetry s = .next (posted s (s.now + 2 ^ 30) .portLinkRetry e)))) ∧
  ∀ (i : BootImage) (s : State), s.port.mse.length = 4 →
    let old (n : Nat) : List Byte := nth s.port.mse n []
    (bootMeasure i s).port.mse = [sha512 (old 0 ++ sha512 Config.rom),
      sha512 (sha512 (old 1 ++ i.dig) ++ leBytes 8 i.ver), sha512 (old 2 ++ sha512 (i.body.take 64)), old 3]

namespace Sys2Proof.Claims

/-- A request of an open flow is performed now: its turn has come, its domain and incarnation are the flow's and current,
and the management flow is not restricted (R355, R396, R397, R420). -/
def Serves (s : State) (x : Flow) : Prop :=
  s.ev.n = 2 ∧ s.flow s.ev.m = some x ∧ x.uid = s.ev.id ∧ s.ev.frame ∈ x.reorder ∧ s.ev.frame.dom = x.dom ∧
    s.ev.frame.inc = x.inc ∧ (s.ev.m ≠ 0 → s.current 0 x.dom x.inc = true) ∧ (s.ev.m = 0 → s.port.restricted = false) ∧
    s.ev.m < 256

/-- The request has been answered: one frame is sent, a response of the request's sequence number with a status, OPND where
a value is stated, and a payload; it is kept for a repetition, and the request is held no longer (R395, R397). -/
def Replies (s t : State) (st : Byte) (v : Option W64) (bs : List Byte) : Prop :=
  ∃ c : Frame, t.port.outbox = c :: s.port.outbox ∧ c.seq = s.ev.frame.seq ∧ c.status = st ∧ c.payload = bs ∧
    (∀ w, v = some w → c.d3 = w) ∧ (bs.length < 2 ^ 16 → c.op = 8 ∧ c.flow = s.ev.m) ∧
    ∀ x, t.flow s.ev.m = some x → c ∈ x.cache ∧ ∀ f ∈ x.reorder, f.seq ≠ s.ev.frame.seq

/-- What a management request does not touch. -/
def Aside (s t : State) : Prop := t.ctxs = s.ctxs ∧ t.copies = s.copies ∧ t.regions = s.regions ∧ SameMemory s t

end Sys2Proof.Claims

/-- R396, R398, R403, R404, R422, R423, R425, R428: management requests: opening and closing a flow, the registers as
they read and as they are written, a stretch count that a read clears, FWMIN between its value and the running version,
the extension of measurement register 3, and the report that is signed; what is not allowed is denied. That a request
is performed in one cycle is the model's choice (log 61). -/
def Obligations.ManagementRequests : Prop :=
  ∀ (s : State) (x : Flow), Serves s x →
    let e := s.ev
    let f := e.frame
    let reg := (f.pay 0).toNat % 2 ^ 16
    let may : Prop := e.m = 0 ∨ entryBind (s.domAt 0 x.dom) = true
    let gives (i : Instr) (st : Byte) (v : Option W64) (q : State → Prop) : Prop :=
      ∃ t, exec i s = .next t ∧ Replies s t st v [] ∧ Aside s t ∧ q t
    let reads (r : Nat) (v : W64) : Prop := may → f.code = 3 → reg = r →
      gives .mgmtReadRegister 0 (some v) (fun t => t.stops = s.stops)
    (reads 1 s.port.bootst ∧ reads 2 (s.port.fwver.setWidth 64) ∧ reads 3 (s.port.fwmin.setWidth 64) ∧
      reads 4 (s.port.etype.setWidth 64) ∧ reads 5 (s.port.udpp.setWidth 64) ∧ reads 6 (s.port.dirpa.setWidth 64) ∧
      reads 7 s.port.alertva ∧ reads 8 (BitVec.ofNat 64 s.port.retired.length) ∧ reads 0x60 ((s.stop 0).temp.setWidth 64) ∧
      (∀ k, k < 64 → reads (0x10 + k) ((s.stop (frondStop k)).temp.setWidth 64)) ∧
      (∀ k, k < 16 → reads (0x50 + k) ((s.stop (archiveStop k)).temp.setWidth 64)) ∧
      (∀ k, k < 18 → reads (0x100 + k) (if s.port.links.getLsbD k then 1 else 0))) ∧
    (may → f.code = 3 → 0x300 ≤ reg → gives .mgmtReadRegister 7 none (fun t => t.stops = s.stops)) ∧
    (∀ k, k ≤ 80 → may → reg = 0x80 + k → gives .droopcRead 0 (some (s.stop k).droopc) (fun t =>
      (t.stop k).droopc = 0 ∧ ∀ j, j ≠ k → t.stop j = s.stop j)) ∧
    (may → reg = 4 → gives .mgmtWriteRegister 0 none (fun t =>
      t.port.etype = (f.pay 1).setWidth 16 ∧ t.port.udpp = s.port.udpp)) ∧
    (may → reg = 5 → gives .mgmtWriteRegister 0 none (fun t =>
      t.port.udpp = (f.pay 1).setWidth 16 ∧ t.port.etype = s.port.etype)) ∧
    (may → reg ≠ 4 → reg ≠ 5 → gives .mgmtWriteRegister 7 none (fun t =>
      t.port.udpp = s.port.udpp ∧ t.port.etype = s.port.etype)) ∧
    (let v := (f.pay 1).extractLsb' 0 32
     (may → s.port.fwmin.toNat ≤ v.toNat → v.toNat ≤ s.port.fwver.toNat →
       gives .fwminWrite 0 none (fun t => t.port.fwmin = v)) ∧
     (¬may ∨ v.toNat < s.port.fwmin.toNat ∨ s.port.fwver.toNat < v.toNat →
       gives .fwminWrite 7 none (fun t => t.port.fwmin = s.port.fwmin))) ∧
    (∀ k, k < 8 → may → reg = 0x120 + k → gives .msextWrite 0 none (fun t =>
      t.port.msext = s.port.msext.set k (f.pay 1) ∧
      t.port.mse = if k = 7 then
        s.port.mse.set 3 (sha512 (nth s.port.mse 3 [] ++ sha512 ((s.port.msext.set 7 (f.pay 1)).flatMap (fun w => leBytes 8 w.toNat))))
      else s.port.mse)) ∧
    (∃ t, exec .mgmtAttest s = .next t ∧ Aside s t ∧
      let report := leBytes 8 1 ++ leBytes 8 Config.serial.toNat ++ leBytes 4 s.port.fwver.toNat ++ leBytes 4 s.port.bootst.toNat ++
        List.replicate 40 0 ++ f.payload ++ s.port.mse.flatten
      Replies s t 0 none (report ++ Config.attestSignature report)) ∧
    (let w := (List.range 6).map f.pay
     let k := ((f.pay 0).extractLsb' 0 8).toNat
     let d := (f.pay 0).extractLsb' 8 8
     (e.m = 0 → s.openRefusal w = 0 → gives .mgmtOpen 0 none (fun t => ∃ y, t.flow k = some y ∧ y.dom = d ∧
       y.inc = entryCur (s.domAt 0 d) ∧ y.part = ((f.pay 0).extractLsb' 16 16).toNat ∧ y.ordered = (f.pay 0).getLsbD 32 ∧
       y.port = ((f.pay 0).extractLsb' 48 5).toNat ∧ y.wbase = f.pay 4 ∧ y.rto = ((f.pay 5).extractLsb' 0 32).toNat ∧
       y.pip = f.pay 2 ++ f.pay 1 ∧ y.pmac = (f.pay 3).setWidth 48 ∧ y.sendSeq = 0 ∧ y.expected = 0 ∧ y.held = [] ∧
       y.reorder = [] ∧ y.cache = [] ∧ ∀ j, j ≠ k → j ≠ 0 → t.flow j = s.flow j)) ∧
     (e.m = 0 → s.openRefusal w ≠ 0 → gives .mgmtOpen 7 (some (BitVec.ofNat 64 (s.openRefusal w))) (fun t =>
       ∀ j, j ≠ 0 → t.flow j = s.flow j)) ∧
     (e.m = 0 → k ≠ 0 → s.flow k = none → gives .mgmtClose 0 none (fun t => t.flow k = none)) ∧
     (∀ y, e.m = 0 → k ≠ 0 → s.flow k = some y → y.held = [] → y.waiting = [] → (∀ w ∈ s.winWaiters, windowFlow w.pa ≠ k) →
       gives .mgmtClose 0 none (fun t => t.flow k = none ∧ ∀ j, j ≠ k → j ≠ 0 → t.flow j = s.flow j)) ∧
     (e.m ≠ 0 ∨ k = 0 → gives .mgmtClose 7 none (fun t => ∀ j, j ≠ e.m → t.flow j = s.flow j)) ∧
     (e.m ≠ 0 → gives .mgmtOpen 7 none (fun t => ∀ j, j ≠ e.m → t.flow j = s.flow j)))

/-! ### Tirel -/

namespace Sys2Proof.Claims

/-- The steps that take a request of the host or of a peer. -/
def requestSteps : List Instr :=
  [.tirelRead, .tirelWrite, .tirelAtomic, .tirelCtrAdd, .tirelLaunch, .mgmtOpen, .mgmtClose, .mgmtReadRegister,
    .mgmtWriteRegister, .fwminWrite, .msextWrite, .droopcRead, .mgmtAttest]

/-- A frame has arrived on a port that is linked, is Tirel's by its identification there, and its header is good (R392 to
R394). -/
def GoodFrame (s : State) : Prop :=
  let f := s.ev.frame
  s.port.links.getLsbD f.port = true ∧ f.ident = (if f.routed then s.port.udpp else s.port.etype) ∧ f.fault = none

/-- The bytes at an address. -/
def bytesAt (s : State) (a n : Nat) : List Byte := (List.range n).map (fun i => memGet s.mem (a + i))

/-- Memory after bytes have been stored at an address: every other byte reads as before. -/
def StoredBytes (s t : State) (a : Nat) (bs : List Byte) : Prop :=
  ∀ x, memGet t.mem x = if a ≤ x ∧ x < a + bs.length then nth bs (x - a) 0 else memGet s.mem x

end Sys2Proof.Claims

/-- R392 to R397, R406: a request that arrives: on a port without a link nothing happens; a frame that is not Tirel's
is counted; a bad header and a closed flow leave an entry; a request that is new and within the window of its flow is
held, the one whose turn it is being performed; one performed before is answered again from the flow's cache. That a
request waits in its flow for its turn in both modes is the model's choice (log 61). -/
def Obligations.TirelArrival : Prop :=
  ∀ (s : State) i, i ∈ requestSteps → s.ev.n = 0 →
    let f := s.ev.frame
    let q := f.seq.toNat
    let entry : Prop := ∃ t, exec i s = .next t ∧ (t.stop 0).written = (s.stop 0).written + 1 ∧ t.port = s.port ∧
      t.ctxs = s.ctxs ∧ SameMemory s t
    (s.port.links.getLsbD f.port = false → exec i s = .next s) ∧
    (s.port.links.getLsbD f.port = true → f.ident ≠ (if f.routed then s.port.udpp else s.port.etype) →
      exec i s = .next { s with port := { s.port with discards := NMap.modify s.port.discards f.port 0 (· + 1) } }) ∧
    (s.port.links.getLsbD f.port = true → f.ident = (if f.routed then s.port.udpp else s.port.etype) → f.fault ≠ none → entry) ∧
    (GoodFrame s → f.event = i → s.flow f.flow = none → entry) ∧
    (∀ x, GoodFrame s → f.event = i → s.flow f.flow = some x →
      (if f.flow = 0 then f.port < 2 else x.port = f.port ∧ x.routed = f.routed) →
      (x.expected ≤ q → q < x.expected + 64 → q ∉ x.performed → (∀ g ∈ x.reorder, g.seq ≠ f.seq) →
        ∃ t y, exec i s = .next t ∧ t.flow f.flow = some y ∧ (∀ g, g ∈ y.reorder ↔ g = f ∨ g ∈ x.reorder) ∧
          y = { x with reorder := y.reorder } ∧ t.ctxs = s.ctxs ∧ SameMemory s t ∧ t.port.outbox = s.port.outbox ∧
          (q = x.expected → x.launching = none → (∀ g ∈ x.reorder, x.expected < g.seq.toNat) →
            (∀ p ∈ s.agenda, p.arg.n = 2 → p.arg.id ≠ x.uid) →
            Pends t i { EvArg.zero with n := 2, m := f.flow, id := x.uid, frame := f })) ∧
      (∀ c, q < x.expected ∨ q ∈ x.performed → x.cache.find? (fun c => c.seq == f.seq) = some c →
        exec i s = .next { s with port := { s.port with outbox := { c with port := f.port } :: s.port.outbox } }) ∧
      (q < x.expected ∨ q ∈ x.performed → x.cache.find? (fun c => c.seq == f.seq) = none → exec i s = .next s) ∧
      (x.expected + 64 ≤ q → q ∉ x.performed → exec i s = .next s))

/-- R121, R206, R216, R223, R355, R395, R400, R402: what a request does when its turn has come, for a range on one
page, or a slice, of clean memory: a read gives the bytes, a write stores them, an atomic stores the new value and
gives the old, a counter add stores and gives the saturated sum; a launch stores its packet in the lowest free slot of
its launch area, which is free again at the end of the cycle where the launch was refused, and is answered as the dispatch unit
answers. What is not allowed is DENIED, what is of a past
incarnation KILLED, and neither changes a byte. That a read of a length out of range is answered DENIED, and that OPND
is 0 there, is the model's reading (log 60); that a request is performed in one cycle its choice (log 61). -/
def Obligations.TirelRequests : Prop :=
  (∀ (s : State) (x : Flow), Serves s x →
    let f := s.ev.frame
    let va := f.d2
    let gives (i : Instr) (st : Byte) (v : Option W64) (bs : List Byte) (q : State → Prop) : Prop :=
      ∃ t, exec i s = .next t ∧ Replies s t st v bs ∧ q t
    (∀ s1 pa n, n = f.d3.toNat → 0 < n → n ≤ 8192 → s.flowRange x va n leafR = (some [(pa, n)], s1) → CleanAt s1 pa n →
      gives .tirelRead 0 (some 0) (bytesAt s1 pa n) (fun t => t.mem = s1.mem)) ∧
    (f.d3.toNat = 0 ∨ 8192 < f.d3.toNat → gives .tirelRead 7 (some 0) [] (SameMemory s)) ∧
    (∀ s1 pa n, n = f.payload.length → s.flowRange x va n leafDeviceW = (some [(pa, n)], s1) → CleanAt s1 pa n →
      s1.retiredAt pa = false → gives .tirelWrite 0 (some 0) [] (fun t => StoredBytes s1 t pa f.payload)) ∧
    (∀ s1 pa n op, f.atop / 16 = (if n = 8 then 2 else 1) → n = 4 ∨ n = 8 →
      [AtomOp.add, .and, .or, .xor, .min, .max, .minn, .maxn, .swap, .cas][f.atop % 16]? = some op →
      va.toNat % 32 + n ≤ 32 → s.flowRange x va n (fun e => leafR e && leafDeviceW e) = (some [(pa, n)], s1) →
      CleanAt s1 pa n → s1.retiredAt pa = false →
      let old := valueAt s1 pa n
      gives .tirelAtomic 0 (some (BitVec.ofNat 64 old)) [] (fun t =>
        (∀ v, atomNew op n old f.d3.toNat (f.pay 0).toNat = some v → Stored s1 t pa n v) ∧
        (atomNew op n old f.d3.toNat (f.pay 0).toNat = none → t.mem = s1.mem))) ∧
    (∀ s1 pa, space va = 0 → va.toNat % 8 = 0 → s.flowRange x va 8 leafCounterW = (some [(pa, 8)], s1) → CleanAt s1 pa 8 →
      s1.retiredAt pa = false →
      let sum := Min.min (valueAt s1 pa 8 + f.d3.toNat) (2 ^ 64 - 1)
      gives .tirelCtrAdd 0 (some (BitVec.ofNat 64 sum)) [] (fun t => Stored s1 t pa 8 sum ∧ Completed s1 t pa sum)) ∧
    (∀ s1, s.flowRange x va f.payload.length leafDeviceW = (none, s1) → gives .tirelWrite 7 (some 0) [] (SameMemory s1)) ∧
    (space va ≠ 0 ∨ va.toNat % 8 ≠ 0 → gives .tirelCtrAdd 7 none [] (SameMemory s)) ∧
    (∀ g sl j, let r := ((f.pay 0).extractLsb' 0 12).toNat
      s.region r ≠ none → s.region x.part = some g → s.under x.part r = true →
      (List.range 128).find? (fun k => g.slmask.getLsbD k) = some sl →
      (List.range 64).find? (fun k => !x.slots.contains k) = some j →
      let off := 0xE00000 + 0x2000 * s.ev.m + 128 * j
      ∃ t, exec .tirelLaunch s = .next t ∧ StoredBytes s t (stagingKey sl off) (f.payload.drop 8) ∧
        t.port.outbox = s.port.outbox ∧ (∃ y, t.flow s.ev.m = some y ∧ j ∈ y.slots ∧ y.launching = some f.seq) ∧
        PendsAt t (s.now + (25 + 3 * hops 0 (dispatchStop r))) .launchEnqueue { EvArg.zero with launch := {
          addr := BitVec.ofNat 64 (3 * 2 ^ 62 + sl * 2 ^ 24 + off), region := r, by_ := .flow s.ev.m
          who := { Who.zero with dom := x.dom, inc := x.inc }, waitId := x.uid, seq := f.seq
          deadline := ((f.pay 0).extractLsb' 32 32).toNat, arrived := 0, dom := x.dom, inc := x.inc } })) ∧
  (∀ (s : State) (x : Flow), s.ev.n = 2 → s.ev.m < 256 → s.flow s.ev.m = some x → x.uid = s.ev.id → s.ev.frame ∈ x.reorder →
    ∀ i, i ∈ requestSteps →
      (s.ev.frame.dom ≠ x.dom → ∃ t, exec i s = .next t ∧ SameMemory s t ∧ Replies s t 7 none []) ∧
      (s.ev.frame.dom = x.dom → s.ev.frame.inc ≠ x.inc → ∃ t, exec i s = .next t ∧ SameMemory s t ∧ Replies s t 3 none [])) ∧
  (∀ (s : State) (x : Flow) g, s.ev.n = 1 → s.ev.m < 256 → s.flow s.ev.m = some x → x.uid = s.ev.launch.waitId →
    x.reorder.find? (fun f => f.seq == s.ev.launch.seq) = some g → s.ev.frame.seq = g.seq →
    ∃ t, exec .tirelLaunch s = .next t ∧ SameMemory s t ∧ Replies s t s.ev.status (some 0) [] ∧
      (s.ev.status ≠ 0 →
        PendsAt t s.now .tirelLaunch { EvArg.zero with n := 3, m := s.ev.m, v := s.ev.launch.addr })) ∧
  ∀ (s : State) (x : Flow) sl j, s.ev.n = 3 → s.ev.m < 256 → j < 64 → sl < 128 → s.flow s.ev.m = some x →
    s.ev.v = BitVec.ofNat 64 (3 * 2 ^ 62 + sl * 2 ^ 24 + 0xE00000 + 0x2000 * s.ev.m + 128 * j) →
    ∃ t, exec .tirelLaunch s = .next t ∧ SameMemory s t ∧ t.flow s.ev.m = some { x with slots := x.slots.filter (· != j) } ∧
      t.agenda = s.agenda ∧ t.ctxs = s.ctxs

namespace Sys2Proof.Claims

/-- A request of the device has gone out on a flow: one frame is sent, with its operation, its number, the device's own
address for the window and its payload; it is held, and it is sent again after the flow's time (R394, R397, R401). -/
def Asks (s t : State) (n : Nat) (x : Flow) (op : Nat) (pa : Nat) (bs : List Byte) (w : Who) (acc : Walker) : Prop :=
  ∃ (c : Frame) (h : HeldReq), t.port.outbox = c :: s.port.outbox ∧ c.op = op ∧ c.flow = n ∧
    c.seq = BitVec.ofNat 48 x.sendSeq ∧ c.dom = x.dom ∧ c.inc = x.inc ∧ c.payload = bs ∧
    c.d2 = x.wbase + BitVec.ofNat 64 (pa % 2 ^ 39) ∧ h.frame = c ∧ h.who = w ∧ h.acc = acc ∧ h.sends = 1 ∧
    t.flow n = some { x with held := x.held ++ [h], sendSeq := x.sendSeq + 1 } ∧
    PendsAt t (s.now + x.rto) .tirelRetransmit { EvArg.zero with m := n, id := x.uid, v := c.seq.setWidth 64 }

/-- A flow with room for a request, none of which waits. -/
def HasRoom (x : Flow) : Prop := x.waiting = [] ∧ x.held.length < 64

end Sys2Proof.Claims

/-- R91, R122, R393, R397, R398, R401, R415, R431, R432: the device's own side of a flow: an ack frees the responses it
covers; a response frees the request it answers, schedules the next ack, and ends an atomic with its value, with
poison, or with PERM; an ack is sent; a request is sent again, or after 16 times ends its flow; a store, a load, an
atomic and a counter operation go out through their window where the flow is open, and raise PERM where it is not; a
counter wait reads its counter again; a solicitation of one of the device's addresses is answered, and other frames are
counted. That times of Tirel are in core cycles, and the sizes of window messages, are the model's readings (logs 62,
63). -/
def Obligations.TirelDeviceSide : Prop :=
  ∀ (s : State),
    let e := s.ev
    let f := e.frame
    (∀ x, GoodFrame s → s.flow f.flow = some x →
      (if f.flow = 0 then f.port < 2 else x.port = f.port ∧ x.routed = f.routed) →
      (f.event = .tirelAck → exec .tirelAck s =
        .next (s.setFlow f.flow { x with cache := x.cache.filter (fun c => decide (f.seq.toNat < c.seq.toNat)) })) ∧
      (f.event = .tirelResponse → (∀ h ∈ x.held, h.seq ≠ f.seq) → exec .tirelResponse s = .next s) ∧
      (∀ h, f.event = .tirelResponse → x.held.find? (fun h => h.seq == f.seq) = some h → x.waiting = [] →
        (f.status = 0 → f.payload.length = if h.frame.op = 1 then h.len else 0) →
        (∀ k, h.acc = .device k → ∃ t y, exec .tirelResponse s = .next t ∧ t.flow f.flow = some y ∧
          y.held = x.held.filter (fun g => g.seq != f.seq) ∧ y.sinceAck = x.sinceAck + 1 ∧ SameMemory s t ∧ t.ctxs = s.ctxs ∧
          (x.sinceAck = 0 → PendsAt t (s.now + 1536) .ackSend { EvArg.zero with m := f.flow, id := x.uid }) ∧
          (x.sinceAck = 15 → PendsAt t s.now .ackSend { EvArg.zero with m := f.flow, id := x.uid })) ∧
        (∀ cl cx id a op, h.acc = .access cl cx id → (s.ctx cl cx).accs.find? (fun a => a.id == id) = some a →
          a.kind = .atomic op →
          let comes (st : Byte) (v : BitVec 128) : Prop := ∃ t, exec .tirelResponse s = .next t ∧ SameMemory s t ∧
            PendsAt t (fromPort s a.who.cl) .responseAtSlot
              { EvArg.at a.who.cl a.who.cx a.id with who := a.who, status := st, value := v }
          (f.status = 0 → comes 0 (BitVec.ofNat 128 (f.d3.toNat % 2 ^ (8 * a.size)))) ∧
          (f.status = 4 → comes 4 0) ∧
          (f.status ≠ 0 → f.status ≠ 4 → ∃ t, exec .tirelResponse s = .next t ∧ SameMemory s t ∧
            PendsAt t s.now .deferredFault { EvArg.at a.who.cl a.who.cx a.id with n := 5, who := a.who })))) ∧
    (∀ x, s.flow e.m = some x → x.uid = e.id → e.m < 256 →
      (0 < x.sinceAck → 0 < x.respUpto → x.respUpto < 2 ^ 48 → ∃ t c, exec .ackSend s = .next t ∧
        t.port.outbox = c :: s.port.outbox ∧ c.op = 9 ∧ c.flow = e.m ∧ c.seq.toNat + 1 = x.respUpto ∧ c.payload = [] ∧
        t.flow e.m = some { x with sinceAck := 0 } ∧ t.ctxs = s.ctxs ∧ SameMemory s t) ∧
      (x.sinceAck = 0 ∨ x.respUpto = 0 → ∃ t, exec .ackSend s = .next t ∧ t.port.outbox = s.port.outbox ∧
        t.flow e.m = some { x with sinceAck := 0 } ∧ t.ctxs = s.ctxs ∧ SameMemory s t) ∧
      (∀ h, x.held.find? (fun h => h.seq.setWidth 64 == e.v) = some h →
        (h.sends < 16 → ∃ t y, exec .tirelRetransmit s = .next t ∧ t.port.outbox = h.frame :: s.port.outbox ∧
          t.flow e.m = some y ∧ y.held = x.held.map (fun g =>
            if g.seq = h.seq then { g with sends := g.sends + 1, lastSent := s.now } else g) ∧
          PendsAt t (s.now + x.rto) .tirelRetransmit { EvArg.zero with m := e.m, id := x.uid, v := h.seq.setWidth 64 } ∧
          t.ctxs = s.ctxs ∧ SameMemory s t) ∧
        (16 ≤ h.sends → e.m ≠ 0 → ∃ t, exec .tirelRetransmit s = .next t ∧ t.flow e.m = none)) ∧
      ((∀ h ∈ x.held, h.seq.setWidth 64 ≠ e.v) → exec .tirelRetransmit s = .next s)) ∧
    (∀ a p, e.n = 0 → (s.ctx e.cl e.cx).accs.find? (fun a => a.id == e.id && !a.performed) = some a →
      s.held e.cl e.cx a = false → s.currentWho 0 a.who = true → a.who.cl = e.cl → a.who.cx = e.cx → a.pieces = [p] →
      inWindow p.pa = true → s.staging a.task = false →
      let n := p.pa / 2 ^ 39 % 256
      let acc := Walker.access e.cl e.cx a.id
      (∀ x, s.flow n = some x → x.dom = a.who.dom → x.inc = a.who.inc → HasRoom x → p.len ≤ 16 → a.size = p.len →
        let sends (op : Nat) (bs : List Byte) (q : Frame → Prop) : Prop := ∃ t, exec .windowAccessSend s = .next t ∧
          Asks s t n x op p.pa bs a.who acc ∧ SameMemory s t ∧ ∀ c, t.port.outbox = c :: s.port.outbox → q c
        (a.kind = .store → sends 2 (leBytes a.size a.data.toNat) (fun _ => True)) ∧
        (∀ k sg, a.kind = .load k sg → sends 1 [] (fun c => c.d3 = BitVec.ofNat 64 p.len)) ∧
        (∀ op, a.kind = .atomic op → op ≠ .cas → sends 3 [] (fun c => c.d3 = a.data.setWidth 64)) ∧
        (a.kind = .atomic .cas → sends 3 (leBytes 8 a.cmp.toNat) (fun c => c.d3 = a.data.setWidth 64)) ∧
        (a.kind = .ctrAdd ∨ a.kind = .ctrArw → sends 4 [] (fun c => c.d3 = a.data.setWidth 64)) ∧
        (a.kind = .ctrRead ∨ a.kind = .ctrWait → sends 1 [] (fun c => c.d3 = 8))) ∧
      (a.kind ≠ .pf → (∀ x, s.flow n = some x → x.dom ≠ a.who.dom ∨ x.inc ≠ a.who.inc) → ∃ t,
        exec .windowAccessSend s = .next t ∧ t.port = s.port ∧ t.ctxs = s.ctxs ∧ SameMemory s t ∧
        PendsAt t s.now .deferredFault { EvArg.at e.cl e.cx a.id with n := 5, who := a.who })) ∧
    (∀ a, (s.ctx e.cl e.cx).accs.find? (fun a => a.id == e.id) = some a →
      (∀ w x, s.winWaiters.find? (fun w => w.accId == a.id && w.who == a.who) = some w → s.currentWho 0 w.who = true →
        s.flow (w.pa / 2 ^ 39 % 256) = some x → x.dom = w.who.dom → x.inc = w.who.inc → HasRoom x →
        ∃ t, exec .windowCounterPoll s = .next t ∧
          Asks s t (w.pa / 2 ^ 39 % 256) x 1 w.pa [] w.who (.access e.cl e.cx e.id) ∧ SameMemory s t) ∧
      (s.winWaiters.find? (fun w => w.accId == a.id && w.who == a.who) = none → exec .windowCounterPoll s = .next s)) ∧
    (∃ t, exec .neighbourSolicitation s = .next t ∧ t.ctxs = s.ctxs ∧ SameMemory s t ∧
      if Config.addresses.any (fun a => leBytes 16 a.toNat == (f.payload.take 16).reverse) then
        ∃ c : Frame, t.port = { s.port with outbox := c :: s.port.outbox } ∧ c.port = f.port ∧
          c.payload = Config.neighbourAdvert (f.payload.take 16)
      else t.port = { s.port with discards := NMap.modify s.port.discards f.port 0 (· + 1) }) ∧
    (e.n ≠ 1 → exec .nonTirelFrame s =
      .next { s with port := { s.port with discards := NMap.modify s.port.discards f.port 0 (· + 1) } }) ∧
    (e.n = 1 → ∃ t, exec .nonTirelFrame s = .next t ∧ (t.stop 0).written = (s.stop 0).written + 1 ∧ t.port = s.port ∧
      t.ctxs = s.ctxs ∧ SameMemory s t)

/-! ### Issue, reset, encodings, whole-machine rules -/

namespace Sys2Proof.Claims

/-- A cluster's sequencer is the first that has something to do: no step is due, no cluster before it has a running context,
and its context may issue at its offset from a line that the cache holds (R140, R141). -/
def Issuing (s : State) (cl cx : Nat) (bytes : List Byte) : Prop :=
  let c := s.ctx cl cx
  (∀ p, s.agenda.head? = some p → s.now < p.time) ∧
    (∃ before k after, s.clusters = before ++ (cl, k) :: after ∧ k.run = some cx ∧ ∀ x ∈ before, x.2.run = none) ∧
    s.port.thermal = false ∧ c.nextIssue ≤ s.now ∧ c.nextIssue < 2 ^ 128 ∧ c.parked = false ∧
    (∃ l, (s.cluster cl).line (s.packetOf c) (c.pc.toNat / 64 * 64) = some l ∧ bytes = l.bytes.drop (c.pc.toNat % 64)) ∧
    (nth bytes 3 0).getLsbD 7 = true

/-- A bundle closes its segment: an END header, or a yield (R22). -/
def Closes (b : Bundle) : Prop := (∃ st p e, b.hdr = .endStage st p e) ∨ ∃ n rb k, (n, .yield rb k) ∈ b.slots

/-- A bundle keeps the bound of its segment: the check of R22 before it issues. A checked segment whose closing test has failed
once is not tested again (R383). -/
def WithinBound (s : State) (cl cx : Nat) (b : Bundle) : Prop :=
  let c := s.ctx cl cx
  let charge := 1 + b.hdr.stall
  (¬Closes b → s.segCount cl cx + charge ≤ c.seg.bound) ∧
    (Closes b → (c.seg.chk = false ∨ c.seg.tested = false → s.segCount cl cx ≤ c.seg.bound) ∧
      ∀ n rb k, (n, .yield rb k) ∈ b.slots → charge ≤ Min.min rb.toNat (s.task c).ymax)

/-- The closing test of a checked segment passes, or has been made: its count is the bound that its yield named, and its CRC is
the one it expects (R383). -/
def PassesTest (s : State) (cl cx : Nat) (b : Bundle) : Prop :=
  let g := (s.ctx cl cx).seg
  Closes b → g.chk = true → g.tested = true ∨ s.segCount cl cx = g.rb ∧ g.crc = g.sig

end Sys2Proof.Claims

/-- R9, R80, R144, R145, R159, R163, R164, R339: what stops a bundle before any of its slots takes effect. A bundle
that does not decode takes ILB with the slot it names, and one with a privileged slot in user mode takes PRIV, at the
step that would issue it. A word by itself traps likewise: PRIV; ILB for a loop or link stack that is full or empty and
for a target outside the window; TRIPMAX with its count; EMPTY for a count register without a value. That the bound of
a segment is judged before a bundle's own traps is the model's reading (log 19). -/
def Obligations.IssueTraps : Prop :=
  (∀ (s : State) cl cx bytes, Issuing s cl cx bytes →
    let c := s.ctx cl cx
    (∀ why n, decodeBundle bytes = .error (why, n) →
      ∃ t, step s = .next t ∧ TrapTaken s t cl cx (recordOf s c s.uid 1 n 0 c.pc 0 0)) ∧
    (∀ b n i, decodeBundle bytes = .ok b → WithinBound s cl cx b → c.super = false → (n, i) ∈ b.slots → i.privileged = true →
      ∃ t, step s = .next t ∧ TrapTaken s t cl cx (recordOf s c s.uid 2 7 0 c.pc 0 0))) ∧
  ∀ (s : State), s.issue.live = true →
    let c := s.issueCtx
    let takes (i : Instr) (cls slot : Nat) (esw : W64) : Prop := ∃ t, exec i s = .next t ∧
      TrapTaken s t s.issue.cl s.issue.cx (recordOf s c s.uid cls slot 0 c.pc esw 0)
    let holds (g : BitVec 6) : Prop := c.full.getLsbD g.toNat = true ∧ c.expd.getLsbD g.toNat = false
    c.parked = false → c.errs = [] →
      (∀ i, i.privileged = true → c.super = false → takes i 2 7 0) ∧
      (c.loops = [] → takes .lpop 1 1 0 ∧ ∀ st y p, takes (.loop st y p) 1 0 0) ∧
      (∀ n, c.loops.length = 6 → takes (.loopi n) 1 1 0) ∧
      (∀ st y p d, c.links.length = 8 → takes (.call st y p d) 1 0 0) ∧
      (∀ st y p, c.links = [] → takes (.ret st y p) 1 0 0) ∧
      (∀ g m e, holds g → nth c.g g.toNat 0 ≠ 0 → m.toNat < (nth c.g g.toNat 0).toNat →
        takes (.loopg g m e) 11 1 (BitVec.ofNat 64 (Min.min (nth c.g g.toNat 0).toNat 0xFFFFFFFF))) ∧
      (∀ g m e, holds g → nth c.g g.toNat 0 ≠ 0 → (nth c.g g.toNat 0).toNat ≤ m.toNat → c.loops.length = 6 →
        takes (.loopg g m e) 1 1 0) ∧
      (∀ g m e, c.full.getLsbD g.toNat = false → takes (.loopg g m e) 3 1 0) ∧
      (∀ st y p g, holds g → (nth c.g g.toNat 0).toNat % 4 ≠ 0 ∨ 2 ^ 30 ≤ (nth c.g g.toNat 0).toNat → takes (.ind st y p g) 1 0 0) ∧
      (∀ st y p g, c.full.getLsbD g.toNat = false → takes (.ind st y p g) 3 0 0)

/-- R139, R153, R162, R163, R193: a step performs the step that is due, with its operands, unless that stops a running context
whose next bundle traps at issue: that trap is taken first; when none is due and a bundle may issue, it runs the header and
every present slot of the decoded bundle once each, in the order of their ranks, on the context's operands as they stand
then; a bundle of a header alone is that header's instruction; and slots follow one another on the state the one before
leaves. That a step that is due comes before an issue is the model's choice (logs 9, 11), and so is the trap that comes
before a stop (log 74). -/
def Obligations.StepRunsTheDecodedBundle : Prop :=
  (∀ (s : State) p rest, s.agenda = p :: rest → p.time ≤ s.now →
    let runs : Prop := step s = exec p.ev { s with agenda := rest, ev := p.arg }
    let x := p.stops
    (p.rank ≠ 2 ∨ (s.cluster x.1).run ≠ some x.2 → runs) ∧ (s.trapFirst p = none → runs) ∧
    (p.rank = 2 → (s.cluster x.1).run = some x.2 → ∀ t, s.attempt x.1 x.2 = .go (.to t) → (t.ctx x.1 x.2).parked = true →
      step s = .next t)) ∧
  (∀ (s : State) cl cx bytes b s1 vals, Issuing s cl cx bytes → decodeBundle bytes = .ok b → WithinBound s cl cx b →
    PassesTest s cl cx b → (s.ctx cl cx).holds b.slots = false → s.holdsVector cl (s.ctx cl cx) b.slots = false →
    s.prepare cl cx b.x ((0, b.hdr) :: b.slots) false = .go s1 vals false →
    let c := s.ctx cl cx
    ∃ (t : State) (order : List (Nat × Instr)), step s = runSlots order t ∧ order.Perm ((0, b.hdr) :: b.slots) ∧
      order.Pairwise (fun x y => x.2.rank x.1 ≤ y.2.rank y.1) ∧ InBundle t ∧ t.issue.cl = cl ∧ t.issue.cx = cx ∧
      t.issue.pc = c.pc ∧ t.issue.size = b.size ∧ t.issue.hdr = b.word ∧ t.issue.x = b.x ∧ t.issue.p = c.p ∧
      t.issue.g = c.g ∧ t.issue.rrb = c.rrb ∧ (t.ctx cl cx).g = c.g ∧ (t.ctx cl cx).p = c.p ∧ (t.ctx cl cx).pc = c.pc ∧
      (t.ctx cl cx).loops = c.loops ∧ (t.ctx cl cx).cores = c.cores ∧ (c.errs = [] → SameMemory s t) ∧ t.now = s.now ∧
      (b.slots = [] → ∀ u, exec b.hdr { t with issue := { t.issue with slot := 0 } } = .next u →
        step s = .next { u with issue := .none })) ∧
  (∀ t, runSlots [] t = .next { t with issue := .none }) ∧
  ∀ n i rest t u, exec i { t with issue := { t.issue with slot := BitVec.ofNat 4 n } } = .next u →
    runSlots ((n, i) :: rest) t = runSlots rest u

/-- R18, R352, R385, R420, R423, R426 to R428: the module right after reset: no context holds a stage, no domain, region, task
or packet exists, the links are down, nothing has been counted or retired, the registers whose default the spec gives
hold it, and the boot sequencer's step is the next. That no byte is listed, so that memory reads as 0, is the model's
choice (log 10). -/
def Obligations.ResetState : Prop :=
  let s := State.reset
  (∀ cl cx, (s.ctx cl cx).occ = .free) ∧ (∀ k d, s.domAt k d = 0) ∧ s.port.doms = [] ∧ (∀ r, s.region r = none) ∧
    s.tasks = [] ∧ s.packets = [] ∧ s.port.links = 0 ∧ s.port.flows = [] ∧ s.port.bootst = 0 ∧
    s.port.etype = 0x88B5 ∧ s.port.udpp = 17120 ∧ s.port.mse = List.replicate 4 (List.replicate 64 0) ∧
    s.port.thermal = false ∧ (∀ k, (s.stop k).droopc = 0 ∧ (s.stop k).written = 0 ∧ (s.stop k).lasting = 0) ∧
    (∀ f, (s.frond f).cap = 2 ^ 20 ∧ (s.frond f).refill = 128 ∧ (s.frond f).dth = 460) ∧
    (∀ a, s.retiredAt a = false) ∧ s.good = 0 ∧ s.dirs = [] ∧ s.kept = [] ∧ (∀ cl, (s.cluster cl).run = none ∧ (s.cluster cl).lines = []) ∧
    step s = exec .powerGood { s with agenda := [] } ∧ Memory.wf s.mem = true

/-- Every step keeps the canonical form of memory: addresses strictly rising, and no byte listed that is 0. -/
def Obligations.StepKeepsMemoryForm : Prop :=
  ∀ s t : State, Memory.wf s.mem = true → step s = .next t → Memory.wf t.mem = true

/-- R142, R146, R148, R167 to R173, R190, R196, R208, R214, R235, R242, R247, R254, R255, R264 and others: words that the
spec writes out decode to the instructions it gives for them, one at least of each family. -/
def Obligations.WordsOfTheSpec : Prop :=
  decodeHeader 0x82002003 = .ok (.br 0 0 0 2 3) ∧ decodeHeader 0x83060000 = .ok (.loop 0 0 6) ∧
    decodeC 0x00000064 = .ok (.loopi 100) ∧ decodeC 0x11410009 = .ok (.loopg 5 64 9) ∧
    decodeMove 0x0FDC01C0 = .ok (.moveToRf { gi := 0, gp := 0, src := 0x3F7, w := 0 } 7) ∧
    decodeMove 0x01541400 = .ok (.moveToPreg { gi := 0, gp := 0, src := 0x055, w := 0 } 2) ∧
    decodeMove 0x00282400 = .ok (.add { gi := 0, gp := 0, src := 0x00A, w := 0 } 0 0) ∧
    decodeMove 0x081C5410 = .ok (.div { gi := 0, gp := 0, src := 0x207, w := 0 } 0) ∧
    decodeMove 0x00346C08 = .ok (.lsuCmp { gi := 0, gp := 0, src := 0x00D, w := 0 }) ∧
    decodeV 0x11158320 = .ok (.vfma 4 5 6 0 1) ∧ decodeV 0x94840701 = .ok (.vredc 2 1 1 6 0 1) ∧
    decodeV 0x98840398 = .ok (.vcvt 2 1 7 0 6 0) ∧ decodeV 0xB8C00805 = .ok (.vldr 3 2 5) ∧
    decodeV 0xF0240302 = .ok (.vqmax 9 0 0 2) ∧ decodeV 0xF4C01081 = .ok (.rngDraw 3 4 1) ∧
    decodeS 0x04800900 = .ok (.strSetl 8 9) ∧ decodeS 0x15454080 = .ok (.wld 20 21 1 0) ∧
    decodeS 0x1A800011 = .ok (.arun 40 0 0 1 1) ∧ decodeK 0x06000003 = .ok (.cpyStart 32 3) ∧
    decodeK 0x0E102203 = .ok (.cpyWpwait 33 34 0 0 3) ∧ decodeK 0x32802C82 = .ok (.ctrArw 40 44 1 2) ∧
    decodeK 0xB5454000 = .ok (.domSet 20 21) ∧ decodeK 0x91401500 = .ok (.incAdv 20 21)

/-- R138, R142, R146, R148 to R151, R167 to R173: decoding and encoding agree. Every well-formed slot word and header decodes
from its encoding to itself, with every operand at every value, and a word that decodes is the encoding of what it
decodes to, so no two words mean the same and no bit is dropped. -/
def Obligations.DecodeEncode : Prop :=
  (∀ (i : Instr) (w : W32), i.wf = true → encode i = some w →
    (i.slotNo = 0 → decodeHeader w = .ok i) ∧ (i.slotNo ≠ 0 → decodeSlot true i.slotNo w = .ok i)) ∧
  (∀ (i : Instr) (w : W32), decodeHeader w = .ok i → encode i = some w ∧ i.wf = true ∧ i.slotNo = 0) ∧
  ∀ (i : Instr) (x : Bool) (n : Nat) (w : W32), decodeSlot x n w = .ok i →
    encode i = some w ∧ i.wf = true ∧ (n = i.slotNo ∨ i.slotNo = 2 ∧ (n = 3 ∨ n = 4))
end

