-- ==== Sys2Proof/Laws/Tables.lean ====
section
/-! SUPPORT. Reading a sparse table after setting, changing or erasing an entry. -/

namespace Sys2Proof

variable {α : Type}

@[simp] theorem NMap.get?_set_self (m : NMap α) (k : Nat) (v : α) : NMap.get? (NMap.set m k v) k = some v := by
  induction m with
  | nil => simp [NMap.set, NMap.get?]
  | cons e r ih =>
    unfold NMap.set
    by_cases h : e.1 = k
    · simp [h, NMap.get?]
    · by_cases h' : k < e.1 <;> simp [h, h', NMap.get?, ih]

theorem NMap.get?_set_of_ne (m : NMap α) {k k' : Nat} (v : α) (h : k' ≠ k) :
    NMap.get? (NMap.set m k v) k' = NMap.get? m k' := by
  induction m with
  | nil => simp [NMap.set, NMap.get?, Ne.symm h]
  | cons e r ih =>
    unfold NMap.set
    by_cases h1 : e.1 = k
    · simp [h1, NMap.get?, Ne.symm h]
    · by_cases h' : k < e.1 <;> simp [h1, h', NMap.get?, ih, Ne.symm h]

theorem NMap.getD_eq (m : NMap α) (k : Nat) (d : α) : NMap.getD m k d = (NMap.get? m k).getD d := by
  induction m with
  | nil => rfl
  | cons e r ih => by_cases h : e.1 = k <;> simp [NMap.getD, NMap.get?, h, ih]

@[simp] theorem NMap.getD_set_self (m : NMap α) (k : Nat) (v d : α) : NMap.getD (NMap.set m k v) k d = v := by
  simp [NMap.getD_eq]

theorem NMap.getD_set_of_ne (m : NMap α) {k k' : Nat} (v d : α) (h : k' ≠ k) :
    NMap.getD (NMap.set m k v) k' d = NMap.getD m k' d := by
  simp [NMap.getD_eq, NMap.get?_set_of_ne m v h]

@[simp] theorem NMap.set_set (m : NMap α) (k : Nat) (v w : α) : NMap.set (NMap.set m k v) k w = NMap.set m k w := by
  induction m with
  | nil => simp [NMap.set]
  | cons e r ih =>
    by_cases h : e.1 = k
    · simp [NMap.set, h]
    · by_cases h' : k < e.1 <;> simp [NMap.set, h, h', ih]

@[simp] theorem NMap.getD_modify_self (m : NMap α) (k : Nat) (d : α) (f : α → α) :
    NMap.getD (NMap.modify m k d f) k d = f (NMap.getD m k d) := NMap.getD_set_self _ _ _ _

theorem NMap.get?_erase_self (m : NMap α) (k : Nat) : NMap.get? (NMap.erase m k) k = none := by
  induction m with
  | nil => rfl
  | cons e r ih =>
    by_cases h : e.1 = k
    · simpa [NMap.erase, h] using ih
    · simpa [NMap.erase, h, NMap.get?] using ih

theorem NMap.get?_erase_of_ne (m : NMap α) {k k' : Nat} (h : k' ≠ k) :
    NMap.get? (NMap.erase m k) k' = NMap.get? m k' := by
  induction m with
  | nil => rfl
  | cons e r ih =>
    by_cases h1 : e.1 = k
    · have h2 : ¬e.1 = k' := fun q => h (q ▸ h1)
      simpa [NMap.erase, NMap.get?, h1, Ne.symm h] using ih
    · by_cases h2 : e.1 = k'
      · simp [NMap.erase, NMap.get?, h2, h]
      · simpa [NMap.erase, h1, NMap.get?, h2] using ih

end Sys2Proof
end

