-- ==== Sys2Proof/Laws/State.lean ====
section
/-! SUPPORT. One lemma per field and update of the state, and what reading a part after an update gives. -/

namespace Sys2Proof.Machine

/-! ### `State.setCtx` -/

@[simp] theorem State.setCtx_now (s : State) (cl cx : Nat) (c : Ctx) : (s.setCtx cl cx c).now = s.now := rfl
@[simp] theorem State.setCtx_agenda (s : State) (cl cx : Nat) (c : Ctx) : (s.setCtx cl cx c).agenda = s.agenda := rfl
@[simp] theorem State.setCtx_ev (s : State) (cl cx : Nat) (c : Ctx) : (s.setCtx cl cx c).ev = s.ev := rfl
@[simp] theorem State.setCtx_issue (s : State) (cl cx : Nat) (c : Ctx) : (s.setCtx cl cx c).issue = s.issue := rfl
@[simp] theorem State.setCtx_mem (s : State) (cl cx : Nat) (c : Ctx) : (s.setCtx cl cx c).mem = s.mem := rfl
@[simp] theorem State.setCtx_syn (s : State) (cl cx : Nat) (c : Ctx) : (s.setCtx cl cx c).syn = s.syn := rfl
@[simp] theorem State.setCtx_uid (s : State) (cl cx : Nat) (c : Ctx) : (s.setCtx cl cx c).uid = s.uid := rfl
@[simp] theorem State.setCtx_clusters (s : State) (cl cx : Nat) (c : Ctx) : (s.setCtx cl cx c).clusters = s.clusters := rfl
@[simp] theorem State.setCtx_fronds (s : State) (cl cx : Nat) (c : Ctx) : (s.setCtx cl cx c).fronds = s.fronds := rfl
@[simp] theorem State.setCtx_archives (s : State) (cl cx : Nat) (c : Ctx) : (s.setCtx cl cx c).archives = s.archives := rfl
@[simp] theorem State.setCtx_stops (s : State) (cl cx : Nat) (c : Ctx) : (s.setCtx cl cx c).stops = s.stops := rfl
@[simp] theorem State.setCtx_port (s : State) (cl cx : Nat) (c : Ctx) : (s.setCtx cl cx c).port = s.port := rfl
@[simp] theorem State.setCtx_copies (s : State) (cl cx : Nat) (c : Ctx) : (s.setCtx cl cx c).copies = s.copies := rfl
@[simp] theorem State.setCtx_waiters (s : State) (cl cx : Nat) (c : Ctx) : (s.setCtx cl cx c).waiters = s.waiters := rfl
@[simp] theorem State.setCtx_winWaiters (s : State) (cl cx : Nat) (c : Ctx) : (s.setCtx cl cx c).winWaiters = s.winWaiters := rfl
@[simp] theorem State.setCtx_regions (s : State) (cl cx : Nat) (c : Ctx) : (s.setCtx cl cx c).regions = s.regions := rfl
@[simp] theorem State.setCtx_packets (s : State) (cl cx : Nat) (c : Ctx) : (s.setCtx cl cx c).packets = s.packets := rfl
@[simp] theorem State.setCtx_tasks (s : State) (cl cx : Nat) (c : Ctx) : (s.setCtx cl cx c).tasks = s.tasks := rfl
@[simp] theorem State.setCtx_launches (s : State) (cl cx : Nat) (c : Ctx) : (s.setCtx cl cx c).launches = s.launches := rfl
@[simp] theorem State.setCtx_kept (s : State) (cl cx : Nat) (c : Ctx) : (s.setCtx cl cx c).kept = s.kept := rfl
@[simp] theorem State.setCtx_dirs (s : State) (cl cx : Nat) (c : Ctx) : (s.setCtx cl cx c).dirs = s.dirs := rfl
@[simp] theorem State.setCtx_good (s : State) (cl cx : Nat) (c : Ctx) : (s.setCtx cl cx c).good = s.good := rfl
@[simp] theorem State.setCtx_strands (s : State) (cl cx : Nat) (c : Ctx) : (s.setCtx cl cx c).strands = s.strands := rfl
@[simp] theorem State.setCtx_free (s : State) (cl cx : Nat) (c : Ctx) : (s.setCtx cl cx c).free = s.free := rfl

/-! ### `State.modCtx` -/

@[simp] theorem State.modCtx_now (s : State) (cl cx : Nat) (f : Ctx → Ctx) : (s.modCtx cl cx f).now = s.now := rfl
@[simp] theorem State.modCtx_agenda (s : State) (cl cx : Nat) (f : Ctx → Ctx) : (s.modCtx cl cx f).agenda = s.agenda := rfl
@[simp] theorem State.modCtx_ev (s : State) (cl cx : Nat) (f : Ctx → Ctx) : (s.modCtx cl cx f).ev = s.ev := rfl
@[simp] theorem State.modCtx_issue (s : State) (cl cx : Nat) (f : Ctx → Ctx) : (s.modCtx cl cx f).issue = s.issue := rfl
@[simp] theorem State.modCtx_mem (s : State) (cl cx : Nat) (f : Ctx → Ctx) : (s.modCtx cl cx f).mem = s.mem := rfl
@[simp] theorem State.modCtx_syn (s : State) (cl cx : Nat) (f : Ctx → Ctx) : (s.modCtx cl cx f).syn = s.syn := rfl
@[simp] theorem State.modCtx_uid (s : State) (cl cx : Nat) (f : Ctx → Ctx) : (s.modCtx cl cx f).uid = s.uid := rfl
@[simp] theorem State.modCtx_clusters (s : State) (cl cx : Nat) (f : Ctx → Ctx) : (s.modCtx cl cx f).clusters = s.clusters := rfl
@[simp] theorem State.modCtx_fronds (s : State) (cl cx : Nat) (f : Ctx → Ctx) : (s.modCtx cl cx f).fronds = s.fronds := rfl
@[simp] theorem State.modCtx_archives (s : State) (cl cx : Nat) (f : Ctx → Ctx) : (s.modCtx cl cx f).archives = s.archives := rfl
@[simp] theorem State.modCtx_stops (s : State) (cl cx : Nat) (f : Ctx → Ctx) : (s.modCtx cl cx f).stops = s.stops := rfl
@[simp] theorem State.modCtx_port (s : State) (cl cx : Nat) (f : Ctx → Ctx) : (s.modCtx cl cx f).port = s.port := rfl
@[simp] theorem State.modCtx_copies (s : State) (cl cx : Nat) (f : Ctx → Ctx) : (s.modCtx cl cx f).copies = s.copies := rfl
@[simp] theorem State.modCtx_waiters (s : State) (cl cx : Nat) (f : Ctx → Ctx) : (s.modCtx cl cx f).waiters = s.waiters := rfl
@[simp] theorem State.modCtx_winWaiters (s : State) (cl cx : Nat) (f : Ctx → Ctx) : (s.modCtx cl cx f).winWaiters = s.winWaiters := rfl
@[simp] theorem State.modCtx_regions (s : State) (cl cx : Nat) (f : Ctx → Ctx) : (s.modCtx cl cx f).regions = s.regions := rfl
@[simp] theorem State.modCtx_packets (s : State) (cl cx : Nat) (f : Ctx → Ctx) : (s.modCtx cl cx f).packets = s.packets := rfl
@[simp] theorem State.modCtx_tasks (s : State) (cl cx : Nat) (f : Ctx → Ctx) : (s.modCtx cl cx f).tasks = s.tasks := rfl
@[simp] theorem State.modCtx_launches (s : State) (cl cx : Nat) (f : Ctx → Ctx) : (s.modCtx cl cx f).launches = s.launches := rfl
@[simp] theorem State.modCtx_kept (s : State) (cl cx : Nat) (f : Ctx → Ctx) : (s.modCtx cl cx f).kept = s.kept := rfl
@[simp] theorem State.modCtx_dirs (s : State) (cl cx : Nat) (f : Ctx → Ctx) : (s.modCtx cl cx f).dirs = s.dirs := rfl
@[simp] theorem State.modCtx_good (s : State) (cl cx : Nat) (f : Ctx → Ctx) : (s.modCtx cl cx f).good = s.good := rfl
@[simp] theorem State.modCtx_strands (s : State) (cl cx : Nat) (f : Ctx → Ctx) : (s.modCtx cl cx f).strands = s.strands := rfl
@[simp] theorem State.modCtx_free (s : State) (cl cx : Nat) (f : Ctx → Ctx) : (s.modCtx cl cx f).free = s.free := rfl

/-! ### `State.modIssue` -/

@[simp] theorem State.modIssue_now (s : State) (f : Ctx → Ctx) : (s.modIssue f).now = s.now := rfl
@[simp] theorem State.modIssue_agenda (s : State) (f : Ctx → Ctx) : (s.modIssue f).agenda = s.agenda := rfl
@[simp] theorem State.modIssue_ev (s : State) (f : Ctx → Ctx) : (s.modIssue f).ev = s.ev := rfl
@[simp] theorem State.modIssue_issue (s : State) (f : Ctx → Ctx) : (s.modIssue f).issue = s.issue := rfl
@[simp] theorem State.modIssue_mem (s : State) (f : Ctx → Ctx) : (s.modIssue f).mem = s.mem := rfl
@[simp] theorem State.modIssue_syn (s : State) (f : Ctx → Ctx) : (s.modIssue f).syn = s.syn := rfl
@[simp] theorem State.modIssue_uid (s : State) (f : Ctx → Ctx) : (s.modIssue f).uid = s.uid := rfl
@[simp] theorem State.modIssue_clusters (s : State) (f : Ctx → Ctx) : (s.modIssue f).clusters = s.clusters := rfl
@[simp] theorem State.modIssue_fronds (s : State) (f : Ctx → Ctx) : (s.modIssue f).fronds = s.fronds := rfl
@[simp] theorem State.modIssue_archives (s : State) (f : Ctx → Ctx) : (s.modIssue f).archives = s.archives := rfl
@[simp] theorem State.modIssue_stops (s : State) (f : Ctx → Ctx) : (s.modIssue f).stops = s.stops := rfl
@[simp] theorem State.modIssue_port (s : State) (f : Ctx → Ctx) : (s.modIssue f).port = s.port := rfl
@[simp] theorem State.modIssue_copies (s : State) (f : Ctx → Ctx) : (s.modIssue f).copies = s.copies := rfl
@[simp] theorem State.modIssue_waiters (s : State) (f : Ctx → Ctx) : (s.modIssue f).waiters = s.waiters := rfl
@[simp] theorem State.modIssue_winWaiters (s : State) (f : Ctx → Ctx) : (s.modIssue f).winWaiters = s.winWaiters := rfl
@[simp] theorem State.modIssue_regions (s : State) (f : Ctx → Ctx) : (s.modIssue f).regions = s.regions := rfl
@[simp] theorem State.modIssue_packets (s : State) (f : Ctx → Ctx) : (s.modIssue f).packets = s.packets := rfl
@[simp] theorem State.modIssue_tasks (s : State) (f : Ctx → Ctx) : (s.modIssue f).tasks = s.tasks := rfl
@[simp] theorem State.modIssue_launches (s : State) (f : Ctx → Ctx) : (s.modIssue f).launches = s.launches := rfl
@[simp] theorem State.modIssue_kept (s : State) (f : Ctx → Ctx) : (s.modIssue f).kept = s.kept := rfl
@[simp] theorem State.modIssue_dirs (s : State) (f : Ctx → Ctx) : (s.modIssue f).dirs = s.dirs := rfl
@[simp] theorem State.modIssue_good (s : State) (f : Ctx → Ctx) : (s.modIssue f).good = s.good := rfl
@[simp] theorem State.modIssue_strands (s : State) (f : Ctx → Ctx) : (s.modIssue f).strands = s.strands := rfl
@[simp] theorem State.modIssue_free (s : State) (f : Ctx → Ctx) : (s.modIssue f).free = s.free := rfl

/-! ### `State.modCluster` -/

@[simp] theorem State.modCluster_now (s : State) (cl : Nat) (f : Cluster → Cluster) : (s.modCluster cl f).now = s.now := rfl
@[simp] theorem State.modCluster_agenda (s : State) (cl : Nat) (f : Cluster → Cluster) : (s.modCluster cl f).agenda = s.agenda := rfl
@[simp] theorem State.modCluster_ev (s : State) (cl : Nat) (f : Cluster → Cluster) : (s.modCluster cl f).ev = s.ev := rfl
@[simp] theorem State.modCluster_issue (s : State) (cl : Nat) (f : Cluster → Cluster) : (s.modCluster cl f).issue = s.issue := rfl
@[simp] theorem State.modCluster_mem (s : State) (cl : Nat) (f : Cluster → Cluster) : (s.modCluster cl f).mem = s.mem := rfl
@[simp] theorem State.modCluster_syn (s : State) (cl : Nat) (f : Cluster → Cluster) : (s.modCluster cl f).syn = s.syn := rfl
@[simp] theorem State.modCluster_uid (s : State) (cl : Nat) (f : Cluster → Cluster) : (s.modCluster cl f).uid = s.uid := rfl
@[simp] theorem State.modCluster_ctxs (s : State) (cl : Nat) (f : Cluster → Cluster) : (s.modCluster cl f).ctxs = s.ctxs := rfl
@[simp] theorem State.modCluster_fronds (s : State) (cl : Nat) (f : Cluster → Cluster) : (s.modCluster cl f).fronds = s.fronds := rfl
@[simp] theorem State.modCluster_archives (s : State) (cl : Nat) (f : Cluster → Cluster) : (s.modCluster cl f).archives = s.archives := rfl
@[simp] theorem State.modCluster_stops (s : State) (cl : Nat) (f : Cluster → Cluster) : (s.modCluster cl f).stops = s.stops := rfl
@[simp] theorem State.modCluster_port (s : State) (cl : Nat) (f : Cluster → Cluster) : (s.modCluster cl f).port = s.port := rfl
@[simp] theorem State.modCluster_copies (s : State) (cl : Nat) (f : Cluster → Cluster) : (s.modCluster cl f).copies = s.copies := rfl
@[simp] theorem State.modCluster_waiters (s : State) (cl : Nat) (f : Cluster → Cluster) : (s.modCluster cl f).waiters = s.waiters := rfl
@[simp] theorem State.modCluster_winWaiters (s : State) (cl : Nat) (f : Cluster → Cluster) : (s.modCluster cl f).winWaiters = s.winWaiters := rfl
@[simp] theorem State.modCluster_regions (s : State) (cl : Nat) (f : Cluster → Cluster) : (s.modCluster cl f).regions = s.regions := rfl
@[simp] theorem State.modCluster_packets (s : State) (cl : Nat) (f : Cluster → Cluster) : (s.modCluster cl f).packets = s.packets := rfl
@[simp] theorem State.modCluster_tasks (s : State) (cl : Nat) (f : Cluster → Cluster) : (s.modCluster cl f).tasks = s.tasks := rfl
@[simp] theorem State.modCluster_launches (s : State) (cl : Nat) (f : Cluster → Cluster) : (s.modCluster cl f).launches = s.launches := rfl
@[simp] theorem State.modCluster_kept (s : State) (cl : Nat) (f : Cluster → Cluster) : (s.modCluster cl f).kept = s.kept := rfl
@[simp] theorem State.modCluster_dirs (s : State) (cl : Nat) (f : Cluster → Cluster) : (s.modCluster cl f).dirs = s.dirs := rfl
@[simp] theorem State.modCluster_good (s : State) (cl : Nat) (f : Cluster → Cluster) : (s.modCluster cl f).good = s.good := rfl
@[simp] theorem State.modCluster_strands (s : State) (cl : Nat) (f : Cluster → Cluster) : (s.modCluster cl f).strands = s.strands := rfl
@[simp] theorem State.modCluster_free (s : State) (cl : Nat) (f : Cluster → Cluster) : (s.modCluster cl f).free = s.free := rfl

/-! ### `State.modFrond` -/

@[simp] theorem State.modFrond_now (s : State) (d : Nat) (f : Frond → Frond) : (s.modFrond d f).now = s.now := rfl
@[simp] theorem State.modFrond_agenda (s : State) (d : Nat) (f : Frond → Frond) : (s.modFrond d f).agenda = s.agenda := rfl
@[simp] theorem State.modFrond_ev (s : State) (d : Nat) (f : Frond → Frond) : (s.modFrond d f).ev = s.ev := rfl
@[simp] theorem State.modFrond_issue (s : State) (d : Nat) (f : Frond → Frond) : (s.modFrond d f).issue = s.issue := rfl
@[simp] theorem State.modFrond_mem (s : State) (d : Nat) (f : Frond → Frond) : (s.modFrond d f).mem = s.mem := rfl
@[simp] theorem State.modFrond_syn (s : State) (d : Nat) (f : Frond → Frond) : (s.modFrond d f).syn = s.syn := rfl
@[simp] theorem State.modFrond_uid (s : State) (d : Nat) (f : Frond → Frond) : (s.modFrond d f).uid = s.uid := rfl
@[simp] theorem State.modFrond_ctxs (s : State) (d : Nat) (f : Frond → Frond) : (s.modFrond d f).ctxs = s.ctxs := rfl
@[simp] theorem State.modFrond_clusters (s : State) (d : Nat) (f : Frond → Frond) : (s.modFrond d f).clusters = s.clusters := rfl
@[simp] theorem State.modFrond_archives (s : State) (d : Nat) (f : Frond → Frond) : (s.modFrond d f).archives = s.archives := rfl
@[simp] theorem State.modFrond_stops (s : State) (d : Nat) (f : Frond → Frond) : (s.modFrond d f).stops = s.stops := rfl
@[simp] theorem State.modFrond_port (s : State) (d : Nat) (f : Frond → Frond) : (s.modFrond d f).port = s.port := rfl
@[simp] theorem State.modFrond_copies (s : State) (d : Nat) (f : Frond → Frond) : (s.modFrond d f).copies = s.copies := rfl
@[simp] theorem State.modFrond_waiters (s : State) (d : Nat) (f : Frond → Frond) : (s.modFrond d f).waiters = s.waiters := rfl
@[simp] theorem State.modFrond_winWaiters (s : State) (d : Nat) (f : Frond → Frond) : (s.modFrond d f).winWaiters = s.winWaiters := rfl
@[simp] theorem State.modFrond_regions (s : State) (d : Nat) (f : Frond → Frond) : (s.modFrond d f).regions = s.regions := rfl
@[simp] theorem State.modFrond_packets (s : State) (d : Nat) (f : Frond → Frond) : (s.modFrond d f).packets = s.packets := rfl
@[simp] theorem State.modFrond_tasks (s : State) (d : Nat) (f : Frond → Frond) : (s.modFrond d f).tasks = s.tasks := rfl
@[simp] theorem State.modFrond_launches (s : State) (d : Nat) (f : Frond → Frond) : (s.modFrond d f).launches = s.launches := rfl
@[simp] theorem State.modFrond_kept (s : State) (d : Nat) (f : Frond → Frond) : (s.modFrond d f).kept = s.kept := rfl
@[simp] theorem State.modFrond_dirs (s : State) (d : Nat) (f : Frond → Frond) : (s.modFrond d f).dirs = s.dirs := rfl
@[simp] theorem State.modFrond_good (s : State) (d : Nat) (f : Frond → Frond) : (s.modFrond d f).good = s.good := rfl
@[simp] theorem State.modFrond_strands (s : State) (d : Nat) (f : Frond → Frond) : (s.modFrond d f).strands = s.strands := rfl
@[simp] theorem State.modFrond_free (s : State) (d : Nat) (f : Frond → Frond) : (s.modFrond d f).free = s.free := rfl

/-! ### `State.modArchive` -/

@[simp] theorem State.modArchive_now (s : State) (a : Nat) (f : Archive → Archive) : (s.modArchive a f).now = s.now := rfl
@[simp] theorem State.modArchive_agenda (s : State) (a : Nat) (f : Archive → Archive) : (s.modArchive a f).agenda = s.agenda := rfl
@[simp] theorem State.modArchive_ev (s : State) (a : Nat) (f : Archive → Archive) : (s.modArchive a f).ev = s.ev := rfl
@[simp] theorem State.modArchive_issue (s : State) (a : Nat) (f : Archive → Archive) : (s.modArchive a f).issue = s.issue := rfl
@[simp] theorem State.modArchive_mem (s : State) (a : Nat) (f : Archive → Archive) : (s.modArchive a f).mem = s.mem := rfl
@[simp] theorem State.modArchive_syn (s : State) (a : Nat) (f : Archive → Archive) : (s.modArchive a f).syn = s.syn := rfl
@[simp] theorem State.modArchive_uid (s : State) (a : Nat) (f : Archive → Archive) : (s.modArchive a f).uid = s.uid := rfl
@[simp] theorem State.modArchive_ctxs (s : State) (a : Nat) (f : Archive → Archive) : (s.modArchive a f).ctxs = s.ctxs := rfl
@[simp] theorem State.modArchive_clusters (s : State) (a : Nat) (f : Archive → Archive) : (s.modArchive a f).clusters = s.clusters := rfl
@[simp] theorem State.modArchive_fronds (s : State) (a : Nat) (f : Archive → Archive) : (s.modArchive a f).fronds = s.fronds := rfl
@[simp] theorem State.modArchive_stops (s : State) (a : Nat) (f : Archive → Archive) : (s.modArchive a f).stops = s.stops := rfl
@[simp] theorem State.modArchive_port (s : State) (a : Nat) (f : Archive → Archive) : (s.modArchive a f).port = s.port := rfl
@[simp] theorem State.modArchive_copies (s : State) (a : Nat) (f : Archive → Archive) : (s.modArchive a f).copies = s.copies := rfl
@[simp] theorem State.modArchive_waiters (s : State) (a : Nat) (f : Archive → Archive) : (s.modArchive a f).waiters = s.waiters := rfl
@[simp] theorem State.modArchive_winWaiters (s : State) (a : Nat) (f : Archive → Archive) : (s.modArchive a f).winWaiters = s.winWaiters := rfl
@[simp] theorem State.modArchive_regions (s : State) (a : Nat) (f : Archive → Archive) : (s.modArchive a f).regions = s.regions := rfl
@[simp] theorem State.modArchive_packets (s : State) (a : Nat) (f : Archive → Archive) : (s.modArchive a f).packets = s.packets := rfl
@[simp] theorem State.modArchive_tasks (s : State) (a : Nat) (f : Archive → Archive) : (s.modArchive a f).tasks = s.tasks := rfl
@[simp] theorem State.modArchive_launches (s : State) (a : Nat) (f : Archive → Archive) : (s.modArchive a f).launches = s.launches := rfl
@[simp] theorem State.modArchive_kept (s : State) (a : Nat) (f : Archive → Archive) : (s.modArchive a f).kept = s.kept := rfl
@[simp] theorem State.modArchive_dirs (s : State) (a : Nat) (f : Archive → Archive) : (s.modArchive a f).dirs = s.dirs := rfl
@[simp] theorem State.modArchive_good (s : State) (a : Nat) (f : Archive → Archive) : (s.modArchive a f).good = s.good := rfl
@[simp] theorem State.modArchive_strands (s : State) (a : Nat) (f : Archive → Archive) : (s.modArchive a f).strands = s.strands := rfl
@[simp] theorem State.modArchive_free (s : State) (a : Nat) (f : Archive → Archive) : (s.modArchive a f).free = s.free := rfl

/-! ### `State.modStop` -/

@[simp] theorem State.modStop_now (s : State) (t : Nat) (f : Stop → Stop) : (s.modStop t f).now = s.now := rfl
@[simp] theorem State.modStop_agenda (s : State) (t : Nat) (f : Stop → Stop) : (s.modStop t f).agenda = s.agenda := rfl
@[simp] theorem State.modStop_ev (s : State) (t : Nat) (f : Stop → Stop) : (s.modStop t f).ev = s.ev := rfl
@[simp] theorem State.modStop_issue (s : State) (t : Nat) (f : Stop → Stop) : (s.modStop t f).issue = s.issue := rfl
@[simp] theorem State.modStop_mem (s : State) (t : Nat) (f : Stop → Stop) : (s.modStop t f).mem = s.mem := rfl
@[simp] theorem State.modStop_syn (s : State) (t : Nat) (f : Stop → Stop) : (s.modStop t f).syn = s.syn := rfl
@[simp] theorem State.modStop_uid (s : State) (t : Nat) (f : Stop → Stop) : (s.modStop t f).uid = s.uid := rfl
@[simp] theorem State.modStop_ctxs (s : State) (t : Nat) (f : Stop → Stop) : (s.modStop t f).ctxs = s.ctxs := rfl
@[simp] theorem State.modStop_clusters (s : State) (t : Nat) (f : Stop → Stop) : (s.modStop t f).clusters = s.clusters := rfl
@[simp] theorem State.modStop_fronds (s : State) (t : Nat) (f : Stop → Stop) : (s.modStop t f).fronds = s.fronds := rfl
@[simp] theorem State.modStop_archives (s : State) (t : Nat) (f : Stop → Stop) : (s.modStop t f).archives = s.archives := rfl
@[simp] theorem State.modStop_port (s : State) (t : Nat) (f : Stop → Stop) : (s.modStop t f).port = s.port := rfl
@[simp] theorem State.modStop_copies (s : State) (t : Nat) (f : Stop → Stop) : (s.modStop t f).copies = s.copies := rfl
@[simp] theorem State.modStop_waiters (s : State) (t : Nat) (f : Stop → Stop) : (s.modStop t f).waiters = s.waiters := rfl
@[simp] theorem State.modStop_winWaiters (s : State) (t : Nat) (f : Stop → Stop) : (s.modStop t f).winWaiters = s.winWaiters := rfl
@[simp] theorem State.modStop_regions (s : State) (t : Nat) (f : Stop → Stop) : (s.modStop t f).regions = s.regions := rfl
@[simp] theorem State.modStop_packets (s : State) (t : Nat) (f : Stop → Stop) : (s.modStop t f).packets = s.packets := rfl
@[simp] theorem State.modStop_tasks (s : State) (t : Nat) (f : Stop → Stop) : (s.modStop t f).tasks = s.tasks := rfl
@[simp] theorem State.modStop_launches (s : State) (t : Nat) (f : Stop → Stop) : (s.modStop t f).launches = s.launches := rfl
@[simp] theorem State.modStop_kept (s : State) (t : Nat) (f : Stop → Stop) : (s.modStop t f).kept = s.kept := rfl
@[simp] theorem State.modStop_dirs (s : State) (t : Nat) (f : Stop → Stop) : (s.modStop t f).dirs = s.dirs := rfl
@[simp] theorem State.modStop_good (s : State) (t : Nat) (f : Stop → Stop) : (s.modStop t f).good = s.good := rfl
@[simp] theorem State.modStop_strands (s : State) (t : Nat) (f : Stop → Stop) : (s.modStop t f).strands = s.strands := rfl
@[simp] theorem State.modStop_free (s : State) (t : Nat) (f : Stop → Stop) : (s.modStop t f).free = s.free := rfl

/-! ### `State.modPort` -/

@[simp] theorem State.modPort_now (s : State) (f : PortDie → PortDie) : (s.modPort f).now = s.now := rfl
@[simp] theorem State.modPort_agenda (s : State) (f : PortDie → PortDie) : (s.modPort f).agenda = s.agenda := rfl
@[simp] theorem State.modPort_ev (s : State) (f : PortDie → PortDie) : (s.modPort f).ev = s.ev := rfl
@[simp] theorem State.modPort_issue (s : State) (f : PortDie → PortDie) : (s.modPort f).issue = s.issue := rfl
@[simp] theorem State.modPort_mem (s : State) (f : PortDie → PortDie) : (s.modPort f).mem = s.mem := rfl
@[simp] theorem State.modPort_syn (s : State) (f : PortDie → PortDie) : (s.modPort f).syn = s.syn := rfl
@[simp] theorem State.modPort_uid (s : State) (f : PortDie → PortDie) : (s.modPort f).uid = s.uid := rfl
@[simp] theorem State.modPort_ctxs (s : State) (f : PortDie → PortDie) : (s.modPort f).ctxs = s.ctxs := rfl
@[simp] theorem State.modPort_clusters (s : State) (f : PortDie → PortDie) : (s.modPort f).clusters = s.clusters := rfl
@[simp] theorem State.modPort_fronds (s : State) (f : PortDie → PortDie) : (s.modPort f).fronds = s.fronds := rfl
@[simp] theorem State.modPort_archives (s : State) (f : PortDie → PortDie) : (s.modPort f).archives = s.archives := rfl
@[simp] theorem State.modPort_stops (s : State) (f : PortDie → PortDie) : (s.modPort f).stops = s.stops := rfl
@[simp] theorem State.modPort_copies (s : State) (f : PortDie → PortDie) : (s.modPort f).copies = s.copies := rfl
@[simp] theorem State.modPort_waiters (s : State) (f : PortDie → PortDie) : (s.modPort f).waiters = s.waiters := rfl
@[simp] theorem State.modPort_winWaiters (s : State) (f : PortDie → PortDie) : (s.modPort f).winWaiters = s.winWaiters := rfl
@[simp] theorem State.modPort_regions (s : State) (f : PortDie → PortDie) : (s.modPort f).regions = s.regions := rfl
@[simp] theorem State.modPort_packets (s : State) (f : PortDie → PortDie) : (s.modPort f).packets = s.packets := rfl
@[simp] theorem State.modPort_tasks (s : State) (f : PortDie → PortDie) : (s.modPort f).tasks = s.tasks := rfl
@[simp] theorem State.modPort_launches (s : State) (f : PortDie → PortDie) : (s.modPort f).launches = s.launches := rfl
@[simp] theorem State.modPort_kept (s : State) (f : PortDie → PortDie) : (s.modPort f).kept = s.kept := rfl
@[simp] theorem State.modPort_dirs (s : State) (f : PortDie → PortDie) : (s.modPort f).dirs = s.dirs := rfl
@[simp] theorem State.modPort_good (s : State) (f : PortDie → PortDie) : (s.modPort f).good = s.good := rfl
@[simp] theorem State.modPort_strands (s : State) (f : PortDie → PortDie) : (s.modPort f).strands = s.strands := rfl
@[simp] theorem State.modPort_free (s : State) (f : PortDie → PortDie) : (s.modPort f).free = s.free := rfl

/-! ### `State.post` -/

@[simp] theorem State.post_now (s : State) (t : Nat) (i : Instr) (a : EvArg) : (s.post t i a).now = s.now := rfl
@[simp] theorem State.post_ev (s : State) (t : Nat) (i : Instr) (a : EvArg) : (s.post t i a).ev = s.ev := rfl
@[simp] theorem State.post_issue (s : State) (t : Nat) (i : Instr) (a : EvArg) : (s.post t i a).issue = s.issue := rfl
@[simp] theorem State.post_mem (s : State) (t : Nat) (i : Instr) (a : EvArg) : (s.post t i a).mem = s.mem := rfl
@[simp] theorem State.post_syn (s : State) (t : Nat) (i : Instr) (a : EvArg) : (s.post t i a).syn = s.syn := rfl
@[simp] theorem State.post_uid (s : State) (t : Nat) (i : Instr) (a : EvArg) : (s.post t i a).uid = s.uid := rfl
@[simp] theorem State.post_ctxs (s : State) (t : Nat) (i : Instr) (a : EvArg) : (s.post t i a).ctxs = s.ctxs := rfl
@[simp] theorem State.post_clusters (s : State) (t : Nat) (i : Instr) (a : EvArg) : (s.post t i a).clusters = s.clusters := rfl
@[simp] theorem State.post_fronds (s : State) (t : Nat) (i : Instr) (a : EvArg) : (s.post t i a).fronds = s.fronds := rfl
@[simp] theorem State.post_archives (s : State) (t : Nat) (i : Instr) (a : EvArg) : (s.post t i a).archives = s.archives := rfl
@[simp] theorem State.post_stops (s : State) (t : Nat) (i : Instr) (a : EvArg) : (s.post t i a).stops = s.stops := rfl
@[simp] theorem State.post_port (s : State) (t : Nat) (i : Instr) (a : EvArg) : (s.post t i a).port = s.port := rfl
@[simp] theorem State.post_copies (s : State) (t : Nat) (i : Instr) (a : EvArg) : (s.post t i a).copies = s.copies := rfl
@[simp] theorem State.post_waiters (s : State) (t : Nat) (i : Instr) (a : EvArg) : (s.post t i a).waiters = s.waiters := rfl
@[simp] theorem State.post_winWaiters (s : State) (t : Nat) (i : Instr) (a : EvArg) : (s.post t i a).winWaiters = s.winWaiters := rfl
@[simp] theorem State.post_regions (s : State) (t : Nat) (i : Instr) (a : EvArg) : (s.post t i a).regions = s.regions := rfl
@[simp] theorem State.post_packets (s : State) (t : Nat) (i : Instr) (a : EvArg) : (s.post t i a).packets = s.packets := rfl
@[simp] theorem State.post_tasks (s : State) (t : Nat) (i : Instr) (a : EvArg) : (s.post t i a).tasks = s.tasks := rfl
@[simp] theorem State.post_launches (s : State) (t : Nat) (i : Instr) (a : EvArg) : (s.post t i a).launches = s.launches := rfl
@[simp] theorem State.post_kept (s : State) (t : Nat) (i : Instr) (a : EvArg) : (s.post t i a).kept = s.kept := rfl
@[simp] theorem State.post_dirs (s : State) (t : Nat) (i : Instr) (a : EvArg) : (s.post t i a).dirs = s.dirs := rfl
@[simp] theorem State.post_good (s : State) (t : Nat) (i : Instr) (a : EvArg) : (s.post t i a).good = s.good := rfl
@[simp] theorem State.post_strands (s : State) (t : Nat) (i : Instr) (a : EvArg) : (s.post t i a).strands = s.strands := rfl
@[simp] theorem State.post_free (s : State) (t : Nat) (i : Instr) (a : EvArg) : (s.post t i a).free = s.free := rfl

/-! ### `State.writeN` -/

@[simp] theorem State.writeN_now (s : State) (a : Nat) (bs : List Byte) : (s.writeN a bs).now = s.now := rfl
@[simp] theorem State.writeN_agenda (s : State) (a : Nat) (bs : List Byte) : (s.writeN a bs).agenda = s.agenda := rfl
@[simp] theorem State.writeN_ev (s : State) (a : Nat) (bs : List Byte) : (s.writeN a bs).ev = s.ev := rfl
@[simp] theorem State.writeN_issue (s : State) (a : Nat) (bs : List Byte) : (s.writeN a bs).issue = s.issue := rfl
@[simp] theorem State.writeN_syn (s : State) (a : Nat) (bs : List Byte) : (s.writeN a bs).syn = s.syn := rfl
@[simp] theorem State.writeN_uid (s : State) (a : Nat) (bs : List Byte) : (s.writeN a bs).uid = s.uid := rfl
@[simp] theorem State.writeN_ctxs (s : State) (a : Nat) (bs : List Byte) : (s.writeN a bs).ctxs = s.ctxs := rfl
@[simp] theorem State.writeN_clusters (s : State) (a : Nat) (bs : List Byte) : (s.writeN a bs).clusters = s.clusters := rfl
@[simp] theorem State.writeN_fronds (s : State) (a : Nat) (bs : List Byte) : (s.writeN a bs).fronds = s.fronds := rfl
@[simp] theorem State.writeN_archives (s : State) (a : Nat) (bs : List Byte) : (s.writeN a bs).archives = s.archives := rfl
@[simp] theorem State.writeN_stops (s : State) (a : Nat) (bs : List Byte) : (s.writeN a bs).stops = s.stops := rfl
@[simp] theorem State.writeN_port (s : State) (a : Nat) (bs : List Byte) : (s.writeN a bs).port = s.port := rfl
@[simp] theorem State.writeN_copies (s : State) (a : Nat) (bs : List Byte) : (s.writeN a bs).copies = s.copies := rfl
@[simp] theorem State.writeN_waiters (s : State) (a : Nat) (bs : List Byte) : (s.writeN a bs).waiters = s.waiters := rfl
@[simp] theorem State.writeN_winWaiters (s : State) (a : Nat) (bs : List Byte) : (s.writeN a bs).winWaiters = s.winWaiters := rfl
@[simp] theorem State.writeN_regions (s : State) (a : Nat) (bs : List Byte) : (s.writeN a bs).regions = s.regions := rfl
@[simp] theorem State.writeN_packets (s : State) (a : Nat) (bs : List Byte) : (s.writeN a bs).packets = s.packets := rfl
@[simp] theorem State.writeN_tasks (s : State) (a : Nat) (bs : List Byte) : (s.writeN a bs).tasks = s.tasks := rfl
@[simp] theorem State.writeN_launches (s : State) (a : Nat) (bs : List Byte) : (s.writeN a bs).launches = s.launches := rfl
@[simp] theorem State.writeN_kept (s : State) (a : Nat) (bs : List Byte) : (s.writeN a bs).kept = s.kept := rfl
@[simp] theorem State.writeN_dirs (s : State) (a : Nat) (bs : List Byte) : (s.writeN a bs).dirs = s.dirs := rfl
@[simp] theorem State.writeN_good (s : State) (a : Nat) (bs : List Byte) : (s.writeN a bs).good = s.good := rfl
@[simp] theorem State.writeN_strands (s : State) (a : Nat) (bs : List Byte) : (s.writeN a bs).strands = s.strands := rfl
@[simp] theorem State.writeN_free (s : State) (a : Nat) (bs : List Byte) : (s.writeN a bs).free = s.free := rfl

/-! ### `State.scrub` -/

@[simp] theorem State.scrub_now (s : State) (a n : Nat) : (s.scrub a n).now = s.now := rfl
@[simp] theorem State.scrub_agenda (s : State) (a n : Nat) : (s.scrub a n).agenda = s.agenda := rfl
@[simp] theorem State.scrub_ev (s : State) (a n : Nat) : (s.scrub a n).ev = s.ev := rfl
@[simp] theorem State.scrub_issue (s : State) (a n : Nat) : (s.scrub a n).issue = s.issue := rfl
@[simp] theorem State.scrub_uid (s : State) (a n : Nat) : (s.scrub a n).uid = s.uid := rfl
@[simp] theorem State.scrub_ctxs (s : State) (a n : Nat) : (s.scrub a n).ctxs = s.ctxs := rfl
@[simp] theorem State.scrub_clusters (s : State) (a n : Nat) : (s.scrub a n).clusters = s.clusters := rfl
@[simp] theorem State.scrub_fronds (s : State) (a n : Nat) : (s.scrub a n).fronds = s.fronds := rfl
@[simp] theorem State.scrub_archives (s : State) (a n : Nat) : (s.scrub a n).archives = s.archives := rfl
@[simp] theorem State.scrub_stops (s : State) (a n : Nat) : (s.scrub a n).stops = s.stops := rfl
@[simp] theorem State.scrub_port (s : State) (a n : Nat) : (s.scrub a n).port = s.port := rfl
@[simp] theorem State.scrub_copies (s : State) (a n : Nat) : (s.scrub a n).copies = s.copies := rfl
@[simp] theorem State.scrub_waiters (s : State) (a n : Nat) : (s.scrub a n).waiters = s.waiters := rfl
@[simp] theorem State.scrub_winWaiters (s : State) (a n : Nat) : (s.scrub a n).winWaiters = s.winWaiters := rfl
@[simp] theorem State.scrub_regions (s : State) (a n : Nat) : (s.scrub a n).regions = s.regions := rfl
@[simp] theorem State.scrub_packets (s : State) (a n : Nat) : (s.scrub a n).packets = s.packets := rfl
@[simp] theorem State.scrub_tasks (s : State) (a n : Nat) : (s.scrub a n).tasks = s.tasks := rfl
@[simp] theorem State.scrub_launches (s : State) (a n : Nat) : (s.scrub a n).launches = s.launches := rfl
@[simp] theorem State.scrub_kept (s : State) (a n : Nat) : (s.scrub a n).kept = s.kept := rfl
@[simp] theorem State.scrub_dirs (s : State) (a n : Nat) : (s.scrub a n).dirs = s.dirs := rfl
@[simp] theorem State.scrub_good (s : State) (a n : Nat) : (s.scrub a n).good = s.good := rfl
@[simp] theorem State.scrub_strands (s : State) (a n : Nat) : (s.scrub a n).strands = s.strands := rfl
@[simp] theorem State.scrub_free (s : State) (a n : Nat) : (s.scrub a n).free = s.free := rfl

/-! ### `State.endBundle` -/

@[simp] theorem State.endBundle_now (s : State) : (s.endBundle).now = s.now := rfl
@[simp] theorem State.endBundle_agenda (s : State) : (s.endBundle).agenda = s.agenda := rfl
@[simp] theorem State.endBundle_ev (s : State) : (s.endBundle).ev = s.ev := rfl
@[simp] theorem State.endBundle_mem (s : State) : (s.endBundle).mem = s.mem := rfl
@[simp] theorem State.endBundle_syn (s : State) : (s.endBundle).syn = s.syn := rfl
@[simp] theorem State.endBundle_uid (s : State) : (s.endBundle).uid = s.uid := rfl
@[simp] theorem State.endBundle_ctxs (s : State) : (s.endBundle).ctxs = s.ctxs := rfl
@[simp] theorem State.endBundle_clusters (s : State) : (s.endBundle).clusters = s.clusters := rfl
@[simp] theorem State.endBundle_fronds (s : State) : (s.endBundle).fronds = s.fronds := rfl
@[simp] theorem State.endBundle_archives (s : State) : (s.endBundle).archives = s.archives := rfl
@[simp] theorem State.endBundle_stops (s : State) : (s.endBundle).stops = s.stops := rfl
@[simp] theorem State.endBundle_port (s : State) : (s.endBundle).port = s.port := rfl
@[simp] theorem State.endBundle_copies (s : State) : (s.endBundle).copies = s.copies := rfl
@[simp] theorem State.endBundle_waiters (s : State) : (s.endBundle).waiters = s.waiters := rfl
@[simp] theorem State.endBundle_winWaiters (s : State) : (s.endBundle).winWaiters = s.winWaiters := rfl
@[simp] theorem State.endBundle_regions (s : State) : (s.endBundle).regions = s.regions := rfl
@[simp] theorem State.endBundle_packets (s : State) : (s.endBundle).packets = s.packets := rfl
@[simp] theorem State.endBundle_tasks (s : State) : (s.endBundle).tasks = s.tasks := rfl
@[simp] theorem State.endBundle_launches (s : State) : (s.endBundle).launches = s.launches := rfl
@[simp] theorem State.endBundle_kept (s : State) : (s.endBundle).kept = s.kept := rfl
@[simp] theorem State.endBundle_dirs (s : State) : (s.endBundle).dirs = s.dirs := rfl
@[simp] theorem State.endBundle_good (s : State) : (s.endBundle).good = s.good := rfl
@[simp] theorem State.endBundle_strands (s : State) : (s.endBundle).strands = s.strands := rfl
@[simp] theorem State.endBundle_free (s : State) : (s.endBundle).free = s.free := rfl

/-! ### `State.atSlot` -/

@[simp] theorem State.atSlot_now (s : State) (n : Nat) : (s.atSlot n).now = s.now := rfl
@[simp] theorem State.atSlot_agenda (s : State) (n : Nat) : (s.atSlot n).agenda = s.agenda := rfl
@[simp] theorem State.atSlot_ev (s : State) (n : Nat) : (s.atSlot n).ev = s.ev := rfl
@[simp] theorem State.atSlot_mem (s : State) (n : Nat) : (s.atSlot n).mem = s.mem := rfl
@[simp] theorem State.atSlot_syn (s : State) (n : Nat) : (s.atSlot n).syn = s.syn := rfl
@[simp] theorem State.atSlot_uid (s : State) (n : Nat) : (s.atSlot n).uid = s.uid := rfl
@[simp] theorem State.atSlot_ctxs (s : State) (n : Nat) : (s.atSlot n).ctxs = s.ctxs := rfl
@[simp] theorem State.atSlot_clusters (s : State) (n : Nat) : (s.atSlot n).clusters = s.clusters := rfl
@[simp] theorem State.atSlot_fronds (s : State) (n : Nat) : (s.atSlot n).fronds = s.fronds := rfl
@[simp] theorem State.atSlot_archives (s : State) (n : Nat) : (s.atSlot n).archives = s.archives := rfl
@[simp] theorem State.atSlot_stops (s : State) (n : Nat) : (s.atSlot n).stops = s.stops := rfl
@[simp] theorem State.atSlot_port (s : State) (n : Nat) : (s.atSlot n).port = s.port := rfl
@[simp] theorem State.atSlot_copies (s : State) (n : Nat) : (s.atSlot n).copies = s.copies := rfl
@[simp] theorem State.atSlot_waiters (s : State) (n : Nat) : (s.atSlot n).waiters = s.waiters := rfl
@[simp] theorem State.atSlot_winWaiters (s : State) (n : Nat) : (s.atSlot n).winWaiters = s.winWaiters := rfl
@[simp] theorem State.atSlot_regions (s : State) (n : Nat) : (s.atSlot n).regions = s.regions := rfl
@[simp] theorem State.atSlot_packets (s : State) (n : Nat) : (s.atSlot n).packets = s.packets := rfl
@[simp] theorem State.atSlot_tasks (s : State) (n : Nat) : (s.atSlot n).tasks = s.tasks := rfl
@[simp] theorem State.atSlot_launches (s : State) (n : Nat) : (s.atSlot n).launches = s.launches := rfl
@[simp] theorem State.atSlot_kept (s : State) (n : Nat) : (s.atSlot n).kept = s.kept := rfl
@[simp] theorem State.atSlot_dirs (s : State) (n : Nat) : (s.atSlot n).dirs = s.dirs := rfl
@[simp] theorem State.atSlot_good (s : State) (n : Nat) : (s.atSlot n).good = s.good := rfl
@[simp] theorem State.atSlot_strands (s : State) (n : Nat) : (s.atSlot n).strands = s.strands := rfl
@[simp] theorem State.atSlot_free (s : State) (n : Nat) : (s.atSlot n).free = s.free := rfl

/-! ### Reading a part after an update -/

@[simp] theorem State.ctx_setCtx (s : State) (cl cx : Nat) (c : Ctx) : (s.setCtx cl cx c).ctx cl cx = c :=
  NMap.getD_set_self _ _ _ _

theorem State.ctx_setCtx_of_ne (s : State) {cl cx cl' cx' : Nat} (c : Ctx) (h : ctxKey cl' cx' ≠ ctxKey cl cx) :
    (s.setCtx cl cx c).ctx cl' cx' = s.ctx cl' cx' := NMap.getD_set_of_ne _ _ _ h

@[simp] theorem State.ctx_modCtx (s : State) (cl cx : Nat) (f : Ctx → Ctx) :
    (s.modCtx cl cx f).ctx cl cx = f (s.ctx cl cx) := State.ctx_setCtx _ _ _ _

@[simp] theorem State.issueCtx_modIssue (s : State) (f : Ctx → Ctx) : (s.modIssue f).issueCtx = f s.issueCtx :=
  State.ctx_setCtx _ _ _ _

@[simp] theorem State.setCtx_setCtx (s : State) (cl cx : Nat) (c d : Ctx) :
    (s.setCtx cl cx c).setCtx cl cx d = s.setCtx cl cx d := by
  simp only [State.setCtx, NMap.set_set]

@[simp] theorem State.cluster_modCluster (s : State) (cl : Nat) (f : Cluster → Cluster) :
    (s.modCluster cl f).cluster cl = f (s.cluster cl) := NMap.getD_set_self _ _ _ _

theorem State.cluster_modCluster_of_ne (s : State) {cl cl' : Nat} (f : Cluster → Cluster) (h : cl' ≠ cl) :
    (s.modCluster cl f).cluster cl' = s.cluster cl' := NMap.getD_set_of_ne _ _ _ h

@[simp] theorem State.frond_modFrond (s : State) (d : Nat) (f : Frond → Frond) :
    (s.modFrond d f).frond d = f (s.frond d) := NMap.getD_set_self _ _ _ _

@[simp] theorem State.archive_modArchive (s : State) (a : Nat) (f : Archive → Archive) :
    (s.modArchive a f).archive a = f (s.archive a) := NMap.getD_set_self _ _ _ _

@[simp] theorem State.stop_modStop (s : State) (t : Nat) (f : Stop → Stop) :
    (s.modStop t f).stop t = f (s.stop t) := NMap.getD_set_self _ _ _ _

@[simp] theorem State.port_modPort (s : State) (f : PortDie → PortDie) : (s.modPort f).port = f s.port := rfl

@[simp] theorem State.ctx_modCluster (s : State) (cl cl' cx : Nat) (f : Cluster → Cluster) :
    (s.modCluster cl f).ctx cl' cx = s.ctx cl' cx := rfl

@[simp] theorem State.ctx_post (s : State) (t cl cx : Nat) (i : Instr) (a : EvArg) :
    (s.post t i a).ctx cl cx = s.ctx cl cx := rfl

@[simp] theorem State.cluster_setCtx (s : State) (cl cl' cx : Nat) (c : Ctx) :
    (s.setCtx cl cx c).cluster cl' = s.cluster cl' := rfl

@[simp] theorem State.cluster_modCtx (s : State) (cl cl' cx : Nat) (f : Ctx → Ctx) :
    (s.modCtx cl cx f).cluster cl' = s.cluster cl' := rfl

@[simp] theorem State.cluster_post (s : State) (t cl : Nat) (i : Instr) (a : EvArg) :
    (s.post t i a).cluster cl = s.cluster cl := rfl

/-- Changing a context is replacing it by the changed one. -/
theorem State.modCtx_eq (s : State) (cl cx : Nat) (f : Ctx → Ctx) : s.modCtx cl cx f = s.setCtx cl cx (f (s.ctx cl cx)) := rfl

/-- Changing the context of the bundle in issue. -/
theorem State.modIssue_eq (s : State) (f : Ctx → Ctx) :
    s.modIssue f = s.setCtx s.issue.cl s.issue.cx (f s.issueCtx) := rfl

end Sys2Proof.Machine
end

