-- ==== Sys2Proof/Laws/Agenda.lean ====
section
/-! SUPPORT. What the agenda holds after an event is posted, and that it stays in the order of its cycles. -/

namespace Sys2Proof.Machine

@[simp] theorem mem_insertPending {x p : Pending} {l : List Pending} : x ∈ insertPending p l ↔ x = p ∨ x ∈ l := by
  induction l with
  | nil => simp [insertPending]
  | cons q r ih =>
    unfold insertPending
    split
    · simp
    · simp only [List.mem_cons, ih]
      exact or_left_comm

@[simp] theorem length_insertPending (p : Pending) (l : List Pending) : (insertPending p l).length = l.length + 1 := by
  induction l with
  | nil => rfl
  | cons q r ih =>
    unfold insertPending
    split
    · rfl
    · simp [ih]

/-- Events in the order of their cycles, and of their ranks within one. -/
def Pending.before (a b : Pending) : Prop := a.time < b.time ∨ (a.time = b.time ∧ a.rank ≤ b.rank)

/-- An event goes behind those of its cycle and rank and earlier ones. -/
theorem insertPending_before {p : Pending} {l : List Pending} (h : l.Pairwise Pending.before) :
    (insertPending p l).Pairwise Pending.before := by
  induction l with
  | nil => simp [insertPending]
  | cons q r ih =>
    rw [List.pairwise_cons] at h
    unfold insertPending
    split
    · refine List.pairwise_cons.2 ⟨?_, List.pairwise_cons.2 h⟩
      rintro b hb
      rcases List.mem_cons.1 hb with rfl | hb
      · unfold Pending.before; omega
      · have := h.1 b hb
        unfold Pending.before at *; omega
    · refine List.pairwise_cons.2 ⟨?_, ih h.2⟩
      rintro b hb
      rcases mem_insertPending.1 hb with rfl | hb
      · unfold Pending.before; omega
      · exact h.1 b hb

/-- An event goes behind those of earlier cycles. -/
theorem insertPending_pairwise {p : Pending} {l : List Pending} (h : l.Pairwise (fun a b => a.time ≤ b.time)) :
    (insertPending p l).Pairwise (fun a b => a.time ≤ b.time) := by
  induction l with
  | nil => simp [insertPending]
  | cons q r ih =>
    rw [List.pairwise_cons] at h
    unfold insertPending
    split
    · rename_i hq
      refine List.pairwise_cons.2 ⟨?_, List.pairwise_cons.2 h⟩
      rintro b hb
      rcases List.mem_cons.1 hb with rfl | hb
      · omega
      · have := h.1 b hb
        omega
    · rename_i hq
      refine List.pairwise_cons.2 ⟨?_, ih h.2⟩
      rintro b hb
      rcases mem_insertPending.1 hb with rfl | hb
      · omega
      · exact h.1 b hb

/-- Posting adds one event, at its cycle or now when that has passed. -/
theorem State.mem_agenda_post {s : State} {t : Nat} {i : Instr} {a : EvArg} {x : Pending} :
    x ∈ (s.post t i a).agenda ↔ x = { time := max t s.now, ev := i, arg := a } ∨ x ∈ s.agenda :=
  mem_insertPending

/-- What was on the agenda stays there when an event is posted. -/
theorem State.mem_agenda_post_of_mem {s : State} {x : Pending} (h : x ∈ s.agenda) (t : Nat) (i : Instr) (a : EvArg) :
    x ∈ (s.post t i a).agenda := State.mem_agenda_post.2 (.inr h)

/-- The event posted is on the agenda. -/
theorem State.post_mem_agenda (s : State) (t : Nat) (i : Instr) (a : EvArg) :
    { time := max t s.now, ev := i, arg := a } ∈ (s.post t i a).agenda := State.mem_agenda_post.2 (.inl rfl)

end Sys2Proof.Machine
end

