-- ==== Sys2Proof/Laws/Issue.lean ====
section
/-! SUPPORT. What a slot word does inside a bundle, what a move does, and what closing a bundle comes to. -/

namespace Sys2Proof.Machine

/-- Inside a bundle a slot word has its effect at once. -/
theorem State.asBundle_of_issue {s : State} (h : s.issue.live = false) (i : Instr) (f : State → State) :
    s.asBundle i f = f s := by
  simp [State.asBundle, h]

/-- A performed move takes the next source value. -/
theorem State.move_of_guard {s : State} {m : MoveSrc} (h : guardOn s.issue.p m = true) (f : W64 → State → State) :
    s.move m f = f (s.issue.srcs.headD 0) { s with issue := { s.issue with srcs := s.issue.srcs.tail } } := by
  simp [State.move, h]

/-- A move whose guard fails has no effect (R152). -/
theorem State.move_of_not_guard {s : State} {m : MoveSrc} (h : guardOn s.issue.p m = false) (f : W64 → State → State) :
    s.move m f = s := by
  simp [State.move, h]

/-- The context of a bundle after its header, when the bundle is closed at `succ`. -/
def Ctx.closedAt (c : Ctx) (u : Issue) (now : Nat) (stall : BitVec 3) (succ : BitVec 30) : Ctx :=
  { c with pc := succ, bpc := u.pc, tLast := now, stallLast := stall.toNat, nextIssue := now + 1 + stall.toNat
           owed := 0, seg := { c.seg with crc := crcHeader c.seg.crc u.hdr } }

@[simp] theorem Ctx.blocked_closedAt (c : Ctx) (u : Issue) (now : Nat) (st : BitVec 3) (pc : BitVec 30) :
    (c.closedAt u now st pc).blocked = c.blocked := rfl

/-- The state after a bundle's header, before a blocked context gives the sequencer up. -/
def State.closedAt (s : State) (st : BitVec 3) (pc : BitVec 30) : State :=
  { s.setCtx s.issue.cl s.issue.cx (s.issueCtx.closedAt s.issue s.now st pc) with
    issue := { s.issue with succ := none, far := none } }

/-- Closing a bundle (R23, R141). -/
theorem State.close_eq (s : State) (st : BitVec 3) (pc : BitVec 30) :
    s.close st pc = if s.issueCtx.blocked then (s.closedAt st pc).releaseSeq s.issue.cl s.issue.cx
      else s.closedAt st pc := by
  have h : ((s.closedAt st pc).ctx s.issue.cl s.issue.cx).blocked = s.issueCtx.blocked := by
    show ((s.setCtx _ _ _).ctx _ _).blocked = _
    simp
  show (if ((s.closedAt st pc).ctx s.issue.cl s.issue.cx).blocked then _ else _) = _
  rw [h]
  rfl

/-- Closing the bundle of a context that does not wait. -/
theorem State.close_of_not_blocked {s : State} (h : s.issueCtx.blocked = false) (st : BitVec 3) (pc : BitVec 30) :
    s.close st pc = s.closedAt st pc := by
  rw [State.close_eq, h]
  rfl

/-- Four times a displacement. -/
theorem shiftLeft_two (x : BitVec 30) : x <<< 2 = 4 * x := by
  apply BitVec.eq_of_toNat_eq
  simp [Nat.shiftLeft_eq, Nat.mul_comm]

end Sys2Proof.Machine
end

