-- ==== Sys2Proof/Laws/Memory.lean ====
section
/-! SUPPORT. Reading memory after writing or clearing it, and the canonical form that every memory operation keeps. -/

namespace Sys2Proof.Machine

open Host (Cell)

/-! ### Reading -/

theorem memGet_append (m r : List Cell) (a : Nat) :
    memGet (m ++ r) a = if m.any (fun c => c.1 == a) then memGet m a else memGet r a := by
  induction m with
  | nil => simp
  | cons c m ih =>
    obtain ⟨k, v⟩ := c
    by_cases h : k = a <;> simp [memGet, h, ih]

/-- A filter that keeps an address leaves what it reads as. -/
theorem memGet_filter_of_keep (m : List Cell) (p : Cell → Bool) (a : Nat) (h : ∀ v, p (a, v) = true) :
    memGet (m.filter p) a = memGet m a := by
  induction m with
  | nil => rfl
  | cons c m ih =>
    obtain ⟨k, v⟩ := c
    by_cases hk : k = a
    · subst hk; simp [h, memGet]
    · by_cases hp : p (k, v) = true <;> simp [hp, memGet, hk, ih]

/-- An address that no cell lists reads as zero. -/
theorem memGet_of_not_listed (m : List Cell) (a : Nat) (h : ∀ c ∈ m, c.1 ≠ a) : memGet m a = 0 := by
  induction m with
  | nil => rfl
  | cons c m ih =>
    obtain ⟨k, v⟩ := c
    have hk : k ≠ a := h (k, v) (by simp)
    simpa [memGet, hk] using ih fun c hc => h c (by simp [hc])

theorem cellsOf_zero (a : Nat) (r : List Byte) : cellsOf a (0 :: r) = cellsOf (a + 1) r := if_pos rfl

theorem cellsOf_of_ne_zero (a : Nat) {b : Byte} (h : b ≠ 0) (r : List Byte) :
    cellsOf a (b :: r) = (a, b) :: cellsOf (a + 1) r := if_neg h

theorem mem_cellsOf {c : Cell} {a : Nat} {bs : List Byte} (h : c ∈ cellsOf a bs) :
    a ≤ c.1 ∧ c.1 < a + bs.length ∧ c.2 ≠ 0 := by
  induction bs generalizing a with
  | nil => cases h
  | cons b r ih =>
    rw [List.length_cons]
    by_cases hb : b = 0
    · subst hb
      obtain ⟨h1, h2, h3⟩ := ih (cellsOf_zero a r ▸ h)
      exact ⟨by omega, by omega, h3⟩
    · rw [cellsOf_of_ne_zero a hb, List.mem_cons] at h
      rcases h with rfl | h
      · exact ⟨Nat.le_refl _, by dsimp only; omega, hb⟩
      · obtain ⟨h1, h2, h3⟩ := ih h
        exact ⟨by omega, by omega, h3⟩

/-- The cells of some bytes read as those bytes. -/
theorem memGet_cellsOf (a : Nat) (bs : List Byte) (i : Nat) : memGet (cellsOf a bs) (a + i) = bs.getD i 0 := by
  induction bs generalizing a i with
  | nil => simp [cellsOf, memGet]
  | cons b r ih =>
    cases i with
    | zero =>
      by_cases hb : b = 0
      · subst hb
        rw [cellsOf_zero]
        exact memGet_of_not_listed _ _ fun c hc => by have := (mem_cellsOf hc).1; omega
      · rw [cellsOf_of_ne_zero a hb]
        simp [memGet]
    | succ i =>
      have e : a + (i + 1) = a + 1 + i := by omega
      rw [e, List.getD_cons_succ, ← ih]
      by_cases hb : b = 0
      · subst hb; rw [cellsOf_zero]
      · rw [cellsOf_of_ne_zero a hb, memGet, if_neg (by omega)]

/-- A byte that a write stores reads as what it stored, whatever memory lists. -/
theorem memGet_memWrite_in (m : List Cell) (a : Nat) (bs : List Byte) {i : Nat} (h : i < bs.length) :
    memGet (memWrite m a bs) (a + i) = bs.getD i 0 := by
  have hlow : ∀ c ∈ m.filter (fun c => decide (c.1 < a)), c.1 ≠ a + i := by
    intro c hc
    have := (List.mem_filter.1 hc).2
    simp at this
    omega
  have hhigh : ∀ c ∈ m.filter (fun c => decide (a + bs.length ≤ c.1)), c.1 ≠ a + i := by
    intro c hc
    have := (List.mem_filter.1 hc).2
    simp at this
    omega
  have hl : (m.filter (fun c => decide (c.1 < a))).any (fun c => c.1 == a + i) = false := by
    simp only [List.any_eq_false, beq_iff_eq]
    exact hlow
  rw [memWrite, List.append_assoc, memGet_append, hl, if_neg (by simp), memGet_append]
  by_cases hm : (cellsOf a bs).any (fun c => c.1 == a + i) = true
  · rw [if_pos hm, memGet_cellsOf]
  · rw [if_neg hm, memGet_of_not_listed _ _ hhigh, ← memGet_cellsOf a bs i]
    refine (memGet_of_not_listed _ _ fun c hc hx => hm ?_).symm
    exact List.any_eq_true.2 ⟨c, hc, by simp [hx]⟩

/-- A byte outside a write reads as before, whatever memory lists. -/
theorem memGet_memWrite_out (m : List Cell) {a x : Nat} (bs : List Byte) (h : x < a ∨ a + bs.length ≤ x) :
    memGet (memWrite m a bs) x = memGet m x := by
  have hc : (cellsOf a bs).any (fun c => c.1 == x) = false := by
    simp only [List.any_eq_false, beq_iff_eq]
    intro c hc
    have := mem_cellsOf hc
    omega
  rw [memWrite, List.append_assoc, memGet_append]
  rcases h with h | h
  · have keep := memGet_filter_of_keep m (fun c => decide (c.1 < a)) x (fun v => by simp [h])
    by_cases hl : (m.filter (fun c => decide (c.1 < a))).any (fun c => c.1 == x) = true
    · rw [if_pos hl, keep]
    · rw [if_neg hl, memGet_append, hc, if_neg (by simp), ← keep, memGet_of_not_listed, memGet_of_not_listed]
      · exact fun c hm hx => hl (List.any_eq_true.2 ⟨c, hm, by simp [hx]⟩)
      · intro c hm
        have := (List.mem_filter.1 hm).2
        simp at this
        omega
  · have hl : (m.filter (fun c => decide (c.1 < a))).any (fun c => c.1 == x) = false := by
      simp only [List.any_eq_false, beq_iff_eq]
      intro c hm
      have := (List.mem_filter.1 hm).2
      simp at this
      omega
    rw [hl, if_neg (by simp), memGet_append, hc, if_neg (by simp)]
    exact memGet_filter_of_keep m _ x (fun v => by simp [h])

/-- A cleared byte reads as zero. -/
theorem memGet_memClear_in (m : List Cell) {a n x : Nat} (h : a ≤ x ∧ x < a + n) : memGet (memClear m a n) x = 0 := by
  refine memGet_of_not_listed _ _ fun c hc => ?_
  have := (List.mem_filter.1 hc).2
  simp at this
  omega

/-- A byte outside a clear reads as before. -/
theorem memGet_memClear_out (m : List Cell) {a n x : Nat} (h : x < a ∨ a + n ≤ x) :
    memGet (memClear m a n) x = memGet m x :=
  memGet_filter_of_keep m _ x (fun v => by simpa using h)

/-! ### The canonical form -/

theorem memWfFrom_iff (lo : Nat) (m : List Cell) :
    memWfFrom lo m = true ↔ (∀ c ∈ m, lo ≤ c.1 ∧ c.2 ≠ 0) ∧ m.Pairwise (fun c d => c.1 < d.1) := by
  induction m generalizing lo with
  | nil => simp [memWfFrom]
  | cons c m ih =>
    obtain ⟨k, v⟩ := c
    simp only [memWfFrom, Bool.and_eq_true, decide_eq_true_eq, bne_iff_ne, ih, List.mem_cons, List.pairwise_cons]
    constructor
    · rintro ⟨⟨hk, hv⟩, hm, hp⟩
      refine ⟨?_, fun d hd => hm d hd |>.1, hp⟩
      rintro d (rfl | hd)
      · exact ⟨hk, hv⟩
      · exact ⟨by have := (hm d hd).1; omega, (hm d hd).2⟩
    · rintro ⟨hm, hk, hp⟩
      exact ⟨hm (k, v) (.inl rfl), fun d hd => ⟨hk d hd, (hm d (.inr hd)).2⟩, hp⟩

/-- The canonical form: no listed byte is zero, addresses rise. -/
theorem Memory.wf_iff (m : List Cell) :
    Memory.wf m = true ↔ (∀ c ∈ m, c.2 ≠ 0) ∧ m.Pairwise (fun c d => c.1 < d.1) := by
  simp [Memory.wf, memWfFrom_iff]

/-- A filter of a canonical memory is canonical. -/
theorem Memory.wf_filter {m : List Cell} (h : Memory.wf m = true) (p : Cell → Bool) : Memory.wf (m.filter p) = true := by
  rw [Memory.wf_iff] at h ⊢
  exact ⟨fun c hc => h.1 c (List.mem_filter.1 hc).1, h.2.filter p⟩

theorem cellsOf_pairwise (a : Nat) (bs : List Byte) : (cellsOf a bs).Pairwise (fun c d => c.1 < d.1) := by
  induction bs generalizing a with
  | nil => exact .nil
  | cons b r ih =>
    by_cases hb : b = 0
    · subst hb; rw [cellsOf_zero]; exact ih (a + 1)
    · rw [cellsOf_of_ne_zero a hb, List.pairwise_cons]
      exact ⟨fun d hd => by have := (mem_cellsOf hd).1; dsimp only; omega, ih (a + 1)⟩

/-- A write keeps the canonical form. -/
theorem Memory.wf_memWrite {m : List Cell} (h : Memory.wf m = true) (a : Nat) (bs : List Byte) :
    Memory.wf (memWrite m a bs) = true := by
  rw [Memory.wf_iff] at h ⊢
  simp only [memWrite, List.mem_append, List.mem_filter, decide_eq_true_eq, List.pairwise_append]
  refine ⟨?_, ⟨h.2.filter _, cellsOf_pairwise a bs, ?_⟩, h.2.filter _, ?_⟩
  · rintro c ((⟨hc, -⟩ | hc) | ⟨hc, -⟩)
    · exact h.1 c hc
    · exact (mem_cellsOf hc).2.2
    · exact h.1 c hc
  · rintro c ⟨-, hc⟩ d hd
    have := mem_cellsOf hd
    omega
  · rintro c (⟨-, hc⟩ | hc) d ⟨-, hd⟩
    · omega
    · have := mem_cellsOf hc
      omega

/-- A clear keeps the canonical form. -/
theorem Memory.wf_memClear {m : List Cell} (h : Memory.wf m = true) (a n : Nat) : Memory.wf (memClear m a n) = true :=
  Memory.wf_filter h _

/-- The memory after reset is canonical. -/
theorem State.reset_mem_wf : Memory.wf State.reset.mem = true := rfl

/-! ### The operations of the machine over memory -/

@[simp] theorem State.writeN_mem (s : State) (a : Nat) (bs : List Byte) : (s.writeN a bs).mem = memWrite s.mem a bs := rfl

@[simp] theorem State.scrub_mem (s : State) (a n : Nat) : (s.scrub a n).mem = memClear s.mem a n := rfl

/-- Scrubbing keeps the canonical form. -/
theorem State.scrub_wf {s : State} (h : Memory.wf s.mem = true) (a n : Nat) : Memory.wf (s.scrub a n).mem = true :=
  Memory.wf_memClear h a n

/-- A corrected bit keeps the canonical form. -/
theorem Memory.wf_fixBit {m : List Cell} (h : Memory.wf m = true) (sec syn i : Nat) :
    Memory.wf (fixBit sec syn i m) = true := by
  unfold fixBit
  split
  · exact Memory.wf_memWrite h _ _
  · exact h

/-- Decoding a sector keeps the canonical form. -/
theorem State.decodeSector_wf {s : State} (h : Memory.wf s.mem = true) (sec : Nat) :
    Memory.wf (s.decodeSector sec).1.mem = true := by
  unfold State.decodeSector
  dsimp only
  split
  · exact h
  · exact List.foldlRecOn (motive := fun m => Memory.wf m = true) _ _ h fun m hm i _ => Memory.wf_fixBit hm _ _ _

/-- A sector that needs no correction is left as it is. -/
theorem State.decodeSector_clean {s : State} {sec : Nat} (h : NMap.getD s.syn sec 0 = 0) : (s.decodeSector sec).1 = s := by
  have hd : decodeSyn 0 = { fixed := [], bad := [] } := by decide
  unfold State.decodeSector
  simp only [h, hd]
  rfl

end Sys2Proof.Machine
end

