-- ==== Sys2Proof/Laws/Trap.lean ====
section
/-! SUPPORT. What giving up the sequencer, stopping a context and taking a trap do, said once. -/

namespace Sys2Proof.Machine

/-! ### Giving up the sequencer (R23) -/

theorem State.releaseSeq_of_not_running {s : State} {cl cx : Nat} (h : (s.cluster cl).run ≠ some cx) :
    s.releaseSeq cl cx = s := by
  simp [State.releaseSeq, h]

/-- A running context is charged, the sequencer is free, and the arbiter decides after the last issue. -/
theorem State.releaseSeq_of_running {s : State} {cl cx : Nat} (h : (s.cluster cl).run = some cx) :
    s.releaseSeq cl cx =
      ((s.modCtx cl cx (fun c => c.chargeHold s.now)).modCluster cl
        (fun k => { k with run := none, deciding := true })).post
        (Max.max s.now (((s.ctx cl cx).chargeHold s.now).tLast + 1)) .arbiterDecide (EvArg.at cl 0 0) := by
  simp only [State.releaseSeq, h, if_true, State.ctx_modCluster, State.ctx_modCtx]
  rfl

@[simp] theorem State.releaseSeq_mem (s : State) (cl cx : Nat) : (s.releaseSeq cl cx).mem = s.mem := by
  unfold State.releaseSeq; split <;> rfl

@[simp] theorem State.releaseSeq_now (s : State) (cl cx : Nat) : (s.releaseSeq cl cx).now = s.now := by
  unfold State.releaseSeq; split <;> rfl

/-- The context that gave the sequencer up: as it was, or charged. -/
theorem State.ctx_releaseSeq (s : State) (cl cx : Nat) :
    (s.releaseSeq cl cx).ctx cl cx =
      if (s.cluster cl).run = some cx then (s.ctx cl cx).chargeHold s.now else s.ctx cl cx := by
  by_cases h : (s.cluster cl).run = some cx
  · simp [State.releaseSeq_of_running h, h]
  · simp [State.releaseSeq_of_not_running h, h]

/-- The context does not run after it gave the sequencer up. -/
theorem State.releaseSeq_run (s : State) (cl cx : Nat) : ((s.releaseSeq cl cx).cluster cl).run ≠ some cx := by
  by_cases h : (s.cluster cl).run = some cx
  · simp [State.releaseSeq_of_running h]
  · rwa [State.releaseSeq_of_not_running h]

/-! ### Stopping a context (R329 to R334) -/

/-- A parked context stays as it is. -/
theorem State.stopCtx_of_parked {s : State} {cl cx : Nat} (h : (s.ctx cl cx).parked = true) : s.stopCtx cl cx = s := by
  simp [State.stopCtx, h]

/-- A context that is not parked gives the sequencer up and stops. -/
theorem State.stopCtx_of_not_parked {s : State} {cl cx : Nat} (h : (s.ctx cl cx).parked = false) :
    s.stopCtx cl cx = (s.releaseSeq cl cx).modCtx cl cx Ctx.stop := by
  simp [State.stopCtx, h]

@[simp] theorem State.stopCtx_mem (s : State) (cl cx : Nat) : (s.stopCtx cl cx).mem = s.mem := by
  unfold State.stopCtx
  split
  · rfl
  · exact State.releaseSeq_mem s cl cx

@[simp] theorem State.stopCtx_now (s : State) (cl cx : Nat) : (s.stopCtx cl cx).now = s.now := by
  unfold State.stopCtx
  split
  · rfl
  · exact State.releaseSeq_now s cl cx

/-- After a stop the context is parked. -/
theorem State.stopCtx_parked (s : State) (cl cx : Nat) : ((s.stopCtx cl cx).ctx cl cx).parked = true := by
  cases h : (s.ctx cl cx).parked
  · rw [State.stopCtx_of_not_parked h, State.ctx_modCtx]
    rfl
  · rwa [State.stopCtx_of_parked h]

@[simp] theorem Ctx.chargeHold_pend (c : Ctx) (now : Nat) : (c.chargeHold now).pend = c.pend := by
  simp only [Ctx.chargeHold, Ctx.endFetch]
  split <;> rfl

@[simp] theorem Ctx.stop_pend (c : Ctx) : c.stop.pend = c.pend := rfl

/-- A stop leaves the records that wait for delivery. -/
@[simp] theorem State.stopCtx_pend (s : State) (cl cx : Nat) :
    ((s.stopCtx cl cx).ctx cl cx).pend = (s.ctx cl cx).pend := by
  cases h : (s.ctx cl cx).parked
  · rw [State.stopCtx_of_not_parked h, State.ctx_modCtx, Ctx.stop_pend, State.ctx_releaseSeq]
    split <;> simp
  · rw [State.stopCtx_of_parked h]

/-! ### Taking a trap (R330, R339, R341) -/

/-- A trap leaves memory; its record is written when it is delivered. -/
@[simp] theorem State.takeTrap_mem (s : State) (cl cx : Nat) (r : TrapRec) : (s.takeTrap cl cx r).mem = s.mem :=
  State.stopCtx_mem _ cl cx

@[simp] theorem State.takeTrap_now (s : State) (cl cx : Nat) (r : TrapRec) : (s.takeTrap cl cx r).now = s.now :=
  State.stopCtx_now _ cl cx

/-- After a trap the context is parked. -/
theorem State.takeTrap_parked (s : State) (cl cx : Nat) (r : TrapRec) :
    ((s.takeTrap cl cx r).ctx cl cx).parked = true := State.stopCtx_parked _ cl cx

/-- A record goes behind those whose causes came earlier, and behind those of its own cause. -/
theorem insertRec_eq (r : TrapRec) (l : List TrapRec) :
    insertRec r l = l.takeWhile (fun q => q.ord ≤ r.ord) ++ r :: l.dropWhile (fun q => q.ord ≤ r.ord) := by
  induction l with
  | nil => rfl
  | cons q l ih =>
    by_cases h : r.ord < q.ord
    · simp [insertRec, h]
    · simp [insertRec, h, Nat.le_of_not_lt h, ih]

/-- The record of a trap waits for delivery among those before it, in the issue order of their causes. -/
theorem State.takeTrap_pend (s : State) (cl cx : Nat) (r : TrapRec) :
    ((s.takeTrap cl cx r).ctx cl cx).pend = insertRec r (s.ctx cl cx).pend := by
  refine (State.stopCtx_pend _ cl cx).trans ?_
  simp

/-- A trap is delivered by an event of the agenda. -/
theorem State.takeTrap_delivery (s : State) (cl cx : Nat) (r : TrapRec) :
    ∃ p ∈ (s.takeTrap cl cx r).agenda, p.ev = .trapDelivery ∧ p.arg = EvArg.at cl cx 0 :=
  ⟨_, State.post_mem_agenda _ _ _ _, rfl, rfl⟩

end Sys2Proof.Machine
end

