-- ==== Sys2Proof/Tests/Slice0.lean ====
section
/-! SUPPORT. Tests: ill-formed terms that the checks refuse, words of the spec, and for every statement about the model a
state and operands that meet its hypotheses. -/

set_option Elab.async false

namespace Sys2Proof.Tests

open Sys2Proof Sys2Proof.Machine Sys2Proof.Claims

/-! ### Ill-formed terms: one for each check of WellFormed -/

/-- A source of R149: g5. -/
def g5 : MoveSrc := { gi := 0, gp := 0, src := 5, w := 0 }

theorem test_wf_sources : (MoveSrc.wf g5 && !MoveSrc.wf { g5 with src := 0x4E } && !MoveSrc.wf { g5 with src := 0x58 } &&
    !MoveSrc.wf { g5 with src := 0x8C } && MoveSrc.wf { g5 with src := 0x8B } && MoveSrc.wf { g5 with src := 0x3FF }) = true := by
  decide

theorem test_wf_headers_and_c : (Instr.wf (.loopi 1) && !Instr.wf (.loopi 0) && !Instr.wf (.yield 0 0) &&
    Instr.wf (.yield 1 0)) = true := by decide

theorem test_wf_moves : (Instr.wf (.moveToSpr g5 6) && !Instr.wf (.moveToSpr g5 3) && !Instr.wf (.moveToOperandPort g5 1 0) &&
    !Instr.wf (.moveToOperandPort g5 7 0) && !Instr.wf (.moveToRf { g5 with src := 0x4F } 1) &&
    !Instr.wf (.add { g5 with src := 0x70 } 0 0) && !Instr.wf (.pf { g5 with src := 0x100 })) = true := by decide

theorem test_wf_vector : (!Instr.wf (.vshl 1 2 3 0 6 0 0) && !Instr.wf (.vshl 1 2 3 4 0 0 0) && !Instr.wf (.vshr 1 2 3 4 0 0 1) &&
    !Instr.wf (.vcmplt 0 1 2 0 0) && !Instr.wf (.vsel 1 2 3 0 0) && !Instr.wf (.vredr 1 2 3 0 0 0) &&
    !Instr.wf (.vredc 1 2 1 0 0 5) && !Instr.wf (.vcvt 1 2 6 0 6 0) && !Instr.wf (.vcvt 1 2 7 0 6 3) &&
    !Instr.wf (.vcvt 1 2 4 0 0 1) && !Instr.wf (.vpack 1 2 3 0 0 4) && !Instr.wf (.vunpk 1 2 4 0 0 0) &&
    !Instr.wf (.vqmax 1 0 0 3) && !Instr.wf (.rngDraw 1 15 1) && Instr.wf (.rngDraw 1 15 0)) = true := by decide

theorem test_wf_stream_and_k : (!Instr.wf (.arun 61 0 0 0 1) && !Instr.wf (.arun 60 0 3 0 1) && !Instr.wf (.arun 60 0 0 0 3) &&
    !Instr.wf (.arun 60 0 2 1 1) && !Instr.wf (.arunBt 60 0 2 1 1) && !Instr.wf (.drain 1 2 3 0 0 0) &&
    !Instr.wf (.sq4 1 2 0 3 0 0) && !Instr.wf (.sq8 1 2 0 3 0) && !Instr.wf (.chk 61 1 0 1) && !Instr.wf (.cpyStart 61 0) &&
    !Instr.wf (.ctrAdd 1 2 3 0 0) && Instr.wf (.ctrAdd 1 2 3 1 0) && !Instr.wf (.ctrMax 1 2 3 0 0) &&
    !Instr.wf (.ctrArw 61 1 0 0) && !Instr.wf (.fence 1 2 0 0 0) && !Instr.wf (.rngSave 61) && !Instr.wf (.sysCtx 1 8)) = true := by
  decide

/-- A word with a reserved bit set, an unassigned operation, and a forbidden field value are refused by name (R163). -/
theorem test_decode_refuses : (match decodeMove 0x00000001 with | .error .reserved => true | _ => false) = true ∧
    (match decodeK 0xFC000000 with | .error .unassigned => true | _ => false) = true ∧
    (match decodeV 0x64000000 with | .error .field => true | _ => false) = true := by decide

/-! ### Words of the spec, written out from its encodings -/

/-- `g9 -> mul.o | 7 -> mul.div` (R190): header P = 0x06, FROM 9 and 0x207, UNIT 5, PORT T, OPC 4. -/
theorem test_words_of_R190 : (decodeHeader 0x80060000).toOption = some (.seq 0 0 6) ∧
    (decodeMove 0x00245000).toOption = some (.moveToOperandPort { gi := 0, gp := 0, src := 9, w := 0 } 5 0) ∧
    (decodeMove 0x081C5410).toOption = some (.div { gi := 0, gp := 0, src := 0x207, w := 0 } 0) := by decide

/-- The bits of a guarded move: GI 31, GP 30:28, FROM 27:18, W 17, UNIT 16:12, PORT 11:10, OPC 9:2, WID 1:0 (R148). -/
theorem test_move_bits :
    (decodeMove (1#1 ++ 2#3 ++ 0x056#10 ++ 1#1 ++ 2#5 ++ 1#2 ++ 0x13#8 ++ 1#2)).toOption =
      some (.bfx { gi := 1, gp := 2, src := 0x056, w := 1 } 0 1) := by decide

/-- `yield 1, chk` of R383: op 0010, RB 1, CHK; a FAR and a BR from their fields (R142, R143, R146). -/
theorem test_words_of_c_and_headers : (decodeC 0x20001800).toOption = some (.yield 1 1) ∧
    (decodeHeader 0x88810000).toOption = some (.seq 0 1 0x81) ∧ (decodeHeader 0x87000000).toOption = some (.endStage 0 0 0) ∧
    (decodeHeader (1#1 ++ 0#3 ++ 0#1 ++ 2#3 ++ 0#8 ++ 2#4 ++ 3#12)).toOption = some (.br 0 0 0 2 3) := by decide

/-- Words of the V chapter (R242, R254): vredc.f32.max v2, v1, np1 and vqmax.f32.q8 v9. -/
theorem test_words_of_v : (decodeV 0x94840701).toOption = some (.vredc 2 1 1 6 0 1) ∧
    (decodeV 0xF0240302).toOption = some (.vqmax 9 0 0 2) := by decide

/-- Words of the S chapter: str.seed g8 (R266), shf.rel sh2 (R268), chk.xnor.np1 g40, g9 (R283), sq4.rne and sq8.rsr (R280). -/
theorem test_words_of_s : (decodeS 0x08800000).toOption = some (.strSeed 8) ∧ (decodeS 0x10000002).toOption = some (.shfRel 2) ∧
    (decodeS 0x46800901).toOption = some (.chk 40 9 0 1) ∧ (decodeS 0x3565C009).toOption = some (.sq4 22 23 0 0 0 9) ∧
    (decodeS 0x3965C049).toOption = some (.sq8 22 23 0 2 9) := by decide

/-- Words of the K slot: ctr.arw.dev.esc g40, g44 (R219), ctx.evict g20, g21, g22 (R347), ctx.park and ctx.resume g20 (R346),
tlb.inv.dev g20, g21, g22 (R372). -/
theorem test_words_of_k : (decodeK 0x32802C82).toOption = some (.ctrArw 40 44 1 2) ∧
    (decodeK 0x81455600).toOption = some (.ctxEvict 20 21 22) ∧ (decodeK 0x89400000).toOption = some (.ctxPark 20) ∧
    (decodeK 0x8D400000).toOption = some (.ctxResume 20) ∧ (decodeK 0x99455602).toOption = some (.tlbInv 20 21 22 0 0 2) := by
  decide

/-! ### Hypotheses of the statements: headers, moves, scalar units -/

/-- A bundle of context 0 of cluster 0 is in issue, with a source value of 5 and 7 in every g register. -/
def inBundle (c : Ctx) : State :=
  { State.reset.setCtx 0 0 { c with occ := .resident } with
    issue := { Issue.none with live := false, srcs := [5], pc := 0x3FFFFFFC, p := 0x03, g := List.replicate 64 7 } }

/-- Two loops are open, the inner at its last but one body, and two links are held. -/
def twoLoops : Ctx :=
  { Ctx.empty with loops := [{ start := 0, rem := 9, max := 9 }, { start := 4, rem := 2, max := 2 }], links := [8, 12] }

theorem witness_HeaderSuccessor :
    InBundle (inBundle twoLoops) ∧ (inBundle twoLoops).issueCtx.blocked = false ∧ (inBundle twoLoops).issue.succ = none ∧
      ({ inBundle twoLoops with issue := { (inBundle twoLoops).issue with succ := some 4 } } : State).issue.succ = some 4 ∧
      predAtIssue (inBundle twoLoops) ((0#4).extractLsb' 0 3).toNat ≠ (0#4).getLsbD 3 ∧
      predAtIssue (inBundle twoLoops) ((2#4).extractLsb' 0 3).toNat = (2#4).getLsbD 3 ∧
      (inBundle twoLoops).issueCtx.links = 8 :: [12] := by
  unfold InBundle
  decide +kernel

theorem witness_LoopStack :
    InBundle (inBundle twoLoops) ∧ (inBundle twoLoops).issueCtx.blocked = false ∧
      nth (inBundle twoLoops).issue.g (5#6).toNat 0 ≠ 0 ∧
      nth ({ inBundle twoLoops with issue := { (inBundle twoLoops).issue with g := List.replicate 64 0 } } : State).issue.g
        (5#6).toNat 0 = 0 ∧
      (inBundle twoLoops).issueCtx.loops = [{ start := 0, rem := 9, max := 9 }] ++ [{ start := 4, rem := 2, max := 2 }] ∧
      1 < ({ start := 4, rem := 2, max := 2 } : LoopEntry).rem ∧ ({ start := 4, rem := 1, max := 2 } : LoopEntry).rem ≤ 1 := by
  unfold InBundle
  decide +kernel

/-- The task of the context in issue, with a queue that its stage consumes. -/
def oneTask : Machine.Task :=
  { Task.none with uid := 3, nstg := 1, code := 2, ymax := 100
                   queues := [{ depth := 2, producer := 1, consumer := 0, tokens := [(0, 9)], popAt := 0 }] }

/-- The same bundle, of a stage of that task that holds the sequencer. -/
def ofTask : State :=
  { (inBundle { Ctx.empty with task := 3 }).modCluster 0 (fun k => { k with run := some 0 }) with tasks := [(3, oneTask)] }

theorem witness_StageEnds :
    InBundle ofTask ∧ ofTask.issueCtx.blocked = false ∧ (ofTask.cluster ofTask.issue.cl).run = some ofTask.issue.cx ∧
      NMap.get? ofTask.tasks ofTask.issueCtx.task = some oneTask := by
  unfold InBundle
  decide +kernel

/-- The header of that bundle has closed it, with two cycles of STALL; it waits, or not, and holds the sequencer, or not. -/
def closed (w : Option Wait) (run : Option Nat) : State :=
  { (inBundle { Ctx.empty with task := 3, nextIssue := 3, stallLast := 2, wait := w }).modCluster 0 (fun k => { k with run := run }) with
    tasks := [(3, oneTask)] }

theorem witness_YieldOpensSegment :
    (∀ x ∈ [closed none (some 0), closed (some (waitOf ofTask .fence .lpop 5 none 0 [] 0 0)) (some 0), closed none none],
      InBundle x ∧ x.issueCtx.tLast = x.now ∧ x.issueCtx.nextIssue = x.now + 1 + x.issueCtx.stallLast ∧
        x.issueCtx.fetching = false) ∧
    (closed none (some 0)).issueCtx.blocked = false ∧
    (closed (some (waitOf ofTask .fence .lpop 5 none 0 [] 0 0)) (some 0)).issueCtx.blocked = true ∧
    ((closed none (some 0)).cluster 0).run = some 0 ∧ ((closed none none).cluster 0).run ≠ some 0 ∧
    ({ ofTask with issue := { ofTask.issue with x := some 0xBCE9 } } : State).issue.x = some 0xBCE9 := by
  unfold InBundle
  decide +kernel

theorem witness_TrapiRaisesSyscall : InBundle ofTask ∧ ofTask.issueCtx.parked = false := by
  unfold InBundle
  decide +kernel

/-- g5, guarded by p2, which is false in the bundle. -/
def underP2 : MoveSrc := { g5 with gp := 2 }

theorem witness_GuardedOffMove :
    InBundle ofTask ∧ (Instr.moveToRf underP2 1).moveSrc? = some underP2 ∧ ¬Performed ofTask underP2 ∧
      guardOn (Ctx.empty).p underP2 = false ∧ g5.gp = 0 ∧
      (0x80245000#32).extractLsb' 0 28 = (0x30245000#32).extractLsb' 0 28 := by
  unfold InBundle Performed
  decide +kernel

theorem witness_MoveDestinations : InBundle ofTask ∧ Performed ofTask g5 := by
  unfold InBundle Performed
  decide +kernel

theorem witness_AluArithmetic : InBundle ofTask ∧ Performed ofTask { g5 with gp := 2, gi := 1 } := by
  unfold InBundle Performed
  decide +kernel

theorem witness_AluBitFields : InBundle ofTask ∧ Performed ofTask g5 := by
  unfold InBundle Performed
  decide +kernel

theorem witness_PredicateUnit : InBundle ofTask ∧ Performed ofTask { g5 with gp := 1 } := by
  unfold InBundle Performed
  decide +kernel

theorem witness_Multiply : InBundle ofTask ∧ Performed ofTask g5 := by
  unfold InBundle Performed
  decide +kernel

theorem witness_Divide : InBundle ofTask ∧ Performed ofTask g5 := by
  unfold InBundle Performed
  decide +kernel

/-- A result in flight to a destination: it is due, and it names lane 0 of core 0. -/
def due (d : Dest) : Landing :=
  { Landing.scalarAt 0 d 9 8 with lmask := [1, 0, 0, 0], masks := [1, 0, 0, 0], flags := [2, 0, 0, 0] }

/-- A context whose first result in flight is due. -/
def landing (d : Dest) : State :=
  { State.reset.setCtx 0 0 { Ctx.empty with inflight := [due d] } with ev := EvArg.at 0 0 0 }

/-- A bundle is held on the multiplier alone. -/
def onMul : Held := { since := 0, budget := 9, g := [], lq := 0, mul := true, wide := false }

theorem witness_ResultLands :
    (∀ d, d ∈ [Dest.alu0, .alu1, .prd, .mul false, .mul true, .vreg 15, .mask 3, .bypass] →
      (landing d).ev.n = 0 ∧ ((landing d).ctx 0 0).inflight = due d :: [] ∧ (due d).time ≤ (landing d).now ∧ (due d).dest = d ∧
      (due d).tok = 0 ∧ nth (due d).lmask 0 0 ≠ 0) ∧
    ({ Ctx.empty with held := some onMul } : Ctx).heldReady onMul = true ∧
    ({ Ctx.empty with held := some onMul, inflight := [due (.mul true)] } : Ctx).heldReady onMul = false ∧
    ((landing (.vreg 15)).ctx 0 0).cores[0]? = some CoreCtx.fresh ∧ 15 < CoreCtx.fresh.v.length := by decide +kernel

/-! ### Hypotheses of the statements: the LSU -/

theorem witness_LsuTriggers :
    InBundle ofTask ∧ Performed ofTask g5 ∧ space (ofTask.issueCtx.lsu.o + moveValue ofTask) = 0 ∧
      addrReservedOk (ofTask.issueCtx.lsu.o + moveValue ofTask) = true ∧
      space ((inBundle { Ctx.empty with lsu := { o := 1 <<< 62, o2 := 0, dl := 0, sc := 0, cmp := 0, hi := 0 } }).issueCtx.lsu.o +
        moveValue ofTask) ≠ 0 := by
  unfold InBundle Performed
  decide +kernel

/-- Every stop has domain 0 valid, in supervisor mode, with BIND. -/
def withDomains (s : State) : State :=
  { s with
    port := { s.port with doms := [(0, 0x380000000)], dirpa := 0x800, powered := true }
    copies := (List.range 81).map (fun t => (256 * t, 0x380000000)) }

/-- One piece of LPDDR. -/
def piece (n : Nat) : Piece := { pa := 1000, len := n, leaf := 0 }

/-- An access of context 0 of cluster 0 at address 1000. -/
def access (k : AccKind) (n : Nat) : Access :=
  { accessOf (inBundle Ctx.empty) k n .plain with id := 9, pieces := [piece n], data := 0x11, cmp := 0, va := 1000, left := true }

/-- The access is at its home. -/
def atHome (k : AccKind) (n : Nat) : State :=
  { withDomains (State.reset.setCtx 0 0 { Ctx.empty with occ := .resident, accs := [access k n] }) with ev := EvArg.at 0 0 9 }

theorem witness_LoadAndStoreAtHome :
    (AtHome (atHome (.load 8 true) 8) (access (.load 8 true) 8) (piece 8) ∧ (access (.load 8 true) 8).kind = .load 8 true ∧
      (access (.load 8 true) 8).size = 8) ∧
    AtHome (atHome .store 16) (access .store 16) (piece 16) ∧ (access .store 16).kind = .store := by
  unfold AtHome
  decide +kernel

theorem witness_AtomicAtHome :
    (AtHome (atHome (.atomic .add) 4) (access (.atomic .add) 4) (piece 4) ∧ (access (.atomic .add) 4).size = 4) ∧
    (AtHome (atHome (.red .maxn) 8) (access (.red .maxn) 8) (piece 8) ∧ (access (.red .maxn) 8).size = 8) ∧
    (AtHome (atHome (.atomic .cas) 8) (access (.atomic .cas) 8) (piece 8) ∧
      BitVec.ofNat (8 * 8) (valueAt (atHome (.atomic .cas) 8) 1000 8) = (access (.atomic .cas) 8).cmp.setWidth (8 * 8)) ∧
    BitVec.ofNat (8 * 8) (valueAt (atHome (.atomic .cas) 8) 1000 8) ≠ ({ access (.atomic .cas) 8 with cmp := 1 }).cmp.setWidth (8 * 8) := by
  unfold AtHome
  decide +kernel

/-- The answer of that access has come to its slot with a status. -/
def answerOf (st : Byte) : State :=
  { atHome (.load 8 true) 8 with
    ev := { EvArg.at 0 0 9 with who := (access (.load 8 true) 8).who, status := st, value := 7 } }

theorem witness_LoadAnswerAndExpiry :
    ((answerOf 0).ev.n = 0 ∧ (answerOf 0).ev.who.cx < 8 ∧ (access (.load 8 true) 8).id = (answerOf 0).ev.id ∧
      ((answerOf 0).ctx (answerOf 0).ev.who.cl (answerOf 0).ev.who.cx).tagged (answerOf 0).ev.who = true ∧
      ((answerOf 0).ctx 0 0).accs.find? (fun x => x.id == (answerOf 0).ev.id) = some (access (.load 8 true) 8) ∧
      (access (.load 8 true) 8).kind.entries ≠ 0 ∧ (access (.load 8 true) 8).answered = false) ∧
    (let s : State := { answerOf 0 with ev := { (answerOf 0).ev with n := 5, who := { (answerOf 0).ev.who with serial := 7 } } }
     s.ev.n ≤ 5 ∧ (s.ctx s.ev.who.cl s.ev.who.cx).tagged s.ev.who = false ∧ (s.ctx s.ev.who.cl s.ev.who.cx).occ ≠ .free) ∧
    (let s : State := { answerOf 0 with ctxs := [] }
     s.ev.who.cx < 8 ∧ (s.ctx s.ev.who.cl s.ev.who.cx).tagged s.ev.who = false ∧ (s.ctx s.ev.who.cl s.ev.who.cx).occ = .free) ∧
    (∀ d ∈ [(0#8, true), (9#8, false)],
      let s : State := { answerOf 0 with ctxs := [], ev := { (answerOf 0).ev with n := 9, who := { (answerOf 0).ev.who with dom := d.1 } } }
      s.ev.n = 9 ∧ (s.ctx s.ev.who.cl (s.ev.who.cx % 8)).occ = .free ∧
        s.current (clusterStop s.ev.who.cl) s.ev.who.dom s.ev.who.inc = d.2) ∧
    (let s : State := { answerOf 0 with ev := { (answerOf 0).ev with who := { (answerOf 0).ev.who with cx := 8 } } }
     s.ev.n ≤ 5 ∧ 8 ≤ s.ev.who.cx) ∧
    ((answerOf 0).ctx (answerOf 0).ev.cl (answerOf 0).ev.cx).accs.any (fun a => a.id == (answerOf 0).ev.id && !a.answered) = true ∧
    ((inBundle Ctx.empty).ctx 0 0).accs.any (fun a => a.id == 9 && !a.answered) = false := by decide +kernel

/-! ### Hypotheses of the statements: vector operations -/

theorem witness_VectorInteger : InBundle ofTask ∧ isInt 5 = true ∧ isInt 6 = false := by
  unfold InBundle
  decide +kernel

theorem witness_VectorFloat : InBundle ofTask ∧ isFp (fpType 0) = true ∧ isFp (fpType 1) = true := by
  unfold InBundle
  decide +kernel

theorem witness_VectorCompare : InBundle ofTask ∧ isInt 0 = true := by
  unfold InBundle
  decide +kernel

theorem witness_VectorMoves : InBundle ofTask := by
  unfold InBundle
  decide +kernel

theorem witness_VectorReduce : InBundle ofTask ∧ (4#3).toNat ≤ 4 ∧ isInt 4 = true ∧
    ([(255, true), (3, false)] : List (Nat × Bool)).length ≤ 256 ∧
    (∀ x ∈ ([(255, true), (3, false)] : List (Nat × Bool)), x.1 < 2 ^ elemW 4) ∧
    (([(255, true), (3, false)] : List (Nat × Bool)).filter (·.2)).map (·.1) ≠ [] ∧
    (([(3, false)] : List (Nat × Bool)).filter (·.2)).map (·.1) = [] := by
  unfold InBundle
  decide +kernel

theorem witness_VectorConvert : InBundle ofTask ∧
    (isInt 4 = true ∧ isInt 0 = true ∧ elemW 4 < elemW 0) ∧ (isInt 0 = true ∧ isInt 5 = true ∧ ¬elemW 0 < elemW 5) ∧
    (isInt 0 = true ∧ isFp 7 = true) ∧ (isFp 6 = true ∧ isFp 7 = true) ∧ isFp 7 = true ∧ isInt 0 = true := by
  unfold InBundle
  decide +kernel

/-- 3.0 and 1.5 are multiples of 1 and of a half, 2^2 and −2^2 are powers; the fast grade takes 3.0 as it is. -/
theorem fp_of_words :
    IsMultiple (fpOf 23 0x40400000) 3 0 ∧ IsMultiple (fpOf 23 0x3FC00000) 3 1 ∧ IsPower (fpOf 23 0x40800000) false 2 ∧
      IsPower (fpOf 7 0xC080) true 2 ∧ Plain false 23 0x40400000 ∧ Plain true 23 1 := by
  have h (x : Fp) (q : x = .fin false 12582912 (-22) ∨ x = .fin false 12582912 (-23)) :
      (x = .fin false 12582912 (-22) → IsMultiple x 3 0) ∧ (x = .fin false 12582912 (-23) → IsMultiple x 3 1) :=
    ⟨fun e => e ▸ (by show (_ : Int) = _; decide), fun e => e ▸ (by show (_ : Int) = _; decide)⟩
  refine ⟨(h _ (by decide)).1 (by decide), (h _ (by decide)).2 (by decide), ?_, ?_, .inr (by decide), .inl rfl⟩
  · rw [show fpOf 23 0x40800000 = .fin false 8388608 (-21) from by decide]; unfold IsPower; decide
  · rw [show fpOf 7 0xC080 = .fin true 128 (-5) from by decide]; unfold IsPower; decide

theorem witness_VectorTranscendental :
    InBundle ofTask ∧ Width 23 ∧ Width 7 ∧
      (0x7FC00001 < 2 ^ (23 + 9) ∧ fpOf 23 0x7F800001 = .nan true ∧ fpOf 23 0x7FC00001 = .nan false) ∧
      (∃ m e, fpOf 23 0xC0400000 = .fin true m e ∧ m ≠ 0) ∧
      (IsMultiple (fpOf 23 0x40400000) 3 0 ∧ IsMultiple (fpOf 23 0x3FC00000) 3 1 ∧ IsPower (fpOf 23 0x40800000) false (2 * 1) ∧
        IsPower (fpOf 7 0xC080) true 2 ∧ Plain false 23 0x40400000 ∧ Plain true 23 1) ∧
      (match tEval .rcp (fpOf 23 0x40400000) with | .num false m _ _ => decide (2 ^ 13 ≤ m) | _ => false) = true ∧
      (0x40400000 / 2 ^ 23 % 256 ≠ 0 ∧ 1 / 2 ^ 23 % 256 = 0) := by
  refine ⟨by unfold InBundle; decide +kernel, .inl rfl, .inr rfl, by decide +kernel, ⟨12582912, -22, by decide +kernel⟩, fp_of_words,
    by decide +kernel, by decide⟩

theorem witness_ScaleAndDraw : InBundle ofTask ∧ (2#2).toNat ≤ 2 ∧ (15#4).toNat + ((0#4).toNat + 1) ≤ 16 := by
  unfold InBundle
  decide +kernel

/-- g7 names a range of the scratchpad that ends at its last byte. -/
def tileState (a : W64) : State :=
  { ofTask with issue := { ofTask.issue with g := List.replicate 64 a }, tasks := [(3, { oneTask with tsp := 32 })] }

/-- The rows of an access on core `k`, the last of its scratchpad: `n` of them, from `r` on. -/
def jobs (write : Bool) (n r k : Nat) : RowJob :=
  { id := 40, cx := 0, core := k, write := write, at_ := scratchKey 0 (k + 1) 0 - 256 * n, time := 2 * k + 1, left := n, row := r
    who := { Who.zero with cl := 0, cx := 0 }, data := if write then List.replicate n (List.replicate 64 7) else []
    marks := if write then List.replicate n 1 else [], va := 0, bpc := 0, told := false }

/-- Those rows have yet to move at the cycle in which all of them are due; a load's result lands in v15. -/
def moving (write : Bool) (n r now : Nat) : State :=
  let l : Landing := { due (.vreg 15) with tok := 40, vec := List.replicate 4 .zero }
  let s := { (State.reset.modCluster 0 (fun k => { k with rows := (List.range 4).map (jobs write n r) })).setCtx 0 0
    { Ctx.empty with inflight := [l] } with now := now }
  { s with copies := (List.range 81).map (fun t => (256 * t, 0x380000000)), ev := { EvArg.zero with n := if write then 1 else 0 } }

/-- A range of rows that ends at the last byte of each core's scratchpad. -/
theorem witness_VectorMemory :
    (InBundle (tileState 0x40000000001FF000) ∧ ((tileState 0x40000000001FF000).cluster 0).rows = [] ∧
      (let s := tileState 0x40000000001FF000
       ∀ n, n < 4 → CleanRange s (s.vectorKey (nth s.issue.g 7 0) n) (256 * 16))) ∧
    (∀ x ∈ [(16, 0, 18), (1, 15, 3)], let s := moving false x.1 x.2.1 x.2.2
     s.ev.n = 0 ∧ (∃ l ∈ (s.ctx 0 0).inflight, l.time ≤ s.now ∧ l.dest = .vreg 15 ∧ l.tok ≠ 0 ∧ (jobs false x.1 x.2.1 0).id = l.tok ∧
        (∀ k, k < 4 → (nth l.vec k .zero).lanes.length = 1024) ∧ l.vec.length = 4) ∧ x.2.1 + x.1 ≤ 16 ∧
      (s.cluster 0).rows = [jobs false x.1 x.2.1 0, jobs false x.1 x.2.1 1, jobs false x.1 x.2.1 2, jobs false x.1 x.2.1 3] ∧
      FourRows s 0 0 x.1 x.2.1 false (jobs false x.1 x.2.1)) ∧
    (∀ x ∈ [(16, 0, 22), (1, 15, 7)], let s := moving true x.1 x.2.1 x.2.2
     s.ev.n = 1 ∧ x.1 ≤ 16 ∧ FourRows s 0 0 x.1 x.2.1 true (jobs true x.1 x.2.1) ∧
      ∀ k, k < 4 → (jobs true x.1 x.2.1 k).time + x.1 ≤ s.now + 1 ∧ (jobs true x.1 x.2.1 k).data.length = x.1 ∧
        (jobs true x.1 x.2.1 k).marks.length = x.1 ∧ ∀ w ∈ (jobs true x.1 x.2.1 k).data, w.length = 64) := by
  unfold InBundle FourRows CleanRange
  refine ⟨?_, ?_, ?_⟩ <;> decide +kernel

/-! ### Hypotheses of the statements: streams and the K slot -/

theorem of_some {α : Type} {o : Option α} {a : α} {p : α → Prop} (e : o = some a) (h : p a) : ∀ x, o = some x → p x :=
  fun _ hx => Option.some.inj (e.symm.trans hx) ▸ h

/-- A root region of domain 7 on clusters 0 and 1, with a nominal m of 3, a trap area, a trap counter and staging slice 3. -/
def rg : Region :=
  resolveRcb [0xFFFF0101, 0x0100100000070003, 3, 0, 0, 0, 0, 0, 0, 0x4000, 0x20000008, 0, 8, 0, 0x800, 0] none

/-- The bundle of `ofTask`, its task in that region, with a value in every g register. -/
def inRegion (v : W64) (f : Ctx → Ctx) : State :=
  { ofTask with
    tasks := [(3, { oneTask with region := 200, rg := some rg, nsh := 8, tsp := 32 })], regions := [(200, rg)]
    ctxs := (ofTask.setCtx 0 0 (f ofTask.issueCtx)).ctxs, issue := { ofTask.issue with g := List.replicate 64 v } }

theorem witness_StreamCommands : InBundle (inRegion 3 (fun c => { c with sl := 3 })) ∧
    (∀ r, (inRegion 3 (fun c => { c with sl := 3 })).fieldsOf (inRegion 3 (fun c => { c with sl := 3 })).issueCtx = some r →
      (inRegion 3 (fun c => { c with sl := 3 })).issueCtx.sl.toNat ≤ r.nomm ∧ r.chkn = 0) ∧ (3#2 ≠ 2) := by
  unfold InBundle
  exact ⟨by decide +kernel, of_some (a := rg) (by decide +kernel) (by decide +kernel), by decide +kernel⟩

/-- In the bundle's cluster another stage of the task has claimed shelf 7. -/
def claimed : State := (inRegion 4 id).setCtx 0 1 { Ctx.empty with occ := .resident, task := 3, claims := 0x80 }

theorem free_of_empty {s : State} {n : Nat} (hs : s.shadows s.issue.cl = [])
    (h : ∀ y, y < 8 → (s.ctx s.issue.cl y).occ = .free) : ¬TakenShelf s n := by
  rintro ⟨y, hy, hf, -⟩
  exact hf (h y (by simpa [hs] using hy))

theorem witness_StreamContextEffects :
    InBundle (inRegion 3 id) ∧
    (∀ r, (inRegion 3 id).fieldsOf (inRegion 3 id).issueCtx = some r →
      (operand (inRegion 3 id) 5).toNat ≤ r.nomm ∨ 0 < shareLeft (inRegion 3 id)) ∧
    (∀ r, (inRegion 4 id).fieldsOf (inRegion 4 id).issueCtx = some r → r.nomm < (operand (inRegion 4 id) 5).toNat) ∧
    ((inRegion 4 id).fieldsOf (inRegion 4 id).issueCtx = some rg ∧ shareLeft (inRegion 4 id) = 0 ∧ rg.denied = false ∧
      (inRegion 4 id).region ((inRegion 4 id).regionOf (inRegion 4 id).issueCtx) = some rg) ∧
    ((7#3).toNat < ((inRegion 3 id).task (inRegion 3 id).issueCtx).nsh ∧
      ({ (inRegion 3 id).issueCtx with claims := 0x80 } : Ctx).claims.getLsbD (7#3).toNat = true) ∧
    ¬TakenShelf { inRegion 3 id with ctxs := [] } (7#3).toNat ∧
    (claimed.issueCtx.claims.getLsbD (7#3).toNat = false ∧ TakenShelf claimed (7#3).toNat) ∧
    (ofTask.task ofTask.issueCtx).nsh ≤ (0#3).toNat := by
  refine ⟨by unfold InBundle; decide +kernel, of_some (a := rg) (by decide +kernel) (by decide +kernel),
    of_some (a := rg) (by decide +kernel) (by decide +kernel), by decide +kernel, by decide +kernel,
    free_of_empty (by decide +kernel) (by decide +kernel), ⟨by decide +kernel, 1, .inl (by decide), ?_⟩, by decide +kernel⟩
  exact ⟨by decide +kernel, by decide +kernel, .inl (by decide +kernel)⟩

/-- Core 2 of the context has one command at its head, at a chunk, and its engine comes to the chunk's end. -/
def atChunk (op : BitVec 6) (pos : Nat) (opnd : List W64) (sq : List Byte) : State :=
  let c := (commandOf (inRegion 3 id) op 0 opnd none false .zero [])
  { (inRegion 3 (fun x => { x with
      cores := x.cores.set 2 { CoreCtx.fresh with sq := sq, cmds := [{ c with cidx := 1, cur := { c.cur with pos := pos } }] } })) with
    ev := { EvArg.zero with m := 1, id := 2, who := (inRegion 3 id).issueCtx.who 0 0, v := 1 } }

theorem witness_StreamChunks :
    (∀ x ∈ [atChunk 0x08 0 [1, 2, 3] [], atChunk 0x10 0 [] [7], atChunk 0x09 0 [0, 1, 2] [], atChunk 0x09 0 [0, 2, 2] [],
        atChunk 0x05 255 [0] [], atChunk 0x0F 0 [64, 4] (List.replicate 60 0), atChunk 0x0F 0 [64, 5] (List.replicate 60 0)],
      x.ev.n = 0 ∧ (x.ctx 0 0).errs = [] ∧ (x.cluster 0).errs = [] ∧ x.clusters.all (fun k => k.2.rows.isEmpty) = true ∧
      (x.ctx 0 0).occ = .resident ∧ (x.ctx 0 0).tagged x.ev.who = true ∧
      ∃ y ∈ (x.ctx 0 0).cores[x.ev.id]?, ∃ cmd ∈ y.cmds.head?, x.ev.v = cmd.cidx.setWidth 64) ∧
    (∀ n, n < 4 → CleanRange (atChunk 0x05 255 [0] []) (scratchKey 0 n (256 * 255)) 256) ∧
    0 < (4#64).toNat ∧ (List.replicate 60 (0#8)).length + (4#64).toNat ≤ 64 ∧
    64 < (List.replicate 60 (0#8)).length + (5#64).toNat ∧
    (let s : State := { State.reset with ev := { EvArg.zero with n := 1, id := 3 } }
     ((s.cluster 0).engine 3).cur = none ∧ ∀ i, i < 8 → ∀ y ∈ s.slotStages 0 i, s.eligible 0 3 y = false) ∧
    (let s : State := { State.reset.modCluster 0 (fun k => { k with engines := List.replicate 4 { k.engine 0 with cur := some (2, 9) } }) with
       ev := { EvArg.zero with n := 1, id := 3 } }
     ((s.cluster 0).engine 3).cur ≠ none) := by
  unfold CleanRange
  decide +kernel

theorem witness_RandomState : InBundle (inRegion 3 id) := by
  unfold InBundle
  decide +kernel

/-- A local query of the context is due in cycle 6, and after it the fill of g5. -/
def query (d : Dest) (f : Ctx → Ctx) : State :=
  let s := inRegion 3 (fun c => f { c with inflight := [Landing.scalarAt 0 d 9 0] })
  s.modCluster 0 (fun k => { k with chans := List.replicate 15 Channel.none ++ [{ Channel.none with state := 1, task := 3, wp := 77, begun := true }] })

theorem witness_LocalQueries :
    (∀ d ∈ [Dest.query ((encode (.cpyWp 5 15)).getD 0) 5 9, .query ((encode (.sysFlg 5)).getD 0) 5 9,
        .query ((encode (.sysCtx 5 7)).getD 0) 5 9, .copies 3 5 9, .copies 0 5 9, .greg 5 9],
      ((query d id).ctx 0 0).inflight = [Landing.scalarAt 0 d 9 0] ∧ (Landing.scalarAt 0 d 9 0).dest = d ∧
      (Landing.scalarAt 0 d 9 0).time ≤ (query d id).now ∧ (Landing.scalarAt 0 d 9 0).tok = 0) ∧
    (((query .bypass id).cluster 0).chan 15).isSome = true ∧ ((query .bypass id).cluster 0).chan 14 = none ∧
    ((query .bypass id).ctx 0 0).cores.map (·.fflg) = [0, 0, 0, 0] ∧ ((query .bypass id).ctx 0 0).held = none ∧
    NMap.get? ((query .bypass (fun c => { c with await := [(5, 9)] })).ctx 0 0).await 5 = some 9 ∧
    NMap.get? ((query .bypass (fun c => { c with await := [(5, 8)] })).ctx 0 0).await 5 ≠ some 9 := by decide +kernel

theorem witness_WaitingForms : InBundle (inRegion 3 id) ∧ InBundle (inRegion 0 id) := by
  unfold InBundle
  decide +kernel

/-- Channel 15 has a command of the task in issue, in a state. -/
def withChan (st : Nat) : State :=
  (inRegion 3 id).modCluster 0 (fun k => { k with chans := List.replicate 15 Channel.none ++ [{ Channel.none with task := 3, cmd := 9, state := st }] })

theorem witness_PostedOperations :
    InBundle (withChan 1) ∧ (∀ st ∈ [1, 2], ∀ k ∈ ((withChan st).cluster 0).chan 15, k.task = (withChan st).issueCtx.task ∧
      (k.state = 1 ∨ k.state = 2)) ∧ (((withChan 3).cluster 0).chan 15).isSome = true ∧
    (∀ k ∈ ((withChan 3).cluster 0).chan 15, k.state ≠ 1 ∧ k.state ≠ 2) ∧ ((withChan 3).cluster 0).chan 0 = none := by
  unfold InBundle
  decide +kernel

theorem witness_PrivilegedRequests :
    InBundle (inRegion 0x30000 id) ∧
    (inRegion 0x30000 id).inLpddr (operand (inRegion 0x30000 id) 5).toNat = true ∧
    (0x3F01#64 = BitVec.ofNat 64 (63 * 256 + 1) ∧ 1 ≤ (0x10000000000#64).toNat ∧ (0x10000000000#64).toNat ≤ 2 ^ 40) ∧
    (400 ≤ (490#64).toNat ∧ (490#64).toNat ≤ 490) ∧
    ((withDomains (inRegion 0x3F01 id)).domAt (clusterStop 0) (tagOf (withDomains (inRegion 0x3F01 id))).dom).getLsbD 33 = true ∧
    ((inRegion 0x3F01 id).domAt (clusterStop 0) (tagOf (inRegion 0x3F01 id)).dom).getLsbD 33 = false ∧
    (inRegion 0xFFFFFFFFFFFFFFFF id).inLpddr (operand (inRegion 0xFFFFFFFFFFFFFFFF id) 5).toNat = false := by
  unfold InBundle
  decide +kernel

/-! ### Hypotheses of the statements: counters, waits, traps -/

/-- A counter operation is at the home of its counter, whose value is 0. -/
def atCounter (k : AccKind) (data cmp : W64) (dl : Nat) : State :=
  { atHome k 8 with
    ctxs := ((atHome k 8).setCtx 0 0 { Ctx.empty with
      occ := .resident, accs := [{ access k 8 with data := data.setWidth 128, cmp := cmp, dl := dl }] }).ctxs
    waiters := [{ pa := 1000, thr := 1, who := (access k 8).who, accId := 3, arw := false, trip := 0 }] }

theorem witness_CounterAtHome :
    (∀ x ∈ [(AccKind.ctrAdd, 5), (.ctrMax, 5), (.ctrRead, 0), (.ctrWait, 0), (.ctrWait, 1), (.ctrArw, 3), (.ctrReset, 7)],
      let s := atCounter x.1 (BitVec.ofNat 64 x.2) 3 0
      ∃ a ∈ (s.ctx 0 0).accs, AtCounter s a (piece 8) ∧ a.kind = x.1 ∧ a.data.toNat = a.data.toNat % 2 ^ 64) ∧
    valueAt (atCounter .ctrWait 0 0 0) 1000 8 = 0 ∧
    (∃ a ∈ ((atCounter .ctrWait 1 0 0).ctx 0 0).accs, a.dl = 0) ∧ (∃ a ∈ ((atCounter .ctrWait 1 0 1).ctx 0 0).accs, a.dl ≠ 0) := by
  unfold AtCounter
  decide +kernel

/-- The wait of a kind, on queue or channel `h` with an operand. -/
def waitFor (k : WaitKind) (h : BitVec 4) (op : W64) : Wait :=
  { waitOf (inRegion 3 id) k (.cpyWpwait 5 6 0 0 h) 6 (some 7) 9 [op] 0 0 with id := 4, deadline := 100 }

/-- The context waits so; channel 15 has written up to 77 of its command, and queue 0 of its task is as given. -/
def waitingOn (w : Wait) (q : StageQ) (now : Nat) (f : Ctx → Ctx) : State :=
  let s := query .bypass (fun c => f { c with wait := some w })
  { s with now := now, ev := EvArg.at 0 0 4, tasks := s.tasks.map (fun t => (t.1, { t.2 with queues := [q], ended := [2] })) }

/-- A queue of depth 1. -/
def queue (producer consumer : Nat) (tokens : List (Nat × W64)) : StageQ :=
  { depth := 1, producer := producer, consumer := consumer, tokens := tokens, popAt := 0 }

/-- The context waits with a kind. -/
def waiting (k : WaitKind) (now : Nat) (f : Ctx → Ctx) : State := waitingOn (waitFor k 15 77) (queue 1 0 []) now f

theorem witness_WaitsEnd :
    (∀ k ∈ [WaitKind.wpwait, .ctrWait, .ctrRead, .qsend, .qrecv, .fence, .ctrArw, .launch, .reclaim, .tlbInv],
      WaitsHere (waiting k 101 id) (waitFor k 15 77) ∧ (waitFor k 15 77).kind = k ∧ (waitFor k 15 77).deadline < (waiting k 101 id).now ∧
        (waiting k 101 id).ev.n ≠ 1 ∧ NoEscalation (waiting k 101 id) ((waiting k 101 id).ctx 0 0) (waitFor k 15 77)) ∧
    (waitFor .wpwait 15 77).d ≠ 0 ∧ ({ waitFor .wpwait 15 77 with d := 0 } : Wait).d = 0 ∧
    (∀ k, k ∈ [WaitKind.wpwait, .fence, .qsend, .qrecv] → (waiting k 99 id).now < (waitFor k 15 77).deadline) ∧
    (let s := { waiting .wpwait 99 id with ev := { EvArg.at 0 0 4 with n := 1, status := 1 } }
     s.ev.n = 1 ∧ (s.ctx 0 0).occ ≠ .ended ∧ (s.ctx 0 0).parked = false ∧ s.ev.status = 1 ∧
      ({ waitFor .wpwait 15 77 with esc := true } : Wait).esc = true) ∧
    ((waiting .qsend 99 (fun c => { c with occ := .ended })).ctx 0 0).occ = .ended ∧
    ((waiting .wpwait 99 (fun c => { c with wait := none })).ctx 0 0).wait = none ∧
    (∀ a ∈ [false, true], ∃ x ∈ ((atCounter (if a then .ctrArw else .ctrWait) 1 2 3).ctx 0 0).accs.find? (fun a => a.id == 9),
      x.kind = (if a then .ctrArw else .ctrWait) ∧ x.performed = false ∧ (atCounter .ctrArw 1 2 3).sentOut 0 0 9 = false ∧
      ({ x with performed := true } : Access).performed = true) ∧
    ((atCounter .ctrArw 1 2 3).ctx 0 0).accs.find? (fun a => a.id == 8) = none ∧
    (let s := { inRegion 3 (fun c => { c with held := some { since := 5, budget := 65535, g := [7], lq := 0, mul := false, wide := false } }) with
       now := 65541 }
     ∃ h ∈ (s.ctx 0 0).held, (s.ctx 0 0).occ = .resident ∧ h.since + h.budget < s.now ∧ ¬65540 < 65540) := by
  unfold WaitsHere NoEscalation
  refine ⟨?_, ?_, ?_, ?_, ?_, ?_, ?_, ?_, ?_, ?_⟩ <;> decide +kernel

/-- A wait that is met or never will be, for each row of `Met`, and one that is neither, for each row of `Unmet`; a queue that a
send and a receive find in order. -/
theorem witness_WaitsEnd_judged :
    Met (waiting .wpwait 99 id) 0 0 (waitFor .wpwait 15 77) 0 0 0 ∧ Met (waiting .wpwait 99 id) 0 0 (waitFor .wpwait 14 77) 7 0 0 ∧
    Met (waiting .fence 99 id) 0 0 (waitFor .fence 15 0) 0 (2 ^ 20 - 1) 0 ∧
    Met (waitingOn (waitFor .qsend 0 9) (queue 0 2 []) 99 id) 0 0 (waitFor .qsend 0 9) 7 0 0 ∧
    Met (waitingOn (waitFor .qrecv 0 9) (queue 2 0 []) 99 id) 0 0 (waitFor .qrecv 0 9) 7 0 0 ∧
    Unmet (waiting .wpwait 99 id) 0 0 (waitFor .wpwait 15 78) ∧
    Unmet (waiting .fence 99 (fun c => { c with accs := [access .store 8] })) 0 0
      { waitFor .fence 15 2 with covers := [9] } ∧
    Unmet (waitingOn (waitFor .qsend 0 9) (queue 0 1 [(7, 8)]) 99 id) 0 0 (waitFor .qsend 0 9) ∧
    Unmet (waitingOn (waitFor .qrecv 0 9) (queue 1 0 []) 99 id) 0 0 (waitFor .qrecv 0 9) ∧
    (let s := waitingOn (waitFor .qsend 0 9) (queue 0 1 []) 99 id
     ∃ t ∈ NMap.get? s.tasks 3, ∃ k ∈ queueOf s (s.ctx 0 0) (waitFor .qsend 0 9), k.consumer ∉ t.ended ∧
      k.tokens.length + (if k.popAt = s.now then 1 else 0) < k.depth ∧ s.coversDone 0 (waitFor .qsend 0 9).covers = true ∧
      s.startsDone 0 0 = true) ∧
    (let s := waitingOn (waitFor .qrecv 0 9) (queue 1 0 [(7, 8)]) 99 id
     ∃ k ∈ queueOf s (s.ctx 0 0) (waitFor .qrecv 0 9), k.tokens = [(7, 8)] ∧ 7 < s.now ∧
      (s.ctx 0 0).acquiresDone (waitFor .qrecv 0 9).covers = true) := by
  refine ⟨.inl ⟨rfl, rfl, rfl, .inl ⟨rfl, { Channel.none with state := 1, task := 3, wp := 77, begun := true }, by decide +kernel⟩⟩, .inl ⟨rfl, rfl, rfl, .inr ⟨rfl, fun k hk => ?_⟩⟩, .inr (.inl ⟨rfl, rfl, rfl, rfl, by decide +kernel⟩),
    .inr (.inr (.inl ⟨rfl, rfl, rfl, rfl, fun k hk => ?_⟩)), .inr (.inr (.inr ⟨rfl, rfl, rfl, rfl, fun k hk => ?_⟩)),
    .inl ⟨rfl, { Channel.none with state := 1, task := 3, wp := 77, begun := true }, by decide +kernel⟩,
    .inr (.inl ⟨rfl, 1, by decide +kernel⟩), .inr (.inr (.inl ⟨rfl, queue 0 1 [(7, 8)], by decide +kernel⟩)),
    .inr (.inr (.inr ⟨rfl, queue 1 0 [], by decide +kernel, .inr (by decide +kernel)⟩)), by decide +kernel, by decide +kernel⟩
  · cases (by decide +kernel : ((waiting .wpwait 99 id).cluster 0).chan ((waitFor .wpwait 14 77).kword.extractLsb' 0 4).toNat = none).symm.trans hk
  · obtain rfl : queue 0 2 [] = k := Option.some.inj ((by decide +kernel : queueOf _ _ _ = some (queue 0 2 [])).symm.trans hk)
    decide +kernel
  · obtain rfl : queue 2 0 [] = k := Option.some.inj ((by decide +kernel : queueOf _ _ _ = some (queue 2 0 [])).symm.trans hk)
    decide +kernel

/-- Dwords in memory from an address on. -/
def dwords (m : List Host.Cell) (a : Nat) (l : List W64) : List Host.Cell := memWrite m a (l.flatMap (fun w => leBytes 8 w.toNat))

/-- Every domain has one table: pages from 0 on are LPDDR with all rights, the next 512 MB are counters, the next a window
of flow 5, and nothing else translates. -/
def tables (s : State) : State :=
  { withDomains s with
    mem := dwords (dwords (dwords [] 0x800 (List.replicate 8 0x10001)) 0x10000 [0x20001]) 0x20000
      [0x0078000000000003, 0x0258000020000003, 0x0058828000000003]
    copies := (List.range 81).flatMap (fun t => [(256 * t, 0x380000000), (256 * t + 7, 0x80000005)])
    port := { (withDomains s).port with doms := [(0, 0x380000000), (7, 0x80000005)], dirpa := 0x800, powered := true } }

/-- An access on its way from its cluster, at an address. -/
def leaving (va : W64) (pieces : List Piece) : State :=
  let a := { access (.load 8 true) 8 with va := va, left := false, pieces := pieces }
  { tables (State.reset.setCtx 0 0 { Ctx.empty with occ := .resident, accs := [a] }) with ev := EvArg.at 0 0 9 }

/-- The walk of the page of that access has ended. -/
def walked (va : W64) : State :=
  { leaving va [] with ev := { EvArg.at 0 0 9 with v := va, walker := .access 0 0 9 } }

/-- The walk that an access at an address asks for. -/
def walkFor (va : W64) : EvArg :=
  { EvArg.zero with cl := 0, n := 0, who := (access (.load 8 true) 8).who, dom := (access (.load 8 true) 8).who.dom, v := va
                    walker := .access 0 0 9, id := 0, w := 0 }

theorem witness_RequestsOnTheirWay :
    (∃ a ∈ ((leaving 0x40000000001FFFF8 [{ pa := scratchKey 0 3 0x1FFFF8, len := 8, leaf := 0 }]).ctx 0 0).accs, ∃ p ∈ a.pieces.head?,
      a.who.cl = 0 ∧ a.who.cx = 0 ∧ a.kind.counter = false ∧ a.kind ≠ .pf ∧ a.left = false ∧ a.id = 9 ∧ space a.va ≠ 0 ∧
      2 ^ 49 ≤ p.pa ∧ 2 ^ 62 ≤ a.va.toNat ∧ (p.pa - 2 ^ 49) / 2 ^ 23 = 0) ∧
    (let s := leaving 0x1FFFFFF8 []
     ∃ a ∈ (s.ctx 0 0).accs, space a.va = 0 ∧ (pageParts a.va.toNat 8).drop 0 = [(0x1FFFFFF8, 8)] ∧
      tlbFind (nth (s.cluster 0).tlbs 0 []) a.who.dom 0x1FFFFFF8 = none ∧ tlbFind (s.frond 0).tlb2 a.who.dom 0x1FFFFFF8 = none ∧
      ∀ p ∈ s.agenda, p.ev ≠ .tableWalk) ∧
    (let s := { leaving 0x1FFFFFF8 [] with
       agenda := [{ time := 50, ev := .tableWalk, arg := { walkFor 0x1FFF0000 with walker := .access 0 1 7, status := 1 } }] }
     ∀ p ∈ s.agenda, p.ev = .tableWalk ∧ p.arg.sameWalk (walkFor 0x1FFFFFF8) = true) ∧
    (∀ p ∈ (walked 0x1FFFFFF8).agenda, p.ev ≠ .tableWalk) ∧
    ((walked 0x1FFFFFF8).currentWho (frondStop 0) (walked 0x1FFFFFF8).ev.who = true ∧
      CleanWalk (walked 0x1FFFFFF8) 0 0x1FFFFFF8 ∧ ((walked 0x1FFFFFF8).walk 0 0x1FFFFFF8).2.isSome = true) ∧
    (CleanWalk (walked 0x60000000) 0 0x60000000 ∧ ((walked 0x60000000).walk 0 0x60000000).2 = none) ∧
    (let s := leaving 0x60000000 []
     (s.ctx 0 0).tagged (access (.load 8 true) 8).who = true ∧ (s.ctx 0 0).occ = .resident ∧ (s.ctx 0 0).parked = false ∧ s.ev.id ≠ 0 ∧
      (s.ctx 0 0).wait = none ∧ (s.ctx 0 0).held = none ∧ ∃ a ∈ (s.ctx 0 0).accs.find? (fun x => x.id == s.ev.id), a.token = none) := by
  unfold CleanWalk
  refine ⟨?_, ?_, ?_, ?_, ?_, ?_, ?_⟩ <;> decide +kernel

/-- A stop of class `n` reaches the context. -/
def stopping (n : Nat) (f : Ctx → Ctx) : State :=
  { inRegion 3 f with ev := { EvArg.zero with n := n, who := (inRegion 3 id).issueCtx.who 0 0 } }

theorem witness_StopsAtBoundary :
    (∀ n ∈ [0, 4], ((stopping n id).ctx 0 0).tagged (stopping n id).ev.who = true ∧ ((stopping n id).ctx 0 0).occ ≠ .ended ∧
      (stopping n id).ev.n = n ∧ ((stopping n id).ctx 0 0).parked = false) ∧
    (∀ b ∈ [false, true], let s := stopping 6 (fun c => { c with occ := .ended, parked := b })
     (s.ctx 0 0).tagged s.ev.who = true ∧ (s.ctx 0 0).occ = .ended ∧ (s.ctx 0 0).parked = b ∧
      (NMap.get? s.tasks (s.ctx 0 0).task).isSome = true) ∧
    ((inRegion 3 id).ctx 0 0).tagged { (inRegion 3 id).issueCtx.who 0 0 with serial := 9 } = false := by decide +kernel

/-- A record of class 1 waits, and the trap area of its region has had 63 records. -/
def delivering : State :=
  let s := tables (inRegion 3 id)
  let c := (inRegion 3 id).issueCtx
  { s.setCtx 0 0 { c with pend := [recordOf s c 9 1 2 0 4 0 0] } with mem := dwords s.mem 0x20000008 [63] }

theorem finds_of_walk {s : State} {die : Nat} {d : BitVec 8} {va : Nat} {x : Xlat} (h : tlbFind (s.tlb2 die) d va = none)
    (hc : CleanWalk s d va) (hw : (s.walk d va).2 = some x) : Finds s die d va x := by
  unfold Finds
  rw [h]
  exact ⟨hc, hw⟩

/-- Two addresses that are walked for are found side by side. -/
theorem finds_both {s : State} {die : Nat} {d : BitVec 8} {va vb : Nat} {x y : Xlat} (h : s.tlb2 die = [])
    (hc : CleanWalk s d va ∧ CleanWalk s d vb) (hw : (s.walk d va).2 = some x ∧ (s.walk d vb).2 = some y) :
    FindsBoth s die d va vb x y :=
  ⟨finds_of_walk (by rw [h]; rfl) hc.1 hw.1, finds_of_walk (by rw [h]; rfl) hc.2 hw.2, .inl (by rw [h]; rfl)⟩

theorem witness_TrapRecordDelivered :
    (∃ r ∈ (delivering.ctx 0 0).pend.head?, r.engine ≠ 3 ∧ r.rg = some rg ∧ ({ r with rg := none } : TrapRec).rg = none ∧
      r.cls < 32 ∧ r.slot < 16 ∧ r.engine < 16) ∧
    (let xc : Xlat := { pa := 0x20000008, leaf := 0x0258000020000003, block := true }
     let xa : Xlat := { pa := 0x4000, leaf := 0x0078000000000003, block := true }
     FindsBoth delivering 0 rg.dom rg.trapc.toNat rg.trapa.toNat xc xa ∧ leafC xa.leaf = false ∧ leafW xc.leaf = true ∧
      leafC xc.leaf = true ∧ leafW xa.leaf = true ∧ leafC xa.leaf = false ∧ inWindow xc.pa = false ∧ inWindow xa.pa = false ∧
      rg.trapc.toNat % 8 = 0 ∧ valueAt delivering xc.pa 8 = 63 ∧ CleanAt delivering (xa.pa + 64 * 63) 64 ∧ CleanAt delivering xc.pa 8 ∧
      xa.pa + 64 * 63 + 64 ≤ xc.pa) := by
  refine ⟨by decide +kernel, finds_both (by decide +kernel) ?_ (by decide +kernel), ?_⟩
  · unfold CleanWalk; decide +kernel
  · unfold CleanAt; decide +kernel

theorem witness_SequencerGiven :
    (let s := { inRegion 3 id with
       clusters := [], agenda := [{ time := 0, ev := .arbiterDecide, arg := EvArg.zero }, { time := 1, ev := .ackSend, arg := EvArg.zero }] }
     (s.cluster 0).run = none ∧ (∀ p ∈ s.agenda, p.ev = .arbiterDecide ∧ p.time ≤ s.now ∨ p.ev ≠ .arbiterDecide ∧ s.now < p.time) ∧ (s.ctx 0 0).ready = true ∧ ∀ y, y < 8 → y ≠ 0 → (s.ctx 0 y).ready = false) ∧
    (let s := { inRegion 3 (fun c => { c with parked := true }) with clusters := [], agenda := [] }
     ∀ y, y < 8 → (s.ctx 0 y).ready = false) ∧
    ((inRegion 3 id).cluster 0).run ≠ none ∧
    (let s := { tables (inRegion 3 id) with ev := { EvArg.zero with n := 0x8000, m := 3, who := (inRegion 3 id).issueCtx.who 0 0 } }
     (s.ctx 0 0).tagged s.ev.who = true ∧ s.currentWho (homeStop s.ev.n) s.ev.who = true ∧ s.ev.n < 2 ^ 48 ∧
      ∀ x ∈ sectorsOf s.ev.n 64, NMap.getD s.syn x 0 = 0 ∧ s.retiredAt (32 * x) = false) := by decide +kernel

/-- A packet as its launch enters it, for region 200. -/
def packet (addr : W64) (ph : PktPhase) : Packet :=
  { uid := 5, region := 200, addr := addr, by_ := .task 2, dom := 0, order := 0, phase := ph, ctl := 0, pbase := 0, pdo := 0
    cinc := 1, gx := 2, gy := 1, gz := 1, arg := 0, cctr := 0x20000008, stw := 0x9000, ddl := 0
    deps := [], usable := true, nstg := 1, entries := [4], queues := [], ychk := 100, nextTask := 0, finished := 0
    nfail := 0, rtry := 0, code := 0, status := 0 }

/-- A task of two stages, of that packet. -/
def twoStages : Machine.Task :=
  { oneTask with
    region := 200, nsh := 8, tsp := 32, nstg := 2, holds := true, running := true, pkt := 5, dom := 7, inc := 5
    evicted := [(0, 0, 5)] }

/-- A request of domain 0 has arrived at context 1 of cluster 0, a stage of the task in domain 7. -/
def targeting (t : W64) (f : Ctx → Ctx) : State :=
  let c := (inRegion 3 id).issueCtx
  { tables ((inRegion 3 id).setCtx 0 1 (f { c with task := 3, sctx := 0x283800, stat := 0 })) with
    agenda := [], tasks := [(3, { twoStages with evicted := [] })], packets := [(5, packet 0x8000 .eligible)]
    ev := { EvArg.zero with target := { who := c.who 0 0, target := t, image := 0x100000, cctr := 0, after := [] } } }

/-- At 0x100000 is the header of an image that holds stage 0 of that task, evicted before, and its target is free. -/
def restoring : State :=
  let s := { targeting 1 (fun c => { c with occ := .free }) with tasks := [(3, twoStages)] }
  { s with mem := dwords s.mem 0x100000 [BitVec.ofNat 64 (imageSize 0 0 0 0 + 2 ^ 40), 0x283800, 0x40, 0x40000, 0, 200, 0, 0, 0x8000] }

/-- The header of that image, its pages and the task that it names are as the conditions of a load ask. -/
def loads (s : State) : Bool :=
  let r := s.ev.target
  match s.loadPages r 256 0 with
  | (some ps1, s1) =>
    let s1 := s1.settleListed (imageKey ps1 0) 256
    let h := ImageHead.ofBytes (s1.getPart ps1 0 256)
    match s1.loadPages r imageBase 0 with
    | (some ps2, s2) =>
      let x : TaskHead := { index := 0, nsh := 0, tsp := 0, tfr := 0, sbase := 0, tstg := 0 }
      h.kind == 0 && ((s2.loadConditions r { pages := ps2 } h x).find? (·.2)).isNone &&
        (match s2.loadPages r h.size 0 with
          | (some ps3, s3) => (s3.taskOfImage h).any (fun tk =>
              ((s3.readImage r.who (targetCl r.target) ps3 x tk.uid).taskOfImage h).isSome)
          | _ => false)
    | _ => false
  | _ => false

/-- The same of an image that is read from clean memory. -/
def names (s : State) : Bool :=
  let r := s.ev.target
  match s.loadPages r 256 0 with
  | (some ps1, s1) =>
    let s1 := s1.settleListed (imageKey ps1 0) 256
    let h := ImageHead.ofBytes (s1.getPart ps1 0 256)
    match s1.loadPages r imageBase 0 with
    | (some ps2, s2) =>
      let x : TaskHead := { index := 0, nsh := 0, tsp := 0, tfr := 0, sbase := 0, tstg := 0 }
      h.kind == 0 && ((s2.loadConditions r { pages := ps2 } h x).find? (·.2)).isNone &&
        (match s2.loadPages r h.size 0 with
          | (some _, s3) => (s3.taskOfImage h).isSome && s3.syn.isEmpty && s3.archives.isEmpty
          | _ => false)
    | _ => false
  | _ => false

/-- What holds of every page of an image holds at every multiple of 64 KiB below its size. -/
theorem every_page {P : Nat → Prop} {n k : Nat} (h : n ≤ 65536 * k) (hp : ∀ j, j < k → P (65536 * j)) :
    ∀ o, o < n → o % 65536 = 0 → P o := by
  intro o ho hm
  have := hp (o / 65536) (by omega)
  rwa [show 65536 * (o / 65536) = o by omega] at this

theorem image_pages : ∀ j, j < 17 → CleanWalk (targeting 0x283801 id) 0 (0x100000 + 65536 * j) := by
  unfold CleanWalk
  decide +kernel

/-- The walks of that image's pages meet nothing but clean entries. -/
theorem witness_TargetsAndImages_walks : ∀ o, o < imageSize 0 twoStages.tfr twoStages.nsh twoStages.tsp → o % 65536 = 0 →
    CleanWalk (targeting 0x283801 id) 0 (0x100000 + o) :=
  every_page (P := fun o => CleanWalk (targeting 0x283801 id) 0 (0x100000 + o)) (by decide +kernel) image_pages

theorem witness_TargetsAndImages :
    (let s := targeting 0x283801 id
     s.currentWho (clusterStop 0) s.ev.target.who = true ∧ s.targetFault s.ev.target.target s.ev.target.who.dom false = 0 ∧
      targetCl s.ev.target.target = 0 ∧ targetCx s.ev.target.target = 1 ∧ (s.ctx 0 1).parked = false ∧ s.ev.n = 0 ∧
      (s.ctx 0 1).occ = .resident ∧ s.ev.target.image.toNat % 65536 = 0 ∧ (s.task (s.ctx 0 1)).othersGone (s.ctx 0 1).stage = false ∧
      (s.evictPages s.ev.target (s.task (s.ctx 0 1)) 0).1.isSome = true) ∧
    (let s := targeting 0x283801 (fun c => { c with wait := some { waitFor .ctrArw 0 9 with id := 9 }, accs := [access .ctrArw 8] })
     ∃ w ∈ (s.ctx 0 1).wait, w.kind = .ctrArw ∧ w.cancelSent = false ∧ ((s.ctx 0 1).accs.find? (fun a => a.id == w.id)).isSome = true) ∧
    (∀ t ∈ [0x283801, 0x283C01], let s := targeting (BitVec.ofNat 64 t) (fun c => { c with parked := true })
     s.targetFault s.ev.target.target s.ev.target.who.dom true = 0 ∧ (s.ctx 0 1).occ = .resident ∧
      (s.ctx 0 1).parked = true ∧ (s.ctx 0 1).pend = [] ∧ (s.ctx 0 1).lastCls ≠ 6) ∧
    ((0x283801#64).getLsbD 10 = false ∧ (0x283C01#64).getLsbD 10 = true) ∧
    (let s := targeting 0x283801 (fun c => { c with occ := .evicting, parked := true })
     let s : State := { s with ev := { s.ev with n := 1, who := (s.ctx 0 1).who 0 1 } }
     (s.ctx 0 1).tagged s.ev.who = true ∧ s.drainedForEviction 0 1 = true ∧ s.othersFreed 0 1 = true ∧
      s.currentWho (clusterStop 0) ((s.ctx 0 1).who 0 1) = true ∧
      ∃ k ∈ NMap.get? s.tasks 3, k.uid = 3 ∧ k.othersGone (s.ctx 0 1).stage = false ∧
        (s.evictPages s.ev.target k 0).1.isSome = true) := by
  refine ⟨?_, ?_, ?_, ?_, ?_⟩ <;> decide +kernel

/-- Reading an image changes nothing where no sector has a check code that is not zero and no frame is retired. -/
theorem readImage_clean {s : State} (hs : s.syn = []) (hr : ∀ n, (s.archive n).retired = []) (w : Who) (cl : Nat)
    (ps : List (Nat × Nat)) (x : TaskHead) (uid : Nat) : s.readImage w cl ps x uid = s := by
  have hb : ∀ a n, s.badSectors a n = [] := fun a n => by
    simp [State.badSectors, State.poisonedAt, State.retiredAt, hs, hr, NMap.getD, show synPoisoned 0#32 = false by decide]
  have hl : ps.foldl (fun (s : State) p => s.settleListed p.1 p.2) s = s := by
    induction ps with
    | nil => rfl
    | cons p ps ih => simpa [State.settleListed, hs] using ih
  simp [State.readImage, hl, hb, List.filterMap_eq_nil_iff.2]

theorem witness_TargetsAndImages_load :
    restoring.currentWho (clusterStop 0) restoring.ev.target.who = true ∧
      restoring.coversDone restoring.ev.target.who.cl restoring.ev.target.after = true ∧ loads restoring = true := by
  have h : names restoring = true := by decide +kernel
  refine ⟨by decide +kernel, by decide +kernel, ?_⟩
  revert h
  unfold names loads
  dsimp only
  split
  · split
    · intro h
      rw [Bool.and_eq_true] at h ⊢
      refine ⟨h.1, ?_⟩
      have h := h.2
      revert h
      split
      · intro h
        simp only [Bool.and_eq_true, List.isEmpty_iff] at h
        obtain ⟨⟨ht, hs⟩, ha⟩ := h
        rename_i s3 _
        have hc := readImage_clean (s := s3) hs (fun n => by simp [State.archive, ha, NMap.getD, Archive.empty])
        obtain ⟨tk, htk⟩ := Option.isSome_iff_exists.1 ht
        simp [hc, htk]
      · intro h; cases h
    · intro h; cases h
  · intro h; cases h

/-- Channel 15 of the cluster copies 40 bytes between scratchpads of the task. -/
def copying (st wp : Nat) (begun : Bool) : State :=
  let c := (inRegion 3 id).issueCtx
  { (tables ((inRegion 3 id).modCluster 0 (fun k => { k with
      chans := List.replicate 15 Channel.none ++ [{ Channel.none with
        state := st, task := 3, cmd := 9, who := c.who 0 0, src := 0x4000000000000010, dst := 0x4000000000200008, len := 40
        wp := wp, begun := begun, faultVa := 0x1FFFFFF8 }] }))) with
    tasks := [(3, twoStages)], ev := EvArg.at 0 15 9 }

/-- A command of that channel that has yet to begin. -/
def command (src dst : W64) (len : Nat) : State :=
  (copying 1 0 false).modCluster 0 (fun k => { k with chans := k.chans.map (fun x => { x with src := src, dst := dst, len := len }) })

/-- Whether its ranges and counter are in order, and what the checks of its source and of its destination find. -/
def checks (s : State) : Bool × PageFault × PageFault :=
  let k := nth (s.cluster 0).chans 15 Channel.none
  let tk := (NMap.get? s.tasks k.task).getD .none
  let k' : Channel := { k with wp := 0, begun := true, state := 1, buf := [] }
  let x := s.cctrOk 0 15 k
  let src := x.2.checkRange 0 15 k' false k.src k.src
  (copyRangeOk tk k.src k.len && copyRangeOk tk k.dst k.len && x.1, src.2, (src.1.checkRange 0 15 k' true k.dst k.dst).2)

theorem witness_CopySteps :
    (∃ k ∈ (copying 1 0 false).command 0 15 9, (copying 1 0 false).currentWho (clusterStop 0) k.who = true ∧ k.abortAt = none ∧
      (copying 1 0 false).coversDone 0 k.after = true ∧ (copying 1 0 false).ev.m ≠ 1 ∧ k.cctr = 0 ∧ space k.src ≠ 0 ∧ space k.dst ≠ 0 ∧
      k.len ≠ 0) ∧
    (checks (copying 1 0 false) = (true, .ok, .ok) ∧ checks (command 0x4000000000000010 0x4000000000200008 0) = (true, .ok, .ok) ∧
      checks (command 0x40000000001FFFF8 0x4000000000200008 40) = (false, .ok, .ok) ∧
      checks (command 0x4000000000000010 0x20000000 40) = (true, .ok, .perm) ∧
      checks (command 0x60000000 0x5000 40) = (true, .xlate 0x60000000, .ok) ∧
      checks (command 0x5000 0x60000000 40) = (true, .ok, .xlate 0x60000000)) ∧
    (∀ wp ∈ [0, 24], let s := copying 1 wp true
     s.ev.m = 0 ∧ (∀ x ∈ s.clusters, x.2.rows = []) ∧
     ∃ k ∈ s.command 0 15 9, k.begun = true ∧ k.state = 1 ∧ k.wp < k.len ∧ k.cctr = 0 ∧
      let tk := (NMap.get? s.tasks k.task).getD .none
      let d := k.dst.toNat + k.wp
      let len := Min.min (32 - d % 32) (k.len - k.wp)
      space (BitVec.ofNat 64 (k.src.toNat + k.wp)) ≠ 0 ∧ space (BitVec.ofNat 64 d) ≠ 0 ∧
      ∃ p ∈ localPiece tk 0 (BitVec.ofNat 64 (k.src.toNat + k.wp)) len, ∃ q ∈ localPiece tk 0 (BitVec.ofNat 64 d) len,
        localPiece tk 0 (BitVec.ofNat 64 (k.src.toNat + k.wp)) len = [p] ∧ localPiece tk 0 (BitVec.ofNat 64 d) len = [q] ∧
        2 ^ 48 ≤ p.pa ∧ 2 ^ 48 ≤ q.pa ∧ p.pa + len ≤ q.pa ∧
        (∀ x ∈ sectorsOf p.pa len, NMap.getD s.syn x 0 = 0) ∧ (∀ x ∈ sectorsOf q.pa len, NMap.getD s.syn x 0 = 0) ∧
        s.currentWho (homeStop p.pa) k.who = true ∧ s.currentWho (homeStop q.pa) k.who = true ∧ space k.src ≠ 2 ∧ space k.dst ≠ 2) ∧
    (∀ st ∈ [1, 2], let s : State := { copying st 24 true with now := 9, ev := { EvArg.at 0 15 9 with m := 3 } }
     ∃ k ∈ s.command 0 15 9, k.state = st ∧ ({ k with abortAt := some 8 } : Channel).abortAt = some 8 ∧ 8 < s.now) ∧
    (let s := copying 2 24 true
     s.ev.m = 0 ∧ ∃ k ∈ s.command 0 15 9, k.state = 2 ∧ ∃ x ∈ (s.chanXlat 0 15 k.who k.faultVa.toNat).1,
      CleanWalk s k.who.dom k.faultVa.toNat ∧ s.reaches { pa := x.pa, len := 1, leaf := x.leaf } = true) := by
  unfold CleanWalk
  refine ⟨?_, ?_, ?_, ?_, ?_⟩ <;> decide +kernel

/-! ### Hypotheses of the statements: packets and tasks -/

/-- A launch by that task's stage of the packet at an address for region 200 arrives. -/
def launching (addr : W64) : State :=
  { tables (inRegion 3 id) with
    agenda := [], tasks := [(3, twoStages)]
    ev := { EvArg.zero with launch := { EvArg.zero.launch with
      addr := addr, region := 200, by_ := .task 3, who := (inRegion 3 id).issueCtx.who 0 0, waitId := 6, dom := 0, inc := 0 } } }

/-- The packet at 0x8000 has one dependence, on the counter at 0x20000010 reaching 1, and its declaration is at 0x40000. -/
def packetState (ph : PktPhase) (v : W64) : State :=
  let p : Packet := packet 0x8000 ph
  let p := if ph = .reading then p else { p with ddl := 900, deps := [(0x20000010, 1, false)] }
  let s := { tables (inRegion 3 id) with agenda := [], packets := [(5, p)], ev := { EvArg.zero with id := 5 } }
  { s with mem := dwords (dwords (dwords s.mem 0x8000 [0x10100, 0x40000, 0x100000000, 0x100010002, 0, 0x20000008, 0x9000, 0,
      0x20000010, 1]) 0x40000 [0x6400000000, 4]) 0x20000010 [v] }

/-- That launch where the queue has no room: another waits; with a deadline or with none. -/
def crowded (deadline : Nat) : State :=
  let s := launching 0x8000
  { s with launches := [{ s.ev.launch with waitId := 5 }]
           ev := { s.ev with launch := { s.ev.launch with deadline := deadline } } }

theorem witness_PacketsAtDispatch :
    (let s := launching 0x8000
     s.ev.n = 0 ∧ s.agenda = [] ∧ s.current (dispatchStop 200) 0 0 = true ∧
      (s.touchRange 0 0 0x8000 128).launchDenied s.ev.launch = false ∧
      s.queueLen 200 < 256 ∧ (∀ x ∈ s.launches, x.region ≠ 200) ∧ s.inTime s.ev.launch = true ∧
      s.current (dispatchStop 200) 9 0 = false) ∧
    ((launching 0x60000000).touchRange 0 0 0x60000000 128).launchDenied (launching 0x60000000).ev.launch = true ∧
    (∀ d ∈ [0, 7], let s := crowded d
     (s.touchRange 0 0 0x8000 128).launchDenied s.ev.launch = false ∧ s.ev.launch.deadline = d ∧ ∃ x ∈ s.launches, x.region = 200) ∧
    (let s := packetState .reading 0
     let r := s.readPacket (packet 0x8000 .reading)
     NMap.get? s.packets 5 = some (packet 0x8000 .reading) ∧ r.2.2 = none ∧ r.2.1.uid = 5 ∧ r.2.1.deps ≠ [] ∧ r.2.1.ddl = 0) ∧
    (let s : State := { packetState .reading 0 with packets := [(5, packet 0x60000000 .reading)] }
     let r := s.readPacket (packet 0x60000000 .reading)
     r.2.2.isSome = true ∧ r.2.1.uid = 5 ∧ ∀ x ∈ r.1.launches, x.region ≠ r.2.1.region) ∧
    (∀ v ∈ [0, 1], let s := packetState .polling (BitVec.ofNat 64 v)
     ∃ p ∈ NMap.get? s.packets 5, p.uid = 5 ∧ p.phase = .polling ∧ p.ddl ≠ 0 ∧ s.now ≤ p.order + p.ddl.toNat ∧
      (∀ x ∈ s.launches, x.region ≠ p.region) ∧ ¬901 ≤ p.order + p.ddl.toNat ∧
      let r := s.readDeps p
      let q := { p with deps := r.2 }
      q.deps.all (·.2.2) = (v == 1) ∧ ∃ g ∈ r.1.region p.region,
        State.unmetNeed { r.1 with packets := NMap.set r.1.packets p.uid q } q g = none) ∧
    (let s := packetState .done 0
     let xs : Xlat := { pa := 0x9000, leaf := 0x0078000000000003, block := true }
     let xc : Xlat := { pa := 0x20000008, leaf := 0x0258000020000003, block := true }
     FindsBoth s (dispatchDie 200) 7 0x9000 0x20000008 xs xc ∧ (∀ a ∈ s.walkReads 7 0x20000008, a + 8 ≤ xs.pa ∨ xs.pa + 8 ≤ a) ∧
      (∃ p ∈ NMap.get? s.packets 5, p.region = 200 ∧ p.stw = 0x9000 ∧ p.cctr = 0x20000008 ∧ s.packetDom p = 7 ∧
        p.ctl.getLsbD 0 = false ∧ s.committing p.uid = false ∧ p.usable = true) ∧
      globalOk 0x9000 = true ∧ leafDeviceW xs.leaf = true ∧ s.inLpddrN xs.pa 8 = true ∧ CleanAt s xs.pa 8 ∧ CleanAt s xc.pa 8 ∧
      wbits 0x20000008 63 52 = 0 ∧ leafW xc.leaf = true ∧ leafC xc.leaf = true ∧ inWindow xc.pa = false ∧ xs.pa + 8 ≤ xc.pa) ∧
    (let s : State := { packetState .eligible 0 with ev := { EvArg.zero with n := 3 } }
     s.placeable 3 = [({ packet 0x8000 .eligible with ddl := 900, deps := [(0x20000010, 1, false)] }, rg)] ∧
      entryValid (s.domAt (frondStop 3) rg.dom) = true ∧ (packet 0x8000 .eligible).nextTask + 1 < (packet 0x8000 .eligible).total) := by
  refine ⟨by decide +kernel, by decide +kernel, by decide +kernel, by decide +kernel, by decide +kernel, by decide +kernel,
    ⟨finds_both (by decide +kernel) ?_ (by decide +kernel), by decide +kernel, by decide +kernel, ?_⟩, by decide +kernel⟩
  · unfold CleanWalk; decide +kernel
  · unfold CleanAt; decide +kernel

/-- The task of two stages waits at the head of its cluster's queue, and only contexts 6 and 7 are free there. -/
def starting : State :=
  let s := { tables { State.reset with clusters := [] } with
    agenda := [], tasks := [(3, { twoStages with evicted := [], ymax := 50 })], regions := [(200, rg)]
    packets := [(5, packet 0x8000 .eligible)], ev := EvArg.at 0 0 0 }
  (List.range 6).foldl (fun (s : State) x => s.setCtx 0 x { Ctx.empty with occ := .resident })
    (s.modCluster 0 (fun k => { k with queue := [{ uid := 3, level := 0 }] }))

theorem witness_StageEntry :
    (∃ q ∈ (starting.cluster 0).head, ∃ tk ∈ NMap.get? starting.tasks q.uid, tk.uid = q.uid ∧ tk.cluster = 0 ∧ tk.holds = true ∧
      (NMap.get? starting.packets tk.pkt).isSome = true ∧ (starting.cluster 0).rows = [] ∧
      (starting.cluster 0).withdrawn = false ∧ tk.nstg ≤ (starting.freeSlots 0).length ∧
      entryValid (starting.domAt (clusterStop 0) tk.dom) = true ∧ 1 < tk.nstg ∧ (starting.freeSlots 0)[1]? = some 7) ∧
    (let tk : Machine.Task := { twoStages with holds := false, running := false, rg := some rg, tstg := 2, csb := 1 }
     let s : State := { starting with tasks := [(3, tk)], regions := [(200, { rg with stb := 9, spb := 99, shb := 8, frb := 99 })] }
     (s.fitCluster tk tk.region 0).isSome = true ∧ ∃ sb ∈ s.stagingRun rg.slmask tk.tstg,
       (s.commitUnits rg.slmask tk.csb sb tk.tstg).isSome = true ∧ s.stagingBudget tk.region (tk.tstg + tk.csb) = true) ∧
    (let s : State := { tables State.reset with
       ctxs := [], tasks := [(3, { twoStages with evicted := [], ended := [0, 1] })], packets := [(5, packet 0x8000 .eligible)]
       ev := { EvArg.zero with id := 3 } }
     ∃ tk ∈ NMap.get? s.tasks 3, tk.uid = 3 ∧ s.freeEnded tk.cluster = s ∧ s.taskOver tk = true ∧ s.rerunGranted tk = false ∧
      (s.cluster tk.cluster).rows = [] ∧ ∃ p ∈ NMap.get? s.packets tk.pkt, p.uid = tk.pkt) := by decide +kernel

/-! ### Hypotheses of the statements: domains, regions, translations -/

/-- Domain 0 asks the controller for domain `d`, whose entry is `old`, with a new entry or for its next incarnation. -/
def asking (d : BitVec 8) (old : Nat) (v : Option W64) : State :=
  let s := tables (inRegion 3 id)
  { s with
    agenda := [], regions := [], tasks := [], port := { s.port with doms := NMap.set s.port.doms d.toNat (BitVec.ofNat 64 old) }
    ev := { EvArg.zero with domreq := { who := (inRegion 3 id).issueCtx.who 0 0, target := d, value := v, token := 9, bpc := 4 } } }

/-- The entry of a request has no reserved bit set. -/
def cleanEntry (v : W64) : Bool := wbits v 19 10 == 0 && wbits v 63 48 == 0 && wbits v 39 34 == 0 && wbits v 30 20 == 0

theorem witness_DomainTable :
    (let s := asking 7 0x80000005 none
     s.ev.n = 0 ∧ ControllerFree s ∧ s.currentWho 0 s.ev.domreq.who = true ∧ (s.regions = [] ∧ s.tasks = [])) ∧
    cleanEntry 0x80000400 = false ∧ cleanEntry 0x1000000000000 = false ∧ cleanEntry 0x10080000009 = true ∧
    (entryValid 0x80000005 = true ∧ entrySupv 0x10080000005 ≠ 0 ∧ entrySupv 0x80000005 = 0 ∧ (7#8) ≠ 0) ∧
    (cleanEntry 0x100 = true ∧ entryValid 0x100 = false ∧ entrySupv 0x100 = 0) ∧
    entryWm 0x80000005 ≠ entryCur 0x80000005 ∧ entryWm 0x80001405 = entryCur 0x80001405 ∧
    entryCur 0x80000005 + 1 ≠ entryWm 0x80000005 ∧ entryCur 0x80001805 + 1 = entryWm 0x80001805 ∧
    entryCur 0x800003FF + 1 = entryWm 0x800003FF ∧
    ((tables State.reset).domAt 1 7 = 0x80000005 ∧ entryCur (0x80000005#64) ≠ entryCur 0x80000006) := by
  unfold ControllerFree
  decide +kernel

/-- A reclaim of domain 7 by domain 0, with the answers it has had. -/
def reclaiming (active : Bool) (answered : List Nat) (n m : Nat) : State :=
  let s := tables (inRegion 3 id)
  { s with
    agenda := []
    port := { s.port with reclaims := [{
      rid := 12, who := (inRegion 3 id).issueCtx.who 0 0, waitId := 8, dom := 7, c0 := 5, once := false, deadline := 5000
      answered := answered, nonzero := [], active := active }] }
    ev := { EvArg.zero with n := n, m := m, id := 12, dom := 7, who := (inRegion 3 id).issueCtx.who 0 0, v := 100 } }

theorem witness_ReclaimSteps :
    (let s := reclaiming false [] 0 1
     (∀ p ∈ s.agenda, p.ev = .domainControllerRequest → False) ∧ s.currentWho 0 s.ev.who = true ∧
      entryValid (NMap.getD s.port.doms 7 0) = true ∧ entrySupv (NMap.getD s.port.doms 7 0) = s.ev.who.dom ∧ s.ev.dom ≠ s.ev.who.dom ∧
      NMap.getD s.port.doms 9 0 = 0) ∧
    (∀ x ∈ [(false, [], 1, 0), (true, [], 4, 0), (true, [], 4, 1), (true, List.range 79, 80, 1), (true, List.range 80, 80, 1)],
      let s := reclaiming x.1 x.2.1 x.2.2.1 x.2.2.2
      ∃ r ∈ s.port.reclaims.find? (fun r => r.rid == s.ev.id), r.answered.length = x.2.1.length ∧ r.nonzero = []) ∧
    (let s := reclaiming true [] 4 0
     s.holdsAny s.ev.n (fun d i => d == 7 && olderThan 5 (entryWm (NMap.getD s.port.doms 7 0)) i) = false) ∧
    (let s := { reclaiming true [] (dispatchStop 200) 0 with launches := [{ EvArg.zero.launch with region := 200, dom := 7, inc := 4 }] }
     s.holdsAny s.ev.n (fun d i => d == 7 && olderThan 5 (entryWm (NMap.getD s.port.doms 7 0)) i) = true) ∧
    (List.range 81).filter (fun k => !(List.range 80).contains k) = 80 :: [] ∧
    (reclaiming true [] 0 0).port.reclaims.find? (fun r => r.rid == 13) = none := by decide +kernel

/-- A control block at 0x3000, and a request to bind region 200 to it or to unbind it. -/
def binding (a : W64) (n : Nat) : State :=
  let s := tables (inRegion 3 id)
  { s with
    agenda := [], tasks := [], regions := if a = 0 then [(200, rg)] else []
    mem := dwords s.mem 0x3000 [0xFFFF0101, 0x0100100000070003 + BitVec.ofNat 64 n, 3, 0, 0, 0, 0, 0, 0, 0x4000, 0x20000008, 0, 8, 0,
      0x800, 0]
    ev := { EvArg.zero with id := 6, bind := { who := (inRegion 3 id).issueCtx.who 0 0, addr := a, region := 200, bpc := 4 } } }

/-- What the dispatch unit judges of that control block: nothing is wrong, or the condition that fails denies the request. -/
def bindJudged (s : State) : Option (Option (Nat × Bool)) :=
  match s.readVirtual 3 0 0x3000 128 with
  | (s1, some bs) =>
    let w := dwordsOf 16 bs
    let g := resolveRcb w none
    let s2 := s1.touchRange 3 g.dom g.trapa 4096
    let s2 := s2.touchRange 3 g.dom g.trapc 8
    let s2 := s2.touchRange 3 g.dom g.wdenc 8
    some ((s2.bindConditions w 200 (entryBind (s.domAt (dispatchStop 200) 0))).find? (·.2))
  | _ => none

/-- A step of an invalidation of a domain's page, at a place `n`. -/
def invalidating (n m : Nat) (once : W64) (status : Byte) : State :=
  { binding 0 0 with ev := { EvArg.zero with
      n := n, m := m, status := status, who := (binding 0 0).ev.bind.who, target := { EvArg.zero.target with target := once } } }

theorem witness_BindAndInvalidate :
    (∀ n ∈ [0, 17], (binding 0x3000 n).currentWho (dispatchStop 200) (binding 0x3000 n).ev.bind.who = true ∧
      (binding 0x3000 n).ev.bind.addr ≠ 0 ∧ (binding 0x3000 n).ev.bind.addr.toNat % 64 = 0) ∧
    (bindJudged (binding 0x3000 0) = some none ∧ (bindJudged (binding 0x3000 17)).any (fun x => x.any (·.2)) = true) ∧
    (let s := binding 0 0
     s.ev.bind.addr = 0 ∧ entryBind (s.domAt (dispatchStop 200) 0) = true ∧ (s.region 200).isSome = true ∧ s.packets = [] ∧
      s.launches = [] ∧ s.tasks = [] ∧ ∀ g ∈ s.regions, g.2.parent ≠ some 200) ∧
    (binding 0 0).currentWho (dispatchStop 200) { Who.zero with dom := 9 } = false ∧
    (∀ m ∈ [0, 1, 2, 6], let s := invalidating 0 m 1 0
     s.ev.n = 0 ∧ s.ev.m = m ∧ s.currentWho (clusterStop 0) s.ev.who = true ∧ s.ev.v.extractLsb' 56 8 = s.ev.who.dom ∧
      s.coversDone 0 s.ev.target.after = true ∧ s.ev.target.target = 1 ∧ s.ev.status = 0) ∧
    (let s := { invalidating 0 2 0 0 with ev := { (invalidating 0 2 0 0).ev with target := { EvArg.zero.target with after := [9] } } }
     let s := s.setCtx 0 0 { Ctx.empty with occ := .resident, accs := [access .store 8] }
     s.coversDone 0 s.ev.target.after = false) ∧
    (∀ n ∈ [1, 64, 65, 66, 101, 200, 201], (invalidating n 0 0 1).ev.n = n) ∧
    (∀ n ∈ [101, 200], (invalidating n 0 1 0).siteDone (.of 0 0 false) (n - 101) 0 0 0 = true) ∧
    (let s := invalidating 101 0 1 0
     let s : State := { s with agenda := [{ time := 9, ev := .icacheLineFill, arg := { EvArg.zero with target := { EvArg.zero.target with after := [0] } } }] }
     s.ev.target.target = 1 ∧ s.ev.status = 0 ∧ s.siteDone (.of 0 0 false) 0 0 0 0 = false) ∧
    ∀ p ∈ (invalidating 201 0 0 0).agenda, p.ev = .tlbInvAtTlb → p.arg.id ≠ 0 := by
  refine ⟨?_, ?_, ?_, ?_, ?_, ?_, ?_, ?_, ?_, ?_⟩ <;> decide +kernel

/-! ### Hypotheses of the statements: power, errors, boot, management -/

/-- A step at a stop, with operands. -/
def step_ (n m : Nat) (v : W64) : State :=
  { binding 0 0 with ev := { EvArg.zero with n := n, m := m, v := v, who := (binding 0 0).ev.bind.who } }

theorem witness_PowerAndHeat :
    (∀ m ∈ [1, 2, 3], let s := step_ 63 m 400
     1 ≤ s.ev.m ∧ s.ev.m ≤ 3 ∧ (∀ p ∈ s.agenda, s.now < p.time) ∧ s.currentWho (frondStop 63) s.ev.who = true) ∧
    (∀ k ∈ [0, 63], (step_ (frondStop k) 459 0).ev.n = frondStop k ∧
      (step_ (frondStop k) 459 0).ev.m < ((step_ (frondStop k) 459 0).frond k).dth ∧
      ((step_ (frondStop k) 460 0).frond k).dth ≤ (step_ (frondStop k) 460 0).ev.m ∧
      ((step_ (frondStop k) 459 0).stop (frondStop k)).stretched = false) ∧
    (1050 ≤ (step_ 0 1050 0).ev.m ∧ (step_ 0 1050 0).port.thermal = false ∧ (step_ 0 1049 0).ev.m < 1050) ∧
    ({ (step_ 0 0 0) with port := { (step_ 0 0 0).port with thermal := true } } : State).port.thermal = true := by decide +kernel

/-- A bank of core 3 of cluster 0 has failed. -/
def failing (spares : List Source) (tasks : List Nat) : State :=
  { (step_ 0 0 0).modCluster 0 (fun k => { k with spares := spares, tasks := tasks }) with
    ev := { EvArg.zero with source := .bank 0 3 9 } }

theorem witness_ErrorsOverTime :
    (∀ x ∈ [(0x30000, true), (0x30001, false)], let s := step_ (archiveStop 0) 0 (BitVec.ofNat 64 x.1)
     s.currentWho s.ev.n s.ev.who = true ∧ decide (s.ev.v.toNat % 2 ^ 16 = 0) = x.2 ∧ s.inLpddr s.ev.v.toNat = true ∧
      entryBind (s.domAt s.ev.n s.ev.who.dom) = true ∧ s.port.retired.length < 4096 ∧ s.ev.v.toNat / 2 ^ 16 ∉ s.port.retired) ∧
    (step_ 3 0 0).syn = [] ∧
    (let s : State := { step_ 3 0 0 with syn := [(3 * 2 ^ 32 + 77, BitVec.ofNat 32 (nth hColumns 63 0) <<< (8 * 3))] }
     32 * (3 * 2 ^ 32 + 77) < 2 ^ 49 ∧ homeStop (32 * (3 * 2 ^ 32 + 77)) = archiveStop s.ev.n ∧
      ∀ x ∈ (s.stop (archiveStop s.ev.n)).sources, x.count < 3) ∧
    ((failing [] []).ev.source = .bank 0 3 9 ∧ ((failing [] []).cluster 0).tasks = [] ∧ ((failing [] []).cluster 0).spares = []) ∧
    (.bank 0 3 5 ∈ ((failing [.bank 0 3 5] []).cluster 0).spares ∧ ((failing [] [3]).cluster 0).tasks ≠ []) ∧
    (let s : State := { step_ 9 4 0 with tasks := [(3, { oneTask with holds := true, sbase := 9 * 2 ^ 24 + 3 * 2 ^ 16, tstg := 2 })] }
     ∃ x ∈ s.tasks, x.2.holds = true ∧ x.2.sbase / 2 ^ 24 = s.ev.n ∧ x.2.sbase % 2 ^ 24 / 2 ^ 16 ≤ s.ev.m ∧
       s.ev.m < x.2.sbase % 2 ^ 24 / 2 ^ 16 + x.2.tstg) ∧
    (step_ 9 5 0).tasks = [] := by decide +kernel

/-- A flow of domain 7 on port 1. -/
def aFlow : Flow :=
  { uid := 77, port := 1, routed := false, pip := 0, pmac := 0, part := 200, dom := 7, inc := 5, ordered := true
    wbase := 0x1000, rto := 5000, sendSeq := 9, held := [], waiting := [], expected := 20, performed := [], reorder := []
    launching := none, cache := [], respUpto := 0, respGot := [], sinceAck := 0, slots := [] }

/-- That is flow 5, and the management flow is open on port 1. -/
def withFlows (f : Flow → Flow) : State :=
  let s := step_ 0 0 0
  { s with port := { s.port with
    restricted := false, links := 2, bootst := 1, fwver := 9, fwmin := 4
    flows := [(0, { aFlow with uid := 3, part := 0, dom := 0, inc := 0 }), (5, f aFlow)] } }

theorem witness_BootAndLinks :
    (step_ 0 0 0).port.powered = true ∧ State.reset.port.powered = false ∧ State.reset.bootImage = none ∧
    ((withFlows id).port.links.getLsbD 1 = true ∧ (withFlows id).port.links.getLsbD 17 = false) ∧
    (∃ x ∈ (withFlows id).flow 5, x.port = 1 ∧ 5 ≠ 0) ∧ (∀ y ∈ (withFlows id).port.flows, y.2.port ≠ 0) ∧
    State.reset.port.mse.length = 4 := by decide +kernel

/-! ### Hypotheses of the statements: Tirel -/

/-- A frame of flow 5, or of the management flow, as it arrives on port 1: header with its domain, incarnation, ATOP and
number, two dwords, and payload (R394). -/
def frame (op flow atop seq : Nat) (d2 d3 : W64) (pay : List Byte) : Frame :=
  { port := 1, routed := false, ident := 0x88B5
    d0 := header0 op flow (if flow = 0 then 0 else 7) (if flow = 0 then 0 else 5) false atop pay.length
    d1 := header1 (BitVec.ofNat 48 seq) 0, d2 := d2, d3 := d3, payload := pay }

/-- A request of a flow is served now. -/
def serving (f : Frame) : State :=
  let s := withFlows (fun x => { x with reorder := [f] })
  let p := { s.port with flows := NMap.modify s.port.flows 0 aFlow (fun x => { x with reorder := [f] }) }
  { s with port := p, ev := { EvArg.zero with n := 2, m := f.flow, id := if f.flow = 0 then 3 else 77, frame := f } }

/-- A management request of a code, with dwords. -/
def managing (flow code : Nat) (l : List W64) : State :=
  serving (frame 6 flow 0 20 0 (BitVec.ofNat 64 code) (l.flatMap (fun w => leBytes 8 w.toNat)))

theorem witness_ManagementRequests :
    (∀ n ∈ [0, 5], ∃ x ∈ (managing n 3 [1]).flow n, Serves (managing n 3 [1]) x) ∧
    (∀ r ∈ [1, 8, 0x10, 0x4F, 0x50, 0x5F, 0x60, 0x100, 0x111, 0x300, 0x80, 0xD0], let s := managing 0 3 [BitVec.ofNat 64 r]
     s.ev.m = 0 ∧ s.ev.frame.code = 3 ∧ (s.ev.frame.pay 0).toNat % 2 ^ 16 = r) ∧
    (∀ r ∈ [4, 5, 6, 0x120, 0x127], ((managing 0 4 [BitVec.ofNat 64 r, 7]).ev.frame.pay 0).toNat % 2 ^ 16 = r) ∧
    (∀ v ∈ [4, 9], let s := managing 0 4 [3, BitVec.ofNat 64 v]
     s.port.fwmin.toNat ≤ ((s.ev.frame.pay 1).extractLsb' 0 32).toNat ∧ ((s.ev.frame.pay 1).extractLsb' 0 32).toNat ≤ s.port.fwver.toNat) ∧
    ((managing 5 4 [3, 9]).ev.m ≠ 0 ∧ entryBind ((managing 5 4 [3, 9]).domAt 0 7) = false ∧
      ((managing 0 4 [3, 3]).ev.frame.pay 1).toNat < (managing 0 4 [3, 3]).port.fwmin.toNat) ∧
    (let s := { managing 0 1 [0x0001000100C80709, 0, 0, 0, 0, 1024] with regions := [(200, rg)] }
     s.openRefusal ((List.range 6).map s.ev.frame.pay) = 0) ∧
    (let s := { managing 0 1 [0x0001000100C80709, 0, 0, 0, 0, 1023] with regions := [(200, rg)] }
     s.openRefusal ((List.range 6).map s.ev.frame.pay) ≠ 0) ∧
    ((managing 0 2 [9]).flow 9 = none ∧ ∃ y ∈ (managing 0 2 [5]).flow 5, y.held = [] ∧ y.waiting = [] ∧
      ∀ w ∈ (managing 0 2 [5]).winWaiters, windowFlow w.pa ≠ 5) := by
  unfold Serves
  decide +kernel

/-- A request for each of the steps that take one. -/
def requestFrame (i : Instr) (seq : Nat) : Frame :=
  let m (code : Nat) (l : List W64) : Frame := frame 6 5 0 seq 0 (BitVec.ofNat 64 code) (l.flatMap (fun w => leBytes 8 w.toNat))
  match i with
  | .tirelRead => frame 1 5 0 seq 0x5000 8192 []
  | .tirelWrite => frame 2 5 0 seq 0x5000 0 [1, 2, 3]
  | .tirelAtomic => frame 3 5 0x20 seq 0x5000 5 []
  | .tirelCtrAdd => frame 4 5 0 seq 0x20000040 5 []
  | .tirelLaunch => frame 5 5 0 seq 0 0 (leBytes 8 (200 + 88 * 2 ^ 32) ++ List.replicate 128 9)
  | .mgmtOpen => m 1 [9, 0, 0, 0, 0, 1024]
  | .mgmtClose => m 2 [9]
  | .mgmtReadRegister => m 3 [1]
  | .mgmtWriteRegister => m 4 [4, 0]
  | .fwminWrite => m 4 [3, 5]
  | .msextWrite => m 4 [0x120, 0]
  | .droopcRead => m 3 [0x80]
  | _ => m 5 (List.replicate 8 9)

/-- That request arrives at flow 5, which expects number 20. -/
def arriving (f : Frame) (g : Flow → Flow) : State := { withFlows g with ev := { EvArg.zero with frame := f } }

theorem witness_TirelArrival :
    (∀ i ∈ requestSteps, ∀ q ∈ [19, 20, 83, 84], let s := arriving (requestFrame i q) id
     s.ev.n = 0 ∧ GoodFrame s ∧ s.ev.frame.event = i ∧ s.ev.frame.seq.toNat = q ∧
      ∃ x ∈ s.flow 5, x.port = s.ev.frame.port ∧ x.routed = s.ev.frame.routed ∧ x.expected = 20 ∧ x.launching = none ∧
        x.reorder = [] ∧ x.cache = [] ∧ x.performed = []) ∧
    (let s := arriving { requestFrame .tirelRead 20 with port := 7 } id
     s.port.links.getLsbD s.ev.frame.port = false) ∧
    (let s := arriving { requestFrame .tirelRead 20 with ident := 7 } id
     s.port.links.getLsbD s.ev.frame.port = true ∧ s.ev.frame.ident ≠ s.port.etype) ∧
    (({ requestFrame .tirelRead 20 with d0 := 0 } : Frame).fault ≠ none) ∧
    ((arriving { requestFrame .tirelRead 20 with d0 := header0 1 6 7 5 false 0 0 } id).flow 6 = none) ∧
    (let c := frame 8 5 0 19 1 2 []
     ∃ x ∈ (arriving (requestFrame .tirelRead 19) (fun x => { x with cache := [c] })).flow 5,
       x.cache.find? (fun c => c.seq == (requestFrame .tirelRead 19).seq) = some c) := by
  unfold GoodFrame
  decide +kernel

/-- A request of flow 5 is served, domain 7 having all rights at the port, with memory of its tables. -/
def servingAt (i : Instr) (g : Frame → Frame) : State :=
  let s := serving (g (requestFrame i 20))
  { s with copies := (List.range 81).flatMap (fun t => [(256 * t, 0x380000000), (256 * t + 7, 0x80000005)])
           regions := [(200, rg)] }

theorem witness_TirelRequests :
    (∃ x ∈ (servingAt .tirelRead id).flow 5, Serves (servingAt .tirelRead id) x ∧
      let r := (servingAt .tirelRead id).flowRange x 0x5000 8192 leafR
      r.1 = some [(0x5000, 8192)] ∧ (servingAt .tirelRead id).ev.frame.d3.toNat = 8192) ∧
    ((frame 1 5 0 20 0x5000 0 []).d3.toNat = 0 ∧ 8192 < (frame 1 5 0 20 0x5000 8193 []).d3.toNat) ∧
    (∃ x ∈ (servingAt .tirelWrite id).flow 5, Serves (servingAt .tirelWrite id) x ∧
      let r := (servingAt .tirelWrite id).flowRange x 0x5000 3 leafDeviceW
      r.1 = some [(0x5000, 3)] ∧ CleanAt r.2 0x5000 3 ∧ r.2.retiredAt 0x5000 = false) ∧
    (∃ x ∈ (servingAt .tirelWrite (fun f => { f with d2 := 0x60000000 })).flow 5,
      ((servingAt .tirelWrite (fun f => { f with d2 := 0x60000000 })).flowRange x 0x60000000 3 leafDeviceW).1 = none) ∧
    (∀ k ∈ [(0x10, 4), (0x19, 4), (0x20, 8), (0x29, 8)], k.1 / 16 = (if k.2 = 8 then 2 else 1) ∧
      ([AtomOp.add, .and, .or, .xor, .min, .max, .minn, .maxn, .swap, .cas][k.1 % 16]?).isSome = true) ∧
    (∃ x ∈ (servingAt .tirelAtomic id).flow 5, Serves (servingAt .tirelAtomic id) x ∧
      ((servingAt .tirelAtomic id).flowRange x 0x5000 8 (fun e => leafR e && leafDeviceW e)).1 = some [(0x5000, 8)]) ∧
    (∃ x ∈ (servingAt .tirelCtrAdd id).flow 5, Serves (servingAt .tirelCtrAdd id) x ∧
      space (servingAt .tirelCtrAdd id).ev.frame.d2 = 0 ∧ (servingAt .tirelCtrAdd id).ev.frame.d2.toNat % 8 = 0 ∧
      ((servingAt .tirelCtrAdd id).flowRange x 0x20000040 8 leafCounterW).1 = some [(0x20000040, 8)]) ∧
    (∃ x ∈ (servingAt .tirelLaunch id).flow 5, Serves (servingAt .tirelLaunch id) x ∧
      (servingAt .tirelLaunch id).region 200 ≠ none ∧ (servingAt .tirelLaunch id).region x.part = some rg ∧
      (servingAt .tirelLaunch id).under x.part 200 = true ∧ ((List.range 128).find? (fun k => rg.slmask.getLsbD k)) = some 3 ∧
      (List.range 64).find? (fun k => !x.slots.contains k) = some 0) ∧
    (∀ d ∈ [(8, 5), (7, 4)], let s := servingAt .tirelRead (fun f => { f with d0 := header0 1 5 (BitVec.ofNat 8 d.1) (BitVec.ofNat 10 d.2) false 0 0 })
     ∃ x ∈ s.flow 5, x.uid = s.ev.id ∧ s.ev.frame ∈ x.reorder ∧ (s.ev.frame.dom ≠ x.dom ∨ s.ev.frame.inc ≠ x.inc)) ∧
    (let s := servingAt .tirelLaunch id
     let s : State := { s with ev := { s.ev with n := 1, launch := { s.ev.launch with waitId := 77, seq := 20 } } }
     ∃ x ∈ s.flow 5, x.uid = s.ev.launch.waitId ∧
      ∃ g ∈ x.reorder.find? (fun f => f.seq == s.ev.launch.seq), s.ev.frame.seq = g.seq) ∧
    (∃ x ∈ (servingAt .tirelLaunch id).flow 5, x.slots = [] ∧ (5 : Nat) < 256 ∧
      (0xC000000003E0A000#64) = BitVec.ofNat 64 (3 * 2 ^ 62 + 3 * 2 ^ 24 + 0xE00000 + 0x2000 * 5 + 128 * 0)) := by
  unfold Serves CleanAt
  refine ⟨?_, ?_, ?_, ?_, ?_, ?_, ?_, ?_, ?_, ?_, ?_⟩ <;> decide +kernel

/-- A request that the device has sent on flow 5 as number 8. -/
def sent (acc : Walker) (op sends : Nat) : HeldReq :=
  { rid := 40, seq := 8, frame := frame op 5 0 8 0 0 [], who := Who.zero, acc := acc, dom := 7, inc := 5, sends := sends
    lastSent := 0, cmd := 0, part := 0, len := 8 }

/-- An access of context 1 of cluster 2 of domain 7 is to go out through the window of flow 5. -/
def windowed (k : AccKind) (g : Flow → Flow) : State :=
  let w : Who := { Who.zero with cl := 2, cx := 1, dom := 7, inc := 5 }
  let a := { access k 8 with who := w, va := 0x40001000, pieces := [{ pa := 2 ^ 47 + 5 * 2 ^ 39 + 0x120, len := 8, leaf := 0 }], task := 0 }
  let s := withFlows g
  { s.setCtx 2 1 { Ctx.empty with occ := .resident, sctx := 0x283800, accs := [a] } with
    tasks := [], ev := EvArg.at 2 1 9, winWaiters := [{ who := w, accId := 9, pa := 2 ^ 47 + 5 * 2 ^ 39 + 0x120, thr := 4, cancelled := false }] }

theorem witness_WaitsEnd_sent :
    let s := windowed .ctrArw (fun x => { x with held := [sent (.access 2 1 9) 4 1] })
    ∃ a ∈ (s.ctx 2 1).accs.find? (fun a => a.id == 9), a.kind = .ctrArw ∧ a.performed = false ∧ s.sentOut 2 1 9 = true := by
  decide +kernel

theorem witness_TirelDeviceSide :
    (∀ x ∈ [(9, Instr.tirelAck), (8, Instr.tirelResponse)], let s := arriving (frame x.1 5 0 8 0 0 []) id
     GoodFrame s ∧ s.ev.frame.event = x.2 ∧ ∃ y ∈ s.flow 5, y.port = s.ev.frame.port ∧ y.routed = s.ev.frame.routed ∧ y.held = []) ∧
    (∀ n ∈ [0, 15], let s := arriving (frame 8 5 0 8 0 0 []) (fun x => { x with held := [sent (.device 3) 2 1], sinceAck := n })
     ∃ y ∈ s.flow 5, y.sinceAck = n ∧ y.waiting = [] ∧
      ∃ h ∈ y.held.find? (fun h => h.seq == s.ev.frame.seq), h.acc = .device 3 ∧ s.ev.frame.status = 0 ∧
        s.ev.frame.payload.length = (if h.frame.op = 1 then h.len else 0)) ∧
    (∀ st ∈ [0, 4, 7], let s := windowed (.atomic .add) (fun x => { x with held := [sent (.access 2 1 9) 3 1] })
     let s : State := { s with ev := { s.ev with frame := { frame 8 5 0 8 0 0 [] with d1 := header1 8 (BitVec.ofNat 8 st) } } }
     GoodFrame s ∧ s.ev.frame.status.toNat = st ∧
      ∃ h ∈ ((s.flow 5).getD aFlow).held.find? (fun h => h.seq == s.ev.frame.seq), h.acc = .access 2 1 9 ∧
        ∃ a ∈ (s.ctx 2 1).accs.find? (fun a => a.id == 9), a.kind = .atomic .add) ∧
    (∀ k ∈ [1, 15, 16], let s := { withFlows (fun x => { x with held := [sent (.device 3) 2 k], sinceAck := k, respUpto := 9 }) with
       ev := { EvArg.zero with m := 5, id := 77, v := 8 } }
     ∃ x ∈ s.flow 5, x.uid = s.ev.id ∧ s.ev.m < 256 ∧ 0 < x.sinceAck ∧ 0 < x.respUpto ∧ x.respUpto < 2 ^ 48 ∧
      ∃ h ∈ x.held.find? (fun h => h.seq.setWidth 64 == s.ev.v), h.sends = k) ∧
    (∀ k ∈ [AccKind.store, .load 8 true, .atomic .add, .atomic .cas, .ctrAdd, .ctrArw, .ctrRead, .ctrWait], let s := windowed k id
     s.ev.n = 0 ∧ ∃ a ∈ (s.ctx 2 1).accs.find? (fun a => a.id == s.ev.id && !a.performed), s.held 2 1 a = false ∧
      s.currentWho 0 a.who = true ∧ a.who.cl = 2 ∧ a.who.cx = 1 ∧ a.kind = k ∧ a.size = 8 ∧ s.staging a.task = false ∧
      ∃ p ∈ a.pieces.head?, inWindow p.pa = true ∧ p.pa / 2 ^ 39 % 256 = 5 ∧ p.len = 8 ∧
        ∃ x ∈ s.flow 5, x.dom = a.who.dom ∧ x.inc = a.who.inc ∧ HasRoom x) ∧
    (∃ x ∈ (windowed .store (fun x => { x with inc := 6 })).flow 5, x.inc ≠ 5) ∧
    (let s := windowed .ctrWait id
     ∃ w ∈ s.winWaiters.find? (fun w => w.accId == 9 && w.who == { Who.zero with cl := 2, cx := 1, dom := 7, inc := 5 }),
      s.currentWho 0 w.who = true ∧ w.pa / 2 ^ 39 % 256 = 5) ∧
    ((withFlows id).ev.n ≠ 1 ∧ ({ (withFlows id) with ev := { EvArg.zero with n := 1 } } : State).ev.n = 1) := by
  unfold GoodFrame HasRoom
  refine ⟨?_, ?_, ?_, ?_, ?_, ?_, ?_, ?_⟩ <;> decide +kernel

/-! ### Hypotheses of the statements: issue, reset, encodings -/

/-- Reset with one bundle word where the next fetch is, and no step to be done. -/
def fetching (w : Nat) (f : Ctx → Ctx) : State :=
  let s := State.reset.withFetchWord 32 w
  { s.setCtx 0 0 (f (s.ctx 0 0)) with agenda := [], ev := EvArg.zero }

/-- The line it fetches from. -/
def fetchLine (s : State) : Line := ((s.cluster 0).line (s.packetOf (s.ctx 0 0)) ((s.ctx 0 0).pc.toNat / 64 * 64)).getD { pkt := 0, off := 0, bytes := [] }

theorem issuing_of {s : State} (h : s.agenda = [] ∧ s.clusters = [(0, s.cluster 0)] ∧ (s.cluster 0).run = some 0 ∧
    s.port.thermal = false ∧ (s.ctx 0 0).nextIssue ≤ s.now ∧ (s.ctx 0 0).nextIssue < 2 ^ 128 ∧ (s.ctx 0 0).parked = false ∧
    (s.cluster 0).line (s.packetOf (s.ctx 0 0)) ((s.ctx 0 0).pc.toNat / 64 * 64) = some (fetchLine s) ∧
    (nth ((fetchLine s).bytes.drop ((s.ctx 0 0).pc.toNat % 64)) 3 0).getLsbD 7 = true) :
    Issuing s 0 0 ((fetchLine s).bytes.drop ((s.ctx 0 0).pc.toNat % 64)) :=
  by
  obtain ⟨ha, hc, hr, ht, hn, hb, hp, hl, hh⟩ := h
  refine ⟨fun _ e => ?_, ⟨[], _, [], hc, hr, fun _ e => nomatch e⟩, ht, hn, hb, hp, ⟨_, hl, rfl⟩, hh⟩
  rw [ha] at e; cases e

/-- The bytes at the next bundle. -/
def nextBytes (s : State) : List Byte := (fetchLine s).bytes.drop ((s.ctx 0 0).pc.toNat % 64)

/-- The bundle there. -/
def nextBundle (s : State) : Option Bundle := (decodeBundle (nextBytes s)).toOption

/-- A bundle that neither ends its stage nor yields does not close its segment. -/
theorem open_of {b : Bundle} (hdr : ∀ st p e, b.hdr ≠ .endStage st p e) (slots : ∀ n rb k, (n, .yield rb k) ∉ b.slots) : ¬Closes b :=
  fun c => c.elim (fun ⟨st, p, e, h⟩ => hdr st p e h) (fun ⟨n, rb, k, h⟩ => slots n rb k h)

/-- It is within the bound when its own charge fits. -/
theorem within_of {s : State} {b : Bundle} (hb : ¬Closes b) (h : s.segCount 0 0 + (1 + b.hdr.stall) ≤ (s.ctx 0 0).seg.bound) :
    WithinBound s 0 0 b :=
  ⟨fun _ => h, fun c => absurd c hb⟩

/-- A word by itself in context 0, which is resident, with its g registers as given. -/
def alone (v : W64) (f : Ctx → Ctx) : State :=
  let s := inBundle (f { Ctx.empty with g := List.replicate 64 v })
  { s with issue := { s.issue with live := true } }

/-- A bundle of one privileged slot, in user mode. -/
def privileged : State := fetching 0xB5454000 (fun c => { c with sctx := 0 })

theorem witness_IssueTraps :
    (Issuing (fetching 0x80000001 id) 0 0 (nextBytes (fetching 0x80000001 id)) ∧
      (match decodeBundle (nextBytes (fetching 0x80000001 id)) with | .error _ => true | _ => false) = true) ∧
    (Issuing privileged 0 0 (nextBytes privileged) ∧ (privileged.ctx 0 0).super = false ∧
      ∃ b, nextBundle privileged = some b ∧ WithinBound privileged 0 0 b ∧ ∃ x ∈ b.slots, x.2.privileged = true) ∧
    (let s := alone 7 id
     s.issue.live = true ∧ s.issueCtx.parked = false ∧ s.issueCtx.errs = [] ∧ s.issueCtx.super = false ∧ s.issueCtx.loops = [] ∧
      s.issueCtx.links = [] ∧ s.issueCtx.full.getLsbD 5 = true ∧ s.issueCtx.expd.getLsbD 5 = false ∧
      nth s.issueCtx.g 5 0 ≠ 0 ∧ (6#18).toNat < (nth s.issueCtx.g 5 0).toNat ∧ (nth s.issueCtx.g 5 0).toNat ≤ (7#18).toNat ∧
      (nth s.issueCtx.g 5 0).toNat % 4 ≠ 0) ∧
    (alone 7 (fun c => { c with loops := List.replicate 6 { start := 0, rem := 9, max := 9 } })).issueCtx.loops.length = 6 ∧
    (alone 7 (fun c => { c with links := List.replicate 8 4 })).issueCtx.links.length = 8 ∧
    (alone 7 (fun c => { c with full := 0 })).issueCtx.full.getLsbD 5 = false ∧
    2 ^ 30 ≤ (nth (alone 0x40000000 id).issueCtx.g 5 0).toNat := by
  refine ⟨⟨issuing_of (by decide +kernel), by decide +kernel⟩, ⟨issuing_of (by decide +kernel), by decide +kernel,
    ⟨0x80400000, .seq 0 0 0x40, [(7, .domSet 20 21)], none, 8⟩, by decide +kernel,
    within_of (open_of (by simp) (by simp)) (by decide +kernel), by decide +kernel⟩,
    by decide +kernel, by decide +kernel, by decide +kernel, by decide +kernel, by decide +kernel⟩

/-- A park of the context that is to issue the bundle of a word is due. -/
def parking (w : Nat) : State :=
  { fetching w id with agenda := [{ time := 0, ev := .contextStop, arg := EvArg.at 0 0 0 }] }

/-- A checked segment of one cycle that ends with the bundle of END, with the CRC that its yield has announced. -/
def lastBundle : State :=
  fetching 0x87000000 (fun c => { c with seg := { count := 0, bound := 1, rb := 0, chk := true, sig := 0x1D0F, crc := 0x1D0F, tested := false } })

theorem witness_StepRunsTheDecodedBundle :
    (∃ p ∈ State.reset.agenda.head?, p.time ≤ State.reset.now ∧ p.rank ≠ 2) ∧
    (∃ p ∈ (parking 0x80000000).agenda.head?, p.rank = 2 ∧ ((parking 0x80000000).cluster p.stops.1).run = some p.stops.2 ∧
      (match (parking 0x80000000).trapFirst p with | none => true | _ => false) = true) ∧
    (match (parking 0x80000001).attempt 0 0 with | .go (.to t) => (t.ctx 0 0).parked | _ => false) = true ∧
    (Issuing (fetching 0x80000000 id) 0 0 (nextBytes (fetching 0x80000000 id)) ∧
      ∃ b, nextBundle (fetching 0x80000000 id) = some b ∧ WithinBound (fetching 0x80000000 id) 0 0 b ∧
        PassesTest (fetching 0x80000000 id) 0 0 b ∧ ((fetching 0x80000000 id).ctx 0 0).holds b.slots = false ∧
        (fetching 0x80000000 id).holdsVector 0 ((fetching 0x80000000 id).ctx 0 0) b.slots = false ∧ b.slots = [] ∧
        (match (fetching 0x80000000 id).prepare 0 0 b.x ((0, b.hdr) :: b.slots) false with
          | .go _ _ false => true | _ => false) = true) ∧
    (Issuing lastBundle 0 0 (nextBytes lastBundle) ∧ ∃ b, nextBundle lastBundle = some b ∧ Closes b ∧
      WithinBound lastBundle 0 0 b ∧ PassesTest lastBundle 0 0 b) ∧
    (match exec (.seq 0 0 0) { fetching 0x80000000 id with issue := { Issue.none with live := false } } with
      | .next _ => true | _ => false) = true := by
  have hb : ¬Closes ⟨0x80000000, .seq 0 0 0, [], none, 4⟩ := open_of (by simp) (by simp)
  refine ⟨by decide +kernel, by decide +kernel, by decide +kernel,
    ⟨issuing_of (by decide +kernel), ⟨0x80000000, .seq 0 0 0, [], none, 4⟩, by decide +kernel,
      within_of hb (by decide +kernel), fun c => absurd c hb, by decide +kernel, by decide +kernel, rfl, by decide +kernel⟩,
    ⟨issuing_of (by decide +kernel), ⟨0x87000000, .endStage 0 0 0, [], none, 4⟩, by decide +kernel, .inl ⟨0, 0, 0, rfl⟩,
      ⟨fun h => absurd (.inl ⟨0, 0, 0, rfl⟩) h, fun _ => ⟨fun _ => by decide +kernel, fun _ _ _ h => by simp at h⟩⟩,
      fun _ _ => .inr (by decide +kernel)⟩, by decide +kernel⟩

theorem witness_StepKeepsMemoryForm :
    Memory.wf (fetching 0x80000000 id).mem = true ∧
      (match step (fetching 0x80000000 id) with | .next _ => true | _ => false) = true := by decide +kernel

/-- An instruction is well-formed, is encoded, and its word decodes to it again. -/
def roundTrips (i : Instr) : Bool :=
  i.wf && (encode i).any (fun w => decide ((if i.slotNo = 0 then decodeHeader w else decodeSlot true i.slotNo w).toOption = some i))

theorem witness_DecodeEncode :
    (roundTrips (.br 1 2 7 5 0xFFF) && roundTrips (.vfma 15 15 15 1 3) && roundTrips (.ctrArw 60 63 1 3) &&
      roundTrips (.moveToSpr { gi := 1, gp := 7, src := 0x3FF, w := 1 } 6)) = true ∧
    (Instr.br 1 2 7 5 0xFFF).slotNo = 0 ∧ (Instr.vfma 15 15 15 1 3).slotNo ≠ 0 := by decide +kernel

/-! ### Examples of the spec -/

/-- What a scalar instruction whose move reads `t` gives on ports that hold `o` and `o2`: low and high result, and cycle. -/
def scalar (o o2 t : W64) (i : Instr) : Option (W64 × W64 × Nat) :=
  let ports : Ports := { o := o, o2 := o2, q := 0, qh := 0 }
  let s := inBundle { Ctx.empty with alu0 := ports, mul := ports }
  match exec i { s with issue := { s.issue with srcs := [t] } } with
  | .next u => u.issueCtx.inflight.getLast?.map (fun l => (l.lo, l.hi, l.time))
  | _ => none

/-- The example of R186, at width 32. -/
theorem test_bit_fields :
    (scalar 0xDEADBEEF 0 0x0C08 (.bfx g5 0 1)).map (·.1) = some 0xDBE ∧ (scalar 0xDBE 0 12 (.sext g5 0 1)).map (·.1) = some 0xFFFFFDBE ∧
    (scalar 0xDEADBEEF 0x123 0x0C08 (.bfi g5 0 1)).map (·.1) = some 0xDEA123EF ∧
    (scalar 0xDEADBEEF 0 0x1418 (.bfx g5 0 1)).map (·.1) = some 0xDE := by decide +kernel

/-- The example of R190, and those of R50 at widths 64 and 8. -/
theorem test_division :
    scalar 1000000 0 7 (.div g5 0) = some (142857, 1, 20) ∧ (scalar (-7) 0 2 (.div g5 0)).map (·.1) = some (-3) ∧
    (scalar (-7) 0 2 (.rem g5 0)).map (·.1) = some (-1) ∧ (scalar 0x80 0 0xFF (.div g5 3)).map (·.1) = some 0x80 ∧
    (scalar 0x80 0 0xFF (.rem g5 3)).map (·.1) = some 0 ∧ (scalar 200 0 0 (.divn g5 3)).map (·.1) = some 255 ∧
    (scalar 200 0 0 (.remn g5 3)).map (·.1) = some 200 := by decide +kernel

/-- The ring example of R5 and the aperture example of R78. -/
theorem test_places : clusterStop 37 = 24 ∧ archiveStop 12 = 63 ∧ hops 24 63 = 39 ∧
    localPiece Task.none 5 0x8000000012C12340 4 = [{ pa := scratchKey 37 2 0x12340, len := 4, leaf := 0 }] ∧
    localPiece Task.none 5 0xC000000064000040 4 = [{ pa := stagingKey 100 0x40, len := 4, leaf := 0 }] := by decide +kernel

/-- Tasks 0 to 5 over clusters 9, 12, 40 and 41 (the example of the packet rules). -/
theorem test_cluster_of_task : (List.range 6).map ({ rg with cmask := 0x30000001200 }).clusterOf = [9, 12, 40, 41, 9, 12] := by
  decide +kernel

/-- Sub-pass counts of d8 for -3 and 100 at L = 256, and the counts of xnor for 7 and -7 at L = 8, 32, 64. -/
theorem test_stream_counts :
    [countIn false (levels 0 0 0 256) 7 14, countIn false (levels 0 0 0 256) 7 4, countIn false (levels 0 0 0 256) 13 14,
      countIn false (levels 0 0 0 256) 13 4] = [98, 28, 182, 52] ∧
    [countIn true (levels 0 0 0 8) 15 1, countIn true (levels 0 0 0 32) 15 1, countIn true (levels 0 0 0 64) 15 1] = [1, 4, 8] := by
  decide +kernel

/-- Alignment of -50,176 by -6 and -14 under NP1 and NP2, and drains of -784·2^-8 and of 2^95 - 1 at B = 127. -/
theorem test_align_and_drain :
    alignTo 1 (-50176) (-6) = (-784, false) ∧ alignTo 1 (-50176) (-14) = (-4, true) ∧ alignTo 2 (-50176) (-14) = (-3, true) ∧
    drainValue 23 (-784) (-8) = (0xC0440000, 0) ∧ drainValue 23 (BitVec.ofNat 96 (2 ^ 95 - 1)) 127 = (0x7F800000, flagOF ||| flagNX) := by
  decide +kernel

/-- The block 3.0, -1.25, 0.75, 0.25, -3.0: scales of q4 and q8, and its q4 codes under rne and, for 0.75, under rsr. -/
theorem test_block_quantisation :
    let xs := [0x40400000, 0xBFA00000, 0x3F400000, 0x3E800000, 0xC0400000].map (fpOf 23)
    blockScale 0 xs = (126, 0) ∧ blockScale 2 xs = (122, 0) ∧
      xs.map (fun x => (quantise 0 126 .rne x).1) = [6, -2, 2, 0, -6] ∧ xs.map (fun x => (quantise 2 122 .rne x)) =
        [(96, 0), (-40, 0), (24, 0), (8, 0), (-96, 0)] ∧
      (quantise 0 126 (.rsr 0x7FFFFFFF) (fpOf 23 0x3F400000)).1 = 2 ∧ (quantise 0 126 (.rsr 0x80000000) (fpOf 23 0x3F400000)).1 = 1 := by
  decide +kernel

/-- 1.5 and -2.5 to an integer under rsr, on both sides of the half draw. -/
theorem test_stochastic_rounding :
    (fpToInt 4 (.rsr 0x7FFFFFFF) (fpOf 23 0x3FC00000)).1 = 2 ∧ (fpToInt 4 (.rsr 0x80000000) (fpOf 23 0x3FC00000)).1 = 1 ∧
    (fpToInt 4 (.rsr 0x7FFFFFFF) (fpOf 23 0xC0200000)).1 = -2 ∧ (fpToInt 4 (.rsr 0x80000000) (fpOf 23 0xC0200000)).1 = -3 := by
  decide +kernel

/-- The column sum of 1.0, 2^24, 1.0, 1.0 with the other 60 lanes masked off: the tree gives 2^24 + 2, inexact. -/
theorem test_reduction_tree :
    reduce 6 0 ([(0x3F800000, true), (0x4B800000, true), (0x3F800000, true), (0x3F800000, true)] ++ List.replicate 60 (0x3F800000, false)) =
      (0x4B800001, flagNX) := by decide +kernel

/-- rng.skip by 2^64 - 1 from C = 2^64 (the example of R222). -/
theorem test_rng_skip :
    (let s := inBundle { Ctx.empty with draw := 0x10000000000000000 }
     match exec (.rngSkip 6 7) { s with issue := { s.issue with g := List.replicate 6 0 ++ [0xFFFFFFFFFFFFFFFF] ++ List.replicate 57 0 } } with
      | .next t => t.issueCtx.draw == 0x1FFFFFFFFFFFFFFFF
      | _ => false) = true := by decide +kernel

end Sys2Proof.Tests
end

section
/-! PROOF. The landing of a result, one lemma per destination, and the statement about RESULT_LAND. -/

namespace Sys2Proof.Machine

open Sys2Proof.Claims

/-! ### Lists read by number -/

/-- Elements of a list by number, after a part of its front is dropped. -/
theorem nth_drop {α : Type} (l : List α) (n i : Nat) (d : α) : nth (l.drop n) i d = nth l (n + i) d := by
  simp [nth, List.getD_eq_getElem?_getD]

/-- Element `i` of a table over the numbers below `n`. -/
theorem nth_map_range {α : Type} (f : Nat → α) {n i : Nat} (h : i < n) (d : α) : nth ((List.range n).map f) i d = f i := by
  simp [nth, List.getD_eq_getElem?_getD, h]

theorem nth_set_self {α : Type} (l : List α) {n : Nat} (h : n < l.length) (a d : α) : nth (l.set n a) n d = a := by
  simp [nth, List.getD_eq_getElem?_getD, h]

theorem nth_of_getElem? {α : Type} {l : List α} {n : Nat} {a : α} (h : l[n]? = some a) (d : α) : nth l n d = a := by
  simp [nth, List.getD_eq_getElem?_getD, h]

/-! ### A result on one core (R52, R156, R229, R332) -/

/-- The OR of four flags of a list is that of the flags by number. -/
theorem orFlags_take_four (l : List Byte) : orFlags (l.take 4) = nth l 0 0 ||| nth l 1 0 ||| nth l 2 0 ||| nth l 3 0 := by
  match l with
  | [] | [_] | [_, _] | [_, _, _] | _ :: _ :: _ :: _ :: _ => simp [orFlags, nth]

/-- Flags that a result raises on a core, quarter by quarter. -/
theorem Landing.flagsOn_eq (l : Landing) (k : Nat) : l.flagsOn k = flagsOf l k := by
  simp only [Landing.flagsOn, orFlags_take_four, nth_drop, flagsOf, Nat.add_zero]

/-- Every result leaves its flags on the core. -/
theorem CoreCtx.land_fflg (x : CoreCtx) (now k : Nat) (l : Landing) : (x.land now k l).fflg = x.fflg ||| flagsOf l k := by
  rw [← Landing.flagsOn_eq]
  unfold CoreCtx.land CoreCtx.landFlag
  cases l.dest with
  | mask n | bypass => dsimp only; split <;> rfl
  | _ => rfl

theorem CoreCtx.land_vreg {l : Landing} {r : Nat} (h : l.dest = .vreg r) (x : CoreCtx) (now k : Nat) :
    x.land now k l = { x with
      v := x.v.set r ((x.vreg r).merge (nth l.vec k .zero) (nth l.lmask k 0)) }.landFlag now (l.flagsOn k) := by
  simp only [CoreCtx.land, h]

theorem CoreCtx.land_mask {l : Landing} {n : Nat} (h : l.dest = .mask n) (x : CoreCtx) (now k : Nat) :
    x.land now k l = { x with
      k := if nth l.lmask k 0 = 0 then x.k else x.k.set (n - 1) (nth l.masks k 0) }.landFlag now (l.flagsOn k) := by
  simp only [CoreCtx.land, h]
  split <;> rfl

theorem CoreCtx.land_bypass {l : Landing} (h : l.dest = .bypass) (x : CoreCtx) (now k : Nat) :
    x.land now k l = { x with
      bypass := if nth l.lmask k 0 = 0 then x.bypass else nth l.codes k []
      target := if nth l.lmask k 0 = 0 then x.target else l.target }.landFlag now (l.flagsOn k) := by
  simp only [CoreCtx.land, h]
  split <;> rfl

/-- A merged register holds the new lanes where the mask has a one, and the old lanes elsewhere. -/
theorem VReg.nth_merge (old new : VReg) (m : BitVec 1024) {i : Nat} (h : i < 1024) :
    nth (old.merge new m).lanes i 0 = if m.getLsbD i then nth new.lanes i 0 else nth old.lanes i 0 := by
  rw [VReg.merge, nth_map_range _ h]

/-! ### A result in its context -/

theorem Ctx.land_alu0 {l : Landing} (h : l.dest = .alu0) (c : Ctx) (now : Nat) :
    c.land now l = { c with alu0 := { c.alu0 with q := l.lo } } := by simp only [Ctx.land, h]

theorem Ctx.land_alu1 {l : Landing} (h : l.dest = .alu1) (c : Ctx) (now : Nat) :
    c.land now l = { c with alu1 := { c.alu1 with q := l.lo } } := by simp only [Ctx.land, h]

theorem Ctx.land_prd {l : Landing} (h : l.dest = .prd) (c : Ctx) (now : Nat) :
    c.land now l = { c with prd := { c.prd with q := l.lo } } := by simp only [Ctx.land, h]

theorem Ctx.land_mul {l : Landing} {b : Bool} (h : l.dest = .mul b) (c : Ctx) (now : Nat) :
    c.land now l = { c with mul := { c.mul with q := l.lo, qh := l.hi } } := by simp only [Ctx.land, h]

/-- The four cores of a context after a result has landed on them. -/
def Ctx.coresLanded (c : Ctx) (now : Nat) (l : Landing) : List CoreCtx :=
  (List.range 4).map (fun k => (nth c.cores k .fresh).land now k l)

/-- Destinations on the cores. -/
def Dest.onCores : Dest → Bool
  | .vreg _ | .mask _ | .bypass => true
  | _ => false

/-- Destinations whose result wakes nothing: the latches, but for a division's, and the cores. -/
def Dest.quiet : Dest → Bool
  | .alu0 | .alu1 | .prd | .mul false | .vreg _ | .mask _ | .bypass => true
  | _ => false

theorem Dest.reads_of_quiet {d : Dest} (h : d.quiet = true) : d.reads = false := by
  cases d with
  | query _ _ _ | copies _ _ _ => cases h
  | _ => rfl

theorem Dest.quiet_of_onCores {d : Dest} (h : d.onCores = true) : d.quiet = true := by
  cases d with
  | vreg _ | mask _ | bypass => rfl
  | _ => cases h

theorem Ctx.land_cores {l : Landing} (h : l.dest.onCores = true) (c : Ctx) (now : Nat) :
    c.land now l = { c with cores := c.coresLanded now l } := by
  unfold Ctx.land
  cases hd : l.dest with
  | vreg _ | mask _ | bypass => rfl
  | _ => simp [hd, Dest.onCores] at h

theorem Ctx.coresLanded_getElem? {c : Ctx} {k : Nat} {x : CoreCtx} (hk : k < 4) (hx : c.cores[k]? = some x) (now : Nat)
    (l : Landing) : (c.coresLanded now l)[k]? = some (x.land now k l) := by
  simp [Ctx.coresLanded, hk, nth_of_getElem? hx]

/-- A whole register is sound again on the cores that the result writes in every lane (R379). -/
theorem Landing.mem_places_vreg {l : Landing} {r : Nat} (h : l.dest = .vreg r) (p : ErrPlace) :
    (∃ k, k < 4 ∧ nth l.lmask k 0 = BitVec.allOnes 1024 ∧ p = .vreg k r) ↔ p ∈ l.places := by
  simp only [Landing.places, h, List.mem_map, List.mem_filter, List.mem_range, beq_iff_eq, and_assoc, eq_comm (a := p)]

theorem Landing.mem_places_mask {l : Landing} {n : Nat} (h : l.dest = .mask n) (p : ErrPlace) :
    (∃ k, k < 4 ∧ nth l.lmask k 0 ≠ 0 ∧ p = .mask k n) ↔ p ∈ l.places := by
  simp only [Landing.places, h, List.mem_map, List.mem_filter, List.mem_range, bne_iff_ne, and_assoc, eq_comm (a := p)]

theorem Landing.mem_places_bypass {l : Landing} (h : l.dest = .bypass) (p : ErrPlace) :
    (∃ k, k < 4 ∧ nth l.lmask k 0 ≠ 0 ∧ p = .bypass k) ↔ p ∈ l.places := by
  simp only [Landing.places, h, List.mem_map, List.mem_filter, List.mem_range, bne_iff_ne, and_assoc, eq_comm (a := p)]

/-- A result that has landed leaves the replay's buffer, and ends the errors of the places it wrote (R333, R379). -/
theorem Ctx.leavesBuffer_landed (c : Ctx) (l : Landing) {written : ErrPlace → Prop} (h : ∀ p, written p ↔ p ∈ l.places) :
    LeavesBuffer c l written (c.landed l) := by
  refine ⟨fun x => ?_, ?_, fun e => ?_⟩
  · cases hr : c.replaying <;> simp [Ctx.landed, hr]
  · cases hr : c.replaying <;> simp [Ctx.landed, hr]
  · cases he : c.errs <;> simp [Ctx.landed, he, h]

/-- What a landing changes beside the value: flight, buffer and errors. -/
theorem Ctx.landed_land (c : Ctx) (now : Nat) (l : Landing) (rest : List Landing) :
    (({ c with inflight := rest } : Ctx).land now l).landed l = withoutFlight (c.land now l) (c.landed l) rest := by
  unfold Ctx.land
  cases l.dest <;> rfl

/-! ### Waking a held bundle (R129) -/

/-- Posting for the present cycle or a later one. -/
theorem State.post_eq_posted {s : State} {t : Nat} (h : s.now ≤ t) (i : Instr) (a : EvArg) : s.post t i a = posted s t i a := by
  simp only [State.post, posted, Nat.max_eq_left h]

/-- A context without a held bundle that may go on is not woken. -/
theorem State.wake_of_not_ready {s : State} {cl cx : Nat}
    (h : ∀ b, (s.ctx cl cx).held = some b → (s.ctx cl cx).heldReady b = false) : s.wake cl cx = s := by
  unfold State.wake
  dsimp only
  split
  · rfl
  · next b hb => rw [h b hb, if_neg Bool.false_ne_true]

/-- A held bundle whose sources are all there goes on, and the arbiter hears of it unless the context is parked. -/
theorem State.wake_of_ready {s : State} {cl cx : Nat} {b : Held} (hb : (s.ctx cl cx).held = some b)
    (hr : (s.ctx cl cx).heldReady b = true) :
    s.wake cl cx =
      let t := s.setCtx cl cx { s.ctx cl cx with held := none, heldEnd := 1, readyAt := s.now }
      if (s.ctx cl cx).parked then t else posted t s.now .arbiterDecide (EvArg.at cl 0 0) := by
  simp only [State.wake, hb, hr, if_true]
  refine ite_congr rfl (fun _ => rfl) fun _ => ?_
  exact State.post_eq_posted (Nat.le_refl _) _ _

/-! ### RESULT_LAND -/

theorem exec_resultLand (s : State) : exec .resultLand s = .next (resultLandEffect s) := rfl

/-- A result that is not a read lands in its context: a register fills, a quotient may wake a bundle. -/
def State.landOne (s : State) (cl cx : Nat) (l : Landing) (rest : List Landing) : State :=
  let c := { s.ctx cl cx with inflight := rest }
  match l.dest with
  | .greg reg tok => (s.setCtx cl cx c).fillReg cl cx reg tok l.lo
  | .mul true => (s.setCtx cl cx ((c.land s.now l).landed l)).wake cl cx
  | _ => s.setCtx cl cx ((c.land s.now l).landed l)

/-- The first result in flight lands when it is due and waits for no rows (R11, R233). -/
theorem resultLandEffect_first {s : State} {l : Landing} {rest : List Landing} (hn : s.ev.n = 0)
    (hl : (s.ctx s.ev.cl s.ev.cx).inflight = l :: rest) (ht : l.time ≤ s.now) (hd : l.dest.reads = false)
    (hr : l.tok = 0 ∨ (s.cluster s.ev.cl).rows = []) : resultLandEffect s = s.landOne s.ev.cl s.ev.cx l rest := by
  have hrows : (if l.tok = 0 then s else s.forceRows s.ev.cl l.tok) = s := by
    rcases hr with h | h
    · rw [if_pos h]
    · rw [State.forceRows, h]; exact ite_self s
  have hdue : (!l.dest.reads && decide (l.time ≤ s.now)) = true := by simp [hd, ht]
  have hfind : (l :: rest).find? (fun l : Landing => !l.dest.reads && decide (l.time ≤ s.now)) = some l :=
    List.find?_cons_of_pos hdue
  have herase : (l :: rest).eraseP (fun l : Landing => !l.dest.reads && decide (l.time ≤ s.now)) = rest :=
    List.eraseP_cons_of_pos hdue
  unfold resultLandEffect
  simp only [hn, hl, hfind]
  simp only [hrows, hl, hfind, herase]
  rfl

/-- A latch or the cores of a context take a result, and no bundle is woken. -/
theorem State.landOne_quiet {s : State} {cl cx : Nat} {l : Landing} {rest : List Landing} (h : l.dest.quiet = true) :
    s.landOne cl cx l rest =
      s.setCtx cl cx (withoutFlight ((s.ctx cl cx).land s.now l) ((s.ctx cl cx).landed l) rest) := by
  rw [← Ctx.landed_land]
  unfold State.landOne
  split
  · next hd => rw [hd] at h; cases h
  · next hd => rw [hd] at h; cases h
  · rfl

/-- A quotient or remainder lands, and a bundle held on it may go on (R129). -/
theorem State.landOne_division {s : State} {cl cx : Nat} {l : Landing} {rest : List Landing} (h : l.dest = .mul true) :
    s.landOne cl cx l rest =
      (s.setCtx cl cx (withoutFlight ((s.ctx cl cx).land s.now l) ((s.ctx cl cx).landed l) rest)).wake cl cx := by
  rw [← Ctx.landed_land]
  simp only [State.landOne, h]

/-- What the cores hold after a result has landed on them: its flags on each, and what its destination says. -/
theorem Ctx.cores_landed (c : Ctx) (now : Nat) (l : Landing) (Q : Nat → CoreCtx → CoreCtx → Prop)
    (hQ : ∀ k x, Q k x (x.land now k l)) :
    ∀ (k : Nat) (x : CoreCtx), k < 4 → c.cores[k]? = some x →
      ∃ y, (c.coresLanded now l)[k]? = some y ∧ y.fflg = x.fflg ||| flagsOf l k ∧ Q k x y :=
  fun k x hk hx => ⟨_, Ctx.coresLanded_getElem? hk hx now l, CoreCtx.land_fflg x now k l, hQ k x⟩

end Sys2Proof.Machine

section
open Sys2Proof Sys2Proof.Machine Sys2Proof.Claims

/-- Settles O13: the first result that is due is the one in front, and each destination has its lemma. -/
theorem resultLands : Obligations.ResultLands := by
  intro s l rest cl cx c hn hl ht hr
  have first (hd : l.dest.reads = false) : exec .resultLand s = .next (s.landOne cl cx l rest) := by
    rw [exec_resultLand, resultLandEffect_first hn hl ht hd hr]
  have quiet {P : ErrPlace → Prop} {x : Ctx} (hd : l.dest.quiet = true) (hP : ∀ p, P p ↔ p ∈ l.places)
      (hx : c.land s.now l = x) :
      ∃ d, LeavesBuffer c l P d ∧ exec .resultLand s = .next (s.setCtx cl cx (withoutFlight x d rest)) :=
    ⟨c.landed l, c.leavesBuffer_landed l hP, by rw [first (Dest.reads_of_quiet hd), State.landOne_quiet hd, ← hx]⟩
  have onCores {P : ErrPlace → Prop} {Q : Nat → CoreCtx → CoreCtx → Prop} (hd : l.dest.onCores = true)
      (hP : ∀ p, P p ↔ p ∈ l.places) (hQ : ∀ k x, Q k x (x.land s.now k l)) :
      ∃ d ks, LeavesBuffer c l P d ∧
        exec .resultLand s = .next (s.setCtx cl cx { withoutFlight c d rest with cores := ks }) ∧
        ∀ (k : Nat) (x : CoreCtx), k < 4 → c.cores[k]? = some x → ∃ y, ks[k]? = some y ∧
          y.fflg = x.fflg ||| flagsOf l k ∧ Q k x y := by
    obtain ⟨d, hb, he⟩ := quiet (Dest.quiet_of_onCores hd) hP (Ctx.land_cores hd c s.now)
    exact ⟨d, c.coresLanded s.now l, hb, he, c.cores_landed s.now l Q hQ⟩
  refine ⟨fun hd => ?_, fun hd => ?_, fun hd => ?_, fun b hd => ?_, fun r hd => ?_, fun n hd => ?_, fun hd => ?_⟩
  · exact quiet (by rw [hd]; rfl) (by simp [Landing.places, hd]) (Ctx.land_alu0 hd c s.now)
  · exact quiet (by rw [hd]; rfl) (by simp [Landing.places, hd]) (Ctx.land_alu1 hd c s.now)
  · exact quiet (by rw [hd]; rfl) (by simp [Landing.places, hd]) (Ctx.land_prd hd c s.now)
  · refine ⟨c.landed l, c.leavesBuffer_landed l (by simp [Landing.places, hd]), ?_, ?_⟩
    · intro h
      cases b with
      | false =>
        rw [first (by rw [hd]; rfl), State.landOne_quiet (by rw [hd]; rfl), Ctx.land_mul hd]
        rfl
      | true =>
        rw [first (by rw [hd]; rfl), State.landOne_division hd, Ctx.land_mul hd, State.wake_of_not_ready]
        · rfl
        · rw [State.ctx_setCtx]
          exact h.resolve_left (by simp)
    · intro hb b hh hready
      subst hb
      rw [first (by rw [hd]; rfl), State.landOne_division hd, Ctx.land_mul hd, State.wake_of_ready (b := b)]
      · simp only [State.ctx_setCtx, State.setCtx_setCtx]
        rfl
      · rw [State.ctx_setCtx]; exact hh
      · rw [State.ctx_setCtx]; exact hready
  · refine onCores (by rw [hd]; rfl) (Landing.mem_places_vreg hd) fun k x => ?_
    rw [CoreCtx.land_vreg hd]
    refine ⟨fun n hne => List.getElem?_set_ne (Ne.symm hne), fun hlt i hi => ?_, rfl, rfl, rfl, rfl⟩
    rw [← VReg.nth_merge _ _ _ hi]
    exact congrArg (fun v : VReg => nth v.lanes i 0) (nth_set_self _ hlt _ _)
  · refine onCores (by rw [hd]; rfl) (Landing.mem_places_mask hd) fun k x => ?_
    rw [CoreCtx.land_mask hd]
    exact ⟨rfl, rfl, rfl⟩
  · refine onCores (by rw [hd]; rfl) (Landing.mem_places_bypass hd) fun k x => ?_
    rw [CoreCtx.land_bypass hd]
    exact ⟨rfl, rfl, fun h => ⟨if_neg h, if_neg h⟩, fun h => ⟨if_pos h, if_pos h⟩⟩
end
end

section
/-! PROOF. What a trap leaves as it was, and that taking one is what the statements call a trap taken. -/

namespace Sys2Proof.Claims

open Sys2Proof.Machine

/-! ### Outside one context -/

theorem OthersAlone.refl (s : State) (cl cx : Nat) : OthersAlone s s cl cx :=
  ⟨fun _ _ => rfl, ⟨rfl, rfl⟩, rfl, rfl, rfl, rfl, rfl⟩

theorem OthersAlone.trans {s t u : State} {cl cx : Nat} (h : OthersAlone s t cl cx) (h' : OthersAlone t u cl cx) :
    OthersAlone s u cl cx := by
  obtain ⟨hctx, ⟨hmem, hsyn⟩, hreg, hpkt, hport, hcop, hnow⟩ := h
  obtain ⟨hctx', ⟨hmem', hsyn'⟩, hreg', hpkt', hport', hcop', hnow'⟩ := h'
  exact ⟨fun k hk => (hctx' k hk).trans (hctx k hk), ⟨hmem'.trans hmem, hsyn'.trans hsyn⟩, hreg'.trans hreg,
    hpkt'.trans hpkt, hport'.trans hport, hcop'.trans hcop, hnow'.trans hnow⟩

theorem othersAlone_setCtx (s : State) (cl cx : Nat) (c : Ctx) : OthersAlone s (s.setCtx cl cx c) cl cx :=
  ⟨fun _ hk => NMap.get?_set_of_ne _ _ hk, ⟨rfl, rfl⟩, rfl, rfl, rfl, rfl, rfl⟩

theorem othersAlone_modCtx (s : State) (cl cx : Nat) (f : Ctx → Ctx) : OthersAlone s (s.modCtx cl cx f) cl cx :=
  othersAlone_setCtx s cl cx _

theorem othersAlone_modCluster (s : State) (cl cx k : Nat) (f : Cluster → Cluster) :
    OthersAlone s (s.modCluster k f) cl cx :=
  ⟨fun _ _ => rfl, ⟨rfl, rfl⟩, rfl, rfl, rfl, rfl, rfl⟩

theorem othersAlone_post (s : State) (cl cx t : Nat) (i : Instr) (a : EvArg) : OthersAlone s (s.post t i a) cl cx :=
  ⟨fun _ _ => rfl, ⟨rfl, rfl⟩, rfl, rfl, rfl, rfl, rfl⟩

theorem othersAlone_releaseSeq (s : State) (cl cx : Nat) : OthersAlone s (s.releaseSeq cl cx) cl cx := by
  by_cases h : (s.cluster cl).run = some cx
  · rw [State.releaseSeq_of_running h]
    exact ((othersAlone_modCtx s cl cx _).trans (othersAlone_modCluster _ cl cx cl _)).trans (othersAlone_post _ _ _ _ _ _)
  · rw [State.releaseSeq_of_not_running h]
    exact .refl s cl cx

theorem othersAlone_stopCtx (s : State) (cl cx : Nat) : OthersAlone s (s.stopCtx cl cx) cl cx := by
  cases h : (s.ctx cl cx).parked
  · rw [State.stopCtx_of_not_parked h]
    exact (othersAlone_releaseSeq s cl cx).trans (othersAlone_modCtx _ cl cx _)
  · rw [State.stopCtx_of_parked h]
    exact .refl s cl cx

theorem othersAlone_takeTrap (s : State) (cl cx : Nat) (r : TrapRec) : OthersAlone s (s.takeTrap cl cx r) cl cx :=
  ((othersAlone_modCtx s cl cx _).trans (othersAlone_stopCtx _ cl cx)).trans (othersAlone_post _ _ _ _ _ _)

end Sys2Proof.Claims

namespace Sys2Proof.Machine

open Sys2Proof.Claims

@[simp] theorem State.releaseSeq_tasks (s : State) (cl cx : Nat) : (s.releaseSeq cl cx).tasks = s.tasks := by
  unfold State.releaseSeq; split <;> rfl

@[simp] theorem State.stopCtx_tasks (s : State) (cl cx : Nat) : (s.stopCtx cl cx).tasks = s.tasks := by
  unfold State.stopCtx
  split
  · rfl
  · exact State.releaseSeq_tasks s cl cx

@[simp] theorem State.takeTrap_tasks (s : State) (cl cx : Nat) (r : TrapRec) : (s.takeTrap cl cx r).tasks = s.tasks :=
  State.stopCtx_tasks _ cl cx

/-! ### The context that stops -/

/-- A context that is not parked does not run after its stop. -/
theorem State.stopCtx_run {s : State} {cl cx : Nat} (h : (s.ctx cl cx).parked = false) :
    ((s.stopCtx cl cx).cluster cl).run ≠ some cx := by
  rw [State.stopCtx_of_not_parked h, State.cluster_modCtx]
  exact State.releaseSeq_run s cl cx

/-- Charging a context and stopping it touch no register that a program reads. -/
theorem Ctx.sameRegs_chargeHold_stop (c : Ctx) (now : Nat) : SameRegs c (c.chargeHold now).stop := by
  unfold Ctx.chargeHold Ctx.endFetch
  split <;> exact ⟨⟨rfl, rfl, rfl⟩, by simp [SameRest, Ctx.stop]⟩

theorem Ctx.sameRegs_stop (c : Ctx) : SameRegs c c.stop := ⟨⟨rfl, rfl, rfl⟩, by simp [SameRest, Ctx.stop]⟩

theorem Ctx.chargeHold_pc (c : Ctx) (now : Nat) : (c.chargeHold now).pc = c.pc := by
  unfold Ctx.chargeHold Ctx.endFetch
  split <;> rfl

/-- A stop leaves the registers and the boundary of its context. -/
theorem State.stopCtx_keeps (s : State) (cl cx : Nat) :
    SameRegs (s.ctx cl cx) ((s.stopCtx cl cx).ctx cl cx) ∧ ((s.stopCtx cl cx).ctx cl cx).pc = (s.ctx cl cx).pc := by
  cases h : (s.ctx cl cx).parked
  · rw [State.stopCtx_of_not_parked h, State.ctx_modCtx, State.ctx_releaseSeq]
    split
    · exact ⟨Ctx.sameRegs_chargeHold_stop _ _, Ctx.chargeHold_pc _ _⟩
    · exact ⟨Ctx.sameRegs_stop _, rfl⟩
  · rw [State.stopCtx_of_parked h]
    exact ⟨⟨⟨rfl, rfl, rfl⟩, by simp [SameRest]⟩, rfl⟩

/-- Taking a trap: the record waits, the context is parked and off the sequencer, its delivery is posted, and nothing else
changes (R330, R339, R341). -/
theorem State.trapTaken_takeTrap (s : State) (cl cx : Nat) (r : TrapRec) : TrapTaken s (s.takeTrap cl cx r) cl cx r := by
  have hkeep := State.stopCtx_keeps (s.modCtx cl cx (fun c => { c with pend := insertRec r c.pend })) cl cx
  rw [State.ctx_modCtx] at hkeep
  refine ⟨?_, s.takeTrap_parked cl cx r, hkeep.2, fun h => State.stopCtx_run ?_, ?_, hkeep.1, othersAlone_takeTrap s cl cx r,
    s.takeTrap_tasks cl cx r⟩
  · rw [State.takeTrap_pend, insertRec_eq]; rfl
  · rw [State.ctx_modCtx]; exact h
  · exact ⟨_, State.post_mem_agenda _ _ _ _, rfl, rfl, Nat.le_max_right _ _⟩

/-- A fault with nothing beside its class and its status word, found at the issue of a context's next bundle, is a trap taken
at that bundle (R339, R340). -/
theorem State.trapTaken_issueTrap (s : State) (cl cx slot cls : Nat) (esw : W64) :
    TrapTaken s (s.issueTrap cl cx slot { Found.of cls with esw := esw }) cl cx
      (recordOf s (s.ctx cl cx) s.uid cls slot 0 (s.ctx cl cx).pc esw 0) :=
  State.trapTaken_takeTrap s cl cx _

end Sys2Proof.Machine
end

section
/-! PROOF. The slot in which each decoder's instructions stand (R340), and where a privileged one can stand. -/

namespace Sys2Proof

/-- Whatever decodes stands in slot `n`. -/
def DecodesTo (n : Nat) (r : Except DecodeError Instr) : Prop := ∀ i, r = .ok i → i.slotNo = n

theorem decodesTo_error (n : Nat) (e : DecodeError) : DecodesTo n (.error e) := fun _ h => by cases h

theorem decodesTo_ite {n : Nat} (p : Prop) [Decidable p] {r r' : Except DecodeError Instr} (h : DecodesTo n r)
    (h' : DecodesTo n r') : DecodesTo n (if p then r else r') := by
  split
  · exact h
  · exact h'

/-- A row of the tables decodes to its own instruction only. -/
theorem row_eq_ok {w mask bits : W32} {i j : Instr} (h : row w mask bits i = .ok j) : i = j := by
  unfold row at h
  split at h
  · split at h
    · exact Except.ok.inj h
    · cases h
  · cases h

theorem decodesTo_row {n : Nat} {i : Instr} (h : i.slotNo = n) (w mask bits : W32) : DecodesTo n (row w mask bits i) :=
  fun _ hj => row_eq_ok hj ▸ h

theorem decodeHeader_slotNo (w : W32) : DecodesTo 0 (decodeHeader w) := by
  unfold decodeHeader
  split
  case h_9 => exact decodesTo_error _ _
  all_goals exact decodesTo_row rfl _ _ _

theorem decodeC_slotNo (w : W32) : DecodesTo 1 (decodeC w) := by
  unfold decodeC
  split
  case h_7 => exact decodesTo_error _ _
  all_goals exact decodesTo_row rfl _ _ _

theorem decodeAlu_slotNo (w : W32) : DecodesTo 2 (decodeAlu w) := by
  unfold decodeAlu
  split
  case h_27 => exact decodesTo_error _ _
  all_goals exact decodesTo_row rfl _ _ _

theorem decodePrd_slotNo (w : W32) : DecodesTo 2 (decodePrd w) := by
  unfold decodePrd
  split
  case h_13 => exact decodesTo_error _ _
  all_goals exact decodesTo_row rfl _ _ _

theorem decodeMul_slotNo (w : W32) : DecodesTo 2 (decodeMul w) := by
  unfold decodeMul
  split
  case h_9 => exact decodesTo_error _ _
  all_goals exact decodesTo_row rfl _ _ _

theorem decodeLsu_slotNo (w : W32) : DecodesTo 2 (decodeLsu w) := by
  unfold decodeLsu
  split
  case h_51 => exact decodesTo_error _ _
  all_goals exact decodesTo_row rfl _ _ _

theorem decodeLsuCfg_slotNo (w : W32) : DecodesTo 2 (decodeLsuCfg w) := by
  unfold decodeLsuCfg
  split
  case h_5 => exact decodesTo_error _ _
  all_goals exact decodesTo_row rfl _ _ _

theorem decodeMove_slotNo (w : W32) : DecodesTo 2 (decodeMove w) := by
  have port : DecodesTo 2 (decodeMove.port w) := decodesTo_row rfl _ _ _
  unfold decodeMove
  split
  case h_1 | h_2 | h_3 => exact decodesTo_row rfl _ _ _
  case h_4 | h_5 => exact decodesTo_ite _ (decodeAlu_slotNo w) port
  case h_6 => exact decodesTo_ite _ (decodePrd_slotNo w) port
  case h_7 => exact decodesTo_ite _ (decodeMul_slotNo w) port
  case h_8 => exact decodesTo_ite _ (decodeLsu_slotNo w) (decodesTo_ite _ (decodeLsuCfg_slotNo w) port)
  case h_9 => exact decodesTo_error _ _

theorem decodeV_slotNo (w : W32) : DecodesTo 5 (decodeV w) := by
  unfold decodeV
  split
  case h_50 => exact decodesTo_error _ _
  all_goals exact decodesTo_row rfl _ _ _

theorem decodeS_slotNo (w : W32) : DecodesTo 6 (decodeS w) := by
  unfold decodeS
  split
  case h_19 => exact decodesTo_error _ _
  all_goals exact decodesTo_row rfl _ _ _

theorem decodeK_slotNo (w : W32) : DecodesTo 7 (decodeK w) := by
  unfold decodeK
  split
  case h_36 => exact decodesTo_error _ _
  all_goals exact decodesTo_row rfl _ _ _

/-- A word decodes to an instruction of its own slot; the three move slots share one decoder. -/
theorem decodeSlot_slotNo {x : Bool} {n : Nat} {w : W32} {i : Instr} (h : decodeSlot x n w = .ok i) :
    n = i.slotNo ∨ i.slotNo = 2 ∧ (n = 3 ∨ n = 4) := by
  have move := decodesTo_ite ((w.extractLsb' 18 10 == 0x56 || w.extractLsb' 18 10 == 0x57) && !x)
    (decodesTo_error 2 .field) (decodeMove_slotNo w)
  unfold decodeSlot at h
  split at h
  · exact .inl (decodeC_slotNo w i h).symm
  · exact .inl (move i h).symm
  · exact .inr ⟨move i h, .inl rfl⟩
  · exact .inr ⟨move i h, .inr rfl⟩
  · exact .inl (decodeV_slotNo w i h).symm
  · exact .inl (decodeS_slotNo w i h).symm
  · exact .inl (decodeK_slotNo w i h).symm
  · cases h

/-- Every privileged operation is one of the K slot (R173). -/
theorem slotNo_of_privileged {i : Instr} (h : i.privileged = true) : i.slotNo = 7 := by
  cases i with
  | ctxEvict | ctxLoad | ctxPark | ctxResume | incAdv | reclaim | tlbInv | rcbBind | ctrReset | frameRetire | errRead | errClr
  | snapRead | domSet | pwrCfg => rfl
  | _ => cases h

theorem slot_of_decodeSlots {x : Bool} {ws : List (Nat × W32)} {is : List (Nat × Instr)} (h : decodeSlots x ws = .ok is)
    {n : Nat} {i : Instr} (hi : (n, i) ∈ is) : n = i.slotNo ∨ i.slotNo = 2 ∧ (n = 3 ∨ n = 4) := by
  induction ws generalizing is with
  | nil => cases h; cases hi
  | cons e r ih =>
    obtain ⟨k, w⟩ := e
    unfold decodeSlots at h
    split at h
    · exact ih h hi
    · split at h
      · cases h
      · next j hj =>
        split at h
        · cases h
        · next js hjs =>
          cases h
          rcases List.mem_cons.1 hi with hi | hi
          · cases hi; exact decodeSlot_slotNo hj
          · exact ih hjs hi

/-- The parts of a bundle that decodes: a header word, and the words of its slots. -/
theorem decodeBundle_parts {bytes : List Byte} {b : Bundle} (h : decodeBundle bytes = .ok b) :
    ∃ w x ws, decodeHeader w = .ok b.hdr ∧ decodeSlots x ws = .ok b.slots := by
  unfold decodeBundle at h
  split at h
  · cases h
  next w rest _ =>
  split at h
  · cases h
  next hdr hh =>
  have hw : decodeHeader w = .ok hdr := by
    split at hh
    · exact hh
    · cases hh
  split at h
  · cases h
  dsimp only at h
  split at h
  · cases h
  split at h
  · cases h
  next is his =>
  split at h
  · cases h; exact ⟨w, _, _, hw, his⟩
  · cases h

/-- The header of a bundle that decodes is not privileged. -/
theorem hdr_not_privileged {bytes : List Byte} {b : Bundle} (h : decodeBundle bytes = .ok b) :
    b.hdr.privileged = false := by
  obtain ⟨w, x, ws, hw, -⟩ := decodeBundle_parts h
  refine Bool.eq_false_iff.2 fun hp => ?_
  exact absurd ((decodeHeader_slotNo w _ hw).symm.trans (slotNo_of_privileged hp)) (by decide)

/-- A privileged slot of a bundle that decodes is its K slot. -/
theorem slot_of_privileged {bytes : List Byte} {b : Bundle} (h : decodeBundle bytes = .ok b) {n : Nat} {i : Instr}
    (hi : (n, i) ∈ b.slots) (hp : i.privileged = true) : n = 7 := by
  obtain ⟨w, x, ws, -, hs⟩ := decodeBundle_parts h
  have h7 := slotNo_of_privileged hp
  have hn := slot_of_decodeSlots hs hi
  omega

/-- The first slot that a user context may not use is the K slot of its bundle. -/
theorem find_privileged {bytes : List Byte} {b : Bundle} (h : decodeBundle bytes = .ok b) {n : Nat} {i : Instr}
    (hi : (n, i) ∈ b.slots) (hp : i.privileged = true) {mode : Bool} (hu : mode = false) :
    ∃ j, ((0, b.hdr) :: b.slots).find? (fun e => e.2.privileged && !mode) = some (7, j) := by
  subst hu
  have hsome : (((0, b.hdr) :: b.slots).find? (fun e => e.2.privileged && !false)).isSome :=
    List.find?_isSome.2 ⟨(n, i), List.mem_cons_of_mem _ hi, by simp [hp]⟩
  obtain ⟨⟨k, j⟩, he⟩ := Option.isSome_iff_exists.1 hsome
  have hj : j.privileged = true := by simpa using List.find?_some he
  rcases List.mem_cons.1 (List.mem_of_find?_eq_some he) with hk | hk
  · cases hk
    exact absurd (hdr_not_privileged h) (by simp [hj])
  · exact ⟨j, slot_of_privileged h hk hj ▸ he⟩

end Sys2Proof
end

section
/-! PROOF. What the next step of a module is whose first sequencer may issue, and when a bundle keeps its bound. -/

namespace Sys2Proof.Machine

open Sys2Proof.Claims

/-! ### The sequencer that is next (R139 to R141) -/

/-- The first cluster with a running context is the one that is asked. -/
theorem State.attempts_first {s : State} {l before after : List (Nat × Cluster)} {cl cx : Nat} {k : Cluster} {w : Work}
    (hl : l = before ++ (cl, k) :: after) (hb : ∀ x ∈ before, x.2.run = none) (hk : k.run = some cx)
    (hw : s.attempt cl cx = .go w) : s.attempts l = .go w := by
  subst hl
  induction before with
  | nil => simp only [List.nil_append, State.attempts, hk, hw]
  | cons x r ih =>
    simp only [List.cons_append, State.attempts, hb x List.mem_cons_self]
    exact ih fun y hy => hb y (List.mem_cons_of_mem _ hy)

/-- What a sequencer can do is done when no step is due. -/
theorem State.nextWork_of_attempts {s : State} {w : Work} (ha : ∀ p, s.agenda.head? = some p → s.now < p.time)
    (hw : s.attempts s.clusters = .go w) : s.nextWork = w := by
  unfold State.nextWork
  simp only [hw]
  split
  · next p r hp => rw [if_neg (Nat.not_le.2 (ha p (by rw [hp]; rfl)))]
  · rfl

/-- A sequencer that may issue from a cached line takes the bundle that the line holds there; one that does not decode traps
ILB with the slot of the error. -/
theorem State.attempt_of_issuing {s : State} {cl cx : Nat} {bytes : List Byte} (h : Issuing s cl cx bytes) :
    (∀ why n, decodeBundle bytes = .error (why, n) → s.attempt cl cx = .go (.to (s.issueTrap cl cx n (.of 1)))) ∧
    ∀ b, decodeBundle bytes = .ok b → s.attempt cl cx = s.attemptBundle cl cx b := by
  obtain ⟨-, -, hheat, hnext, hfetch, -, ⟨l, hline, rfl⟩, hword⟩ := h
  have hf : (s.ctx cl cx).fetching = false := decide_eq_false (Nat.not_le.2 hfetch)
  have hcached : (s.cluster cl).line (s.packetOf (s.ctx cl cx)) (lineOf (s.ctx cl cx).pc) = some l := hline
  constructor
  · intro why n hd
    simp only [State.attempt, hf, hheat, Nat.not_lt.2 hnext, hcached, hword, hd, Bool.or_self, Bool.not_true,
      Bool.false_eq_true, if_false]
  · intro b hd
    simp only [State.attempt, hf, hheat, Nat.not_lt.2 hnext, hcached, hword, hd, Bool.or_self, Bool.not_true,
      Bool.false_eq_true, if_false]

/-- The step of a module whose first sequencer may issue. -/
theorem step_of_issuing {s : State} {cl cx : Nat} {bytes : List Byte} (h : Issuing s cl cx bytes) {t : State}
    (ht : s.attempt cl cx = .go (.to t)) : step s = .next t := by
  obtain ⟨ha, ⟨before, k, after, hl, hk, hb⟩, -⟩ := h
  unfold step
  rw [State.nextWork_of_attempts ha (State.attempts_first hl hb hk ht)]

end Sys2Proof.Machine

namespace Sys2Proof

open Sys2Proof.Machine Sys2Proof.Claims

/-! ### The bound of a segment (R22, R383) -/

/-- A bundle closes its segment, as its sequencer finds it. -/
def Bundle.closing (b : Bundle) : Bool :=
  match b.hdr with
  | .endStage _ _ _ => true
  | _ => b.slots.any (fun e => match e.2 with | .yield _ _ => true | _ => false)

/-- The bound of the segment that a bundle's yield opens, `ymax` being the most that its task may name. -/
def Bundle.opens (b : Bundle) (ymax : Nat) : Option Nat :=
  b.slots.findSome? (fun e => match e.2 with
    | .yield rb _ => some (Min.min rb.toNat ymax)
    | _ => none)

theorem Bundle.closing_iff (b : Bundle) : b.closing = true ↔ Closes b := by
  unfold Bundle.closing Closes
  constructor
  · intro h
    split at h
    · next st p e hh => exact .inl ⟨st, p, e, hh⟩
    · obtain ⟨⟨n, i⟩, hm, hi⟩ := List.any_eq_true.1 h
      split at hi
      · next rb k hy => exact .inr ⟨n, rb, k, hy ▸ hm⟩
      · cases hi
  · rintro (⟨st, p, e, hh⟩ | ⟨n, rb, k, hm⟩)
    · rw [hh]
    · split
      · rfl
      · exact List.any_eq_true.2 ⟨_, hm, rfl⟩

theorem Bundle.yield_of_opens {b : Bundle} {ymax m : Nat} (h : b.opens ymax = some m) :
    ∃ n rb k, (n, Instr.yield rb k) ∈ b.slots ∧ m = Min.min rb.toNat ymax := by
  obtain ⟨⟨n, i⟩, hm, hi⟩ := List.exists_of_findSome?_eq_some h
  split at hi
  · next rb k hy => exact ⟨n, rb, k, hy ▸ hm, (Option.some.inj hi).symm⟩
  · cases hi

end Sys2Proof

namespace Sys2Proof.Machine

open Sys2Proof.Claims

/-- A bundle that keeps its bound is not stopped by it. -/
theorem Ctx.overruns_of_withinBound {s : State} {cl cx : Nat} {b : Bundle} (h : WithinBound s cl cx b) :
    (s.ctx cl cx).overruns (s.segCount cl cx) (1 + b.hdr.stall) b.closing (b.opens (s.task (s.ctx cl cx)).ymax) = false := by
  obtain ⟨hopen, hclose⟩ := h
  unfold Ctx.overruns
  split
  · next hc =>
    obtain ⟨hbound, hyield⟩ := hclose (b.closing_iff.1 hc)
    have hb : (!((s.ctx cl cx).seg.chk && (s.ctx cl cx).seg.tested) &&
        decide ((s.ctx cl cx).seg.bound < s.segCount cl cx)) = false := by
      cases hk : (s.ctx cl cx).seg.chk && (s.ctx cl cx).seg.tested with
      | true => rfl
      | false => exact decide_eq_false (Nat.not_lt.2 (hbound (Bool.and_eq_false_iff.1 hk)))
    rw [hb, Bool.false_or]
    split
    · next m hm =>
      obtain ⟨n, rb, k, hmem, rfl⟩ := Bundle.yield_of_opens hm
      exact decide_eq_false (Nat.not_lt.2 (hyield n rb k hmem))
    · rfl
  · next hc => exact decide_eq_false (Nat.not_lt.2 (hopen fun h => hc (b.closing_iff.2 h)))

/-- A bundle with a privileged slot in user mode traps as soon as its sources are readied, whatever it would wait for. -/
theorem State.attemptBundle_of_trap {s t : State} {cl cx : Nat} {b : Bundle} (hb : WithinBound s cl cx b)
    (hp : s.prepare cl cx b.x ((0, b.hdr) :: b.slots) false = .trap t)
    (hbar : ((0, b.hdr) :: b.slots).any (fun e => e.2.privileged && !(s.ctx cl cx).super) = true) :
    s.attemptBundle cl cx b = .go (.to t) := by
  unfold State.attemptBundle
  refine (if_neg (Bool.eq_false_iff.1 (Ctx.overruns_of_withinBound hb))).trans ?_
  simp only [hp, hbar, Bool.not_true, Bool.and_false, Bool.false_eq_true, if_false]

/-- A slot that a user context may not use stops its bundle before anything else is looked at (R163). -/
theorem State.prepare_of_privileged {s : State} {cl cx : Nat} {slots : List (Nat × Instr)} {e : Nat × Instr}
    (h : slots.find? (fun e => e.2.privileged && !(s.ctx cl cx).super) = some e) (x : Option W32) (force : Bool) :
    s.prepare cl cx x slots force = .trap (s.issueTrap cl cx e.1 (.of 2)) := by
  simp only [State.prepare, h]

end Sys2Proof.Machine
end

section
/-! PROOF. What stops a bundle or a slot word before it takes effect, and the statement about traps at issue. -/

namespace Sys2Proof.Machine

open Sys2Proof.Claims

/-! ### A slot word by itself (log 16) -/

/-- A g register that is full, not expired and without an error is there for a C slot or a header. -/
theorem Ctx.gSource_of_holds {c : Ctx} {n : Nat} (he : c.errs = []) (hf : c.full.getLsbD n = true)
    (hx : c.expd.getLsbD n = false) (w : Bool) : c.gSource n w = .value (nth c.g n 0) none false := by
  simp [Ctx.gSource, Ctx.badAt, he, hf, hx]

/-- A C slot or a header that names an empty register finds nothing there (R144, R145). -/
theorem Ctx.gSource_of_empty {c : Ctx} {n : Nat} (he : c.errs = []) (hf : c.full.getLsbD n = false) :
    c.gSource n false = .trap 3 0 0 := by
  simp [Ctx.gSource, Ctx.badAt, he, hf]

/-- Reads of a word by itself that is no move and stands in the header or the C slot: its registers. -/
def Ctx.loneReads (c : Ctx) (i : Instr) : List Read :=
  i.gsrcs.map (fun r => { slot := i.slotNo, wide := true, from_ := r, state := c.gSource r false })

theorem Ctx.of_mem_loneReads {c : Ctx} {i : Instr} {r : Read} (h : r ∈ c.loneReads i) :
    r.slot = i.slotNo ∧ r.wide = true ∧ ∃ g ∈ i.gsrcs, r.state = c.gSource g false := by
  obtain ⟨g, hg, rfl⟩ := List.mem_map.1 h
  exact ⟨rfl, rfl, g, hg, rfl⟩

/-- None of them is a move. -/
theorem Ctx.moves_of_loneReads (c : Ctx) (i : Instr) : (c.loneReads i).filter (fun r => !r.wide) = [] :=
  List.filter_eq_nil_iff.2 fun r hr => by rw [(Ctx.of_mem_loneReads hr).2.1]; exact Bool.false_ne_true

theorem Ctx.reads_of_lone {i : Instr} (hm : i.moveSrc? = none) (hn : i.slotNo ≤ 1) (c : Ctx) (now : Nat) (x : Option W32) :
    c.reads now x [(i.slotNo, i)] = c.loneReads i := by
  have hlow : (c.loneReads i).filter (fun r => decide (r.slot ≤ 1)) = c.loneReads i :=
    List.filter_eq_self.2 fun r hr => decide_eq_true ((Ctx.of_mem_loneReads hr).1 ▸ hn)
  have hhigh : (c.loneReads i).filter (fun r => decide (1 < r.slot)) = [] :=
    List.filter_eq_nil_iff.2 fun r hr h =>
      Nat.not_lt.2 hn ((Ctx.of_mem_loneReads hr).1 ▸ of_decide_eq_true h)
  simp only [Ctx.reads, Ctx.sources, hm, hn, if_true, List.flatMap_cons, List.flatMap_nil, List.append_nil, List.map_nil]
  rw [← Ctx.loneReads, hlow, hhigh, List.append_nil]

theorem Ctx.popped_zero (c : Ctx) : c.popped 0 = c := by simp [Ctx.popped]

theorem Ctx.unsound_of_no_errs {c : Ctx} (h : c.errs = []) : c.unsound = none := by simp [Ctx.unsound, h]

section
variable {s : State} {cl cx : Nat} {i : Instr} (hp : i.privileged = false) (he : (s.ctx cl cx).errs = [])
  (hm : i.moveSrc? = none) (hn : i.slotNo ≤ 1)
include hp he hm hn

/-- A header or a C-slot word by itself whose register is empty traps EMPTY. -/
theorem State.prepare_of_empty {g : Nat} (hg : i.gsrcs = [g]) (hf : (s.ctx cl cx).full.getLsbD g = false) (x : Option W32)
    (force : Bool) : s.prepare cl cx x [(i.slotNo, i)] force = .trap (s.issueTrap cl cx i.slotNo (.of 3)) := by
  have hone : (s.ctx cl cx).loneReads i = [{ slot := i.slotNo, wide := true, from_ := g, state := .trap 3 0 0 }] := by
    rw [Ctx.loneReads, hg, List.map_singleton, Ctx.gSource_of_empty he hf]
  simp only [State.prepare, hp, Ctx.unsound_of_no_errs he, Ctx.reads_of_lone hm hn, hone, Bool.false_and, List.find?_cons,
    List.find?_nil, List.findSome?_cons, List.filter_cons, List.filter_nil, Nat.lt_irrefl, decide_false, Bool.false_eq_true,
    if_false, State.firstFault, Option.getD_none, Nat.reduceEqDiff, false_and, Found.of]

/-- A header or a C-slot word by itself whose registers are there traps with the fault of its slot. -/
theorem State.prepare_of_fault {f : Found}
    (hg : ∀ g ∈ i.gsrcs, (s.ctx cl cx).full.getLsbD g = true ∧ (s.ctx cl cx).expd.getLsbD g = false)
    (hf : slotFault (s.setCtx cl cx (s.ctx cl cx)) cl cx (s.ctx cl cx).g (s.ctx cl cx).lsu 0 i = some f) (x : Option W32)
    (force : Bool) : s.prepare cl cx x [(i.slotNo, i)] force = .trap (s.issueTrap cl cx i.slotNo f) := by
  simp only [State.prepare, hp, Ctx.unsound_of_no_errs he, Ctx.reads_of_lone hm hn, Ctx.moves_of_loneReads, Bool.false_and,
    List.find?_cons, List.find?_nil]
  rw [List.findSome?_eq_none_iff.2 ?nofault]
  case nofault =>
    intro r hr
    obtain ⟨-, -, g, hgs, hst⟩ := Ctx.of_mem_loneReads hr
    rw [hst, Ctx.gSource_of_holds he (hg g hgs).1 (hg g hgs).2]
  simp only [List.filter_cons, List.filter_nil, List.length_nil, List.map_nil, hn, decide_true, if_true, lsuAfter, hm,
    Ctx.popped_zero, State.firstFault, Option.isSome_none, Bool.false_and, Bool.false_eq_true, if_false, hf, Option.some_or]
end

/-- A word by itself that traps has no other effect. -/
theorem State.asBundle_of_trap {s t : State} {i : Instr} (hl : s.issue.live = true)
    (hp : s.prepare s.issue.cl s.issue.cx s.issue.x [(i.slotNo, i)] true = .trap t) (f : State → State) :
    s.asBundle i f = t := by
  simp only [State.asBundle, hl, hp, Bool.not_true, Bool.false_eq_true, if_false]

/-- A word by itself whose readying finds a fault takes its trap. -/
theorem State.trapTaken_exec {s : State} {i : Instr} {f : State → State} {cls : Nat} {esw : W64} (hl : s.issue.live = true)
    (hx : exec i s = .next (s.asBundle i f))
    (hp : s.prepare s.issue.cl s.issue.cx s.issue.x [(i.slotNo, i)] true =
      .trap (s.issueTrap s.issue.cl s.issue.cx i.slotNo { Found.of cls with esw := esw })) :
    ∃ t, exec i s = .next t ∧ TrapTaken s t s.issue.cl s.issue.cx
      (recordOf s s.issueCtx s.uid cls i.slotNo 0 s.issueCtx.pc esw 0) :=
  ⟨_, hx, by rw [State.asBundle_of_trap hl hp]; exact s.trapTaken_issueTrap _ _ _ _ _⟩

/-- A privileged operation by itself is a word by itself. -/
theorem exec_of_privileged {i : Instr} (h : i.privileged = true) (s : State) :
    ∃ f, exec i s = .next (s.asBundle i f) := by
  cases i with
  | ctxEvict | ctxLoad | ctxPark | ctxResume | incAdv | reclaim | tlbInv | rcbBind | ctrReset | frameRetire | errRead | errClr
  | snapRead | domSet | pwrCfg => exact ⟨_, rfl⟩
  | _ => cases h

/-! ### Faults of headers and C slots on their operands (R144, R145, R196) -/

section
variable {s : State} {cl cx : Nat} {g : List W64} {lsu : LsuPorts} {v : W64}

theorem slotFault_loopi {n : BitVec 24} (h : (s.ctx cl cx).loops.length = 6) :
    slotFault s cl cx g lsu v (.loopi n) = some (.of 1) := if_pos h

theorem slotFault_lpop (h : (s.ctx cl cx).loops = []) : slotFault s cl cx g lsu v .lpop = some (.of 1) :=
  if_pos (List.isEmpty_iff.2 h)

theorem slotFault_loop {st : BitVec 3} {y : BitVec 1} {p : BitVec 8} (h : (s.ctx cl cx).loops = []) :
    slotFault s cl cx g lsu v (.loop st y p) = some (.of 1) := if_pos (List.isEmpty_iff.2 h)

theorem slotFault_call {st : BitVec 3} {y : BitVec 1} {p : BitVec 8} {d : BitVec 12} (h : (s.ctx cl cx).links.length = 8) :
    slotFault s cl cx g lsu v (.call st y p d) = some (.of 1) := if_pos h

theorem slotFault_ret {st : BitVec 3} {y : BitVec 1} {p : BitVec 8} (h : (s.ctx cl cx).links = []) :
    slotFault s cl cx g lsu v (.ret st y p) = some (.of 1) := if_pos (List.isEmpty_iff.2 h)

theorem slotFault_loopg_tripmax {n : BitVec 6} {m : BitVec 12} {e : BitVec 10} (h0 : nth g n.toNat 0 ≠ 0)
    (h : m.toNat < (nth g n.toNat 0).toNat) : slotFault s cl cx g lsu v (.loopg n m e) =
      some { Found.of 11 with esw := BitVec.ofNat 64 (Min.min (nth g n.toNat 0).toNat 0xFFFFFFFF) } := if_pos ⟨h0, h⟩

theorem slotFault_loopg_full {n : BitVec 6} {m : BitVec 12} {e : BitVec 10} (h0 : nth g n.toNat 0 ≠ 0)
    (h : (nth g n.toNat 0).toNat ≤ m.toNat) (hl : (s.ctx cl cx).loops.length = 6) :
    slotFault s cl cx g lsu v (.loopg n m e) = some (.of 1) :=
  (if_neg fun q => Nat.not_lt.2 h q.2).trans (if_pos ⟨h0, hl⟩)

/-- The target of an IND lies outside the window, or is no word address. -/
theorem slotFault_ind {st : BitVec 3} {y : BitVec 1} {p : BitVec 8} {n : BitVec 6}
    (h : (nth g n.toNat 0).toNat % 4 ≠ 0 ∨ 2 ^ 30 ≤ (nth g n.toNat 0).toNat) :
    slotFault s cl cx g lsu v (.ind st y p n) = some (.of 1) := by
  refine if_pos ?_
  have hlt := (nth g n.toNat 0).isLt
  simp only [wbits, bits]
  omega
end

end Sys2Proof.Machine

section
open Sys2Proof Sys2Proof.Machine Sys2Proof.Claims

/-- Settles O55: a bundle by the step that would issue it, a word by itself by the check that readies it. -/
theorem issueTraps : Obligations.IssueTraps := by
  refine ⟨fun s cl cx bytes hi => ⟨fun why n hd => ?_, fun b n i hd hb hu hm hp => ?_⟩, ?_⟩
  · exact ⟨_, step_of_issuing hi ((State.attempt_of_issuing hi).1 why n hd), s.trapTaken_issueTrap cl cx n 1 0⟩
  · obtain ⟨j, hj⟩ := find_privileged hd hm hp hu
    refine ⟨_, step_of_issuing hi ?_, s.trapTaken_issueTrap cl cx 7 2 0⟩
    rw [(State.attempt_of_issuing hi).2 b hd]
    refine State.attemptBundle_of_trap hb (State.prepare_of_privileged hj b.x false) ?_
    exact List.any_eq_true.2 ⟨(n, i), List.mem_cons_of_mem _ hm, by simp [hp, hu]⟩
  intro s hl c takes holds _ he
  have empty {i : Instr} {f : State → State} {g : BitVec 6} (hx : exec i s = .next (s.asBundle i f))
      (hp : i.privileged = false) (hm : i.moveSrc? = none) (hn : i.slotNo ≤ 1) (hg : i.gsrcs = [g.toNat])
      (hf : c.full.getLsbD g.toNat = false) : takes i 3 i.slotNo 0 :=
    State.trapTaken_exec hl hx (State.prepare_of_empty hp he hm hn hg hf _ _)
  have fault {i : Instr} {f : State → State} {cls : Nat} {esw : W64} (hx : exec i s = .next (s.asBundle i f))
      (hp : i.privileged = false) (hm : i.moveSrc? = none) (hn : i.slotNo ≤ 1)
      (hg : ∀ g ∈ i.gsrcs, c.full.getLsbD g = true ∧ c.expd.getLsbD g = false)
      (hf : ∀ t : State, t.ctx s.issue.cl s.issue.cx = c →
        slotFault t s.issue.cl s.issue.cx c.g c.lsu 0 i = some { Found.of cls with esw := esw }) :
      takes i cls i.slotNo esw :=
    State.trapTaken_exec hl hx (State.prepare_of_fault hp he hm hn hg (hf _ (State.ctx_setCtx ..)) _ _)
  refine ⟨fun i hp hu => ?_, fun h => ⟨?_, fun st y p => ?_⟩, fun n h => ?_, fun st y p d h => ?_, fun st y p h => ?_,
    fun g m e hg h0 h => ?_, fun g m e hg h0 h h6 => ?_, fun g m e hg => ?_, fun st y p g hg h => ?_, fun st y p g hg => ?_⟩
  · obtain ⟨f, hx⟩ := exec_of_privileged hp s
    rw [← slotNo_of_privileged hp]
    refine State.trapTaken_exec hl hx (State.prepare_of_privileged (e := (i.slotNo, i)) ?_ _ _)
    refine List.find?_cons_of_pos ?_
    show (i.privileged && !c.super) = true
    rw [hp, hu]; rfl
  · exact fault rfl rfl rfl (Nat.le_refl 1) (List.forall_mem_nil _) fun t ht => slotFault_lpop (ht ▸ h)
  · exact fault rfl rfl rfl (Nat.zero_le 1) (List.forall_mem_nil _) fun t ht => slotFault_loop (ht ▸ h)
  · exact fault rfl rfl rfl (Nat.le_refl 1) (List.forall_mem_nil _) fun t ht => slotFault_loopi (ht ▸ h)
  · exact fault rfl rfl rfl (Nat.zero_le 1) (List.forall_mem_nil _) fun t ht => slotFault_call (ht ▸ h)
  · exact fault rfl rfl rfl (Nat.zero_le 1) (List.forall_mem_nil _) fun t ht => slotFault_ret (ht ▸ h)
  · exact fault rfl rfl rfl (Nat.le_refl 1) (List.forall_mem_singleton.2 hg) fun t _ => slotFault_loopg_tripmax h0 h
  · exact fault rfl rfl rfl (Nat.le_refl 1) (List.forall_mem_singleton.2 hg) fun t ht => slotFault_loopg_full h0 h (ht ▸ h6)
  · exact empty rfl rfl rfl (Nat.le_refl 1) rfl hg
  · exact fault rfl rfl rfl (Nat.zero_le 1) (List.forall_mem_singleton.2 hg) fun t _ => slotFault_ind h
  · exact empty rfl rfl rfl (Nat.zero_le 1) rfl hg
end
end

section
/-! PROOF. A performed move and the result it sends, the multiplier's operations as words of width w, and the statement about
divisions. -/

namespace Sys2Proof.Machine

open Sys2Proof.Claims

/-! ### A performed move sends a scalar result (R11, R152, R156) -/

/-- The guard of a performed move holds. -/
theorem guardOn_of_performed {s : State} {m : MoveSrc} (h : Performed s m) : guardOn s.issue.p m = true := by
  have hgi : (m.gi == 1) = m.gi.getLsbD 0 := by
    rcases BitVec.eq_zero_or_eq_one m.gi with h0 | h1
    · rw [h0]; rfl
    · rw [h1]; rfl
  unfold guardOn
  rw [hgi]
  exact bne_iff_ne.2 h

/-- A performed move acts on the value that was read for it, which is then used. -/
theorem State.move_of_performed {s : State} {m : MoveSrc} (h : Performed s m) (f : W64 → State → State) :
    s.move m f = f (moveValue s) (used s) :=
  State.move_of_guard (guardOn_of_performed h) f

/-- A scalar result sent once the move's value has been used is one that lands. -/
theorem State.send_used (s : State) (lat : Nat) (d : Dest) (lo hi : W64) :
    (used s).send (.scalarAt (s.now + lat) d lo hi) = lands s lat d lo hi :=
  State.post_eq_posted (s := (used s).modIssue _) (Nat.le_add_right s.now lat) _ _

/-! ### Words of width w as the model computes them (R184) -/

theorem width_eq_widOf (sz : BitVec 2) : width sz = widOf sz := Nat.shiftRight_eq_div_pow 64 sz.toNat

theorem toNat_setWidth_eq_low (w : Nat) (x : W64) : (x.setWidth w).toNat = low w x.toNat := BitVec.toNat_setWidth w x

theorem wrapInt_eq_toNat (w : Nat) (z : Int) : wrapInt w z = (BitVec.ofInt w z).toNat := (BitVec.toNat_ofInt z).symm

/-- The signed reading of the low bits of an operand. -/
theorem sextNat_eq_toInt (w : Nat) (x : W64) : sextNat w x.toNat = (x.setWidth w).toInt := by
  rw [BitVec.toInt_eq_toNat_cond, BitVec.toNat_setWidth]
  unfold sextNat
  cases w with
  | zero => simp [Nat.mod_one]
  | succ n =>
    refine ite_congr (propext ?_) (fun _ => rfl) (fun _ => rfl)
    rw [Nat.add_sub_cancel, Nat.pow_succ]
    omega

theorem low_eq_zero_iff (w : Nat) (x : W64) : low w x.toNat = 0 ↔ x.setWidth w = 0 := by
  rw [← toNat_setWidth_eq_low]
  exact ⟨fun h => BitVec.eq_of_toNat_eq h, fun h => congrArg BitVec.toNat h⟩

/-- A word of width w goes into its latch zero-extended. -/
theorem ofNat_low_toNat {w : Nat} (x : BitVec w) : BitVec.ofNat 64 (low w x.toNat) = x.setWidth 64 := by
  rw [low, Nat.mod_eq_of_lt x.isLt, BitVec.ofNat_toNat]

/-! ### The multiplier (R189, R190) -/

/-- A performed operation of MUL whose two results are the words `lo` and `hi` lands them together. -/
theorem State.mulStart_lands {s : State} {m : MoveSrc} (hb : InBundle s) (hp : Performed s m) {sz : BitVec 2}
    {f : Nat → Nat → Nat → Nat → Nat × Nat} {lo hi : BitVec (width sz)}
    (hf : f (width sz) s.issueCtx.mul.o.toNat (moveValue s).toNat s.issueCtx.mul.o2.toNat = (lo.toNat, hi.toNat))
    (i : Instr) (division : Bool) (lat : Nat → Nat → Nat) :
    s.asBundle i (mulStart m sz division lat f) =
      lands s (lat (width sz) s.issueCtx.mul.o.toNat) (.mul division) (lo.setWidth 64) (hi.setWidth 64) := by
  rw [State.asBundle_of_issue hb, mulStart, State.move_of_performed hp, ← width_eq_widOf, ← State.send_used,
    ← ofNat_low_toNat lo, ← ofNat_low_toNat hi]
  have hf' : f (width sz) (used s).issueCtx.mul.o.toNat (moveValue s).toNat (used s).issueCtx.mul.o2.toNat =
    (lo.toNat, hi.toNat) := hf
  simp only [hf']
  rfl

/-! ### Divisions (R50, R190) -/

/-- The remainder and the quotient of an operation that gives them the other way about. -/
theorem swapped_eq {f : Nat → Nat → Nat → Nat → Nat × Nat} {w o t c a b : Nat} (h : f w o t c = (a, b)) :
    swapped f w o t c = (b, a) := by
  rw [swapped, h]

/-- Unsigned quotient and remainder as words: all ones and the dividend for a zero divisor. -/
theorem divUnsigned_eq (w : Nat) (o t : W64) (c : Nat) :
    let a := o.setWidth w
    let b := t.setWidth w
    divUnsigned w o.toNat t.toNat c =
      ((if b = 0 then BitVec.allOnes w else a / b).toNat, (if b = 0 then a else a % b).toNat) := by
  intro a b
  unfold divUnsigned
  by_cases hb : b = 0
  · rw [if_pos ((low_eq_zero_iff w t).2 hb), if_pos hb, if_pos hb, BitVec.toNat_allOnes, toNat_setWidth_eq_low]
  · rw [if_neg (mt (low_eq_zero_iff w t).1 hb), if_neg hb, if_neg hb, BitVec.toNat_udiv, BitVec.toNat_umod,
      toNat_setWidth_eq_low, toNat_setWidth_eq_low]

/-- The quotient toward zero, cut to the width: −2^(w−1) by −1 wraps as R50 says. -/
theorem ofInt_tdiv_toInt {w : Nat} (a b : BitVec w) : BitVec.ofInt w (a.toInt.tdiv b.toInt) = a.sdiv b :=
  BitVec.eq_of_toInt_eq ((BitVec.toInt_ofInt _).trans (BitVec.toInt_sdiv a b).symm)

/-- The remainder with the sign of the dividend fits its width. -/
theorem ofInt_tmod_toInt {w : Nat} (a b : BitVec w) : BitVec.ofInt w (a.toInt.tmod b.toInt) = a.srem b := by
  rw [← BitVec.toInt_srem, BitVec.ofInt_toInt]

/-- Signed quotient and remainder as words: −1 and the dividend for a zero divisor. -/
theorem divSigned_eq (w : Nat) (o t : W64) (c : Nat) :
    let a := o.setWidth w
    let b := t.setWidth w
    divSigned w o.toNat t.toNat c =
      ((if b = 0 then BitVec.allOnes w else a.sdiv b).toNat, (if b = 0 then a else a.srem b).toNat) := by
  intro a b
  unfold divSigned
  by_cases hb : b = 0
  · rw [if_pos ((low_eq_zero_iff w t).2 hb), if_pos hb, if_pos hb, BitVec.toNat_allOnes, toNat_setWidth_eq_low]
  · rw [if_neg (mt (low_eq_zero_iff w t).1 hb), if_neg hb, if_neg hb, wrapInt_eq_toNat, wrapInt_eq_toNat,
      sextNat_eq_toInt, sextNat_eq_toInt, ofInt_tdiv_toInt, ofInt_tmod_toInt]

/-- The latency of a signed division goes by the magnitude of the dividend read as signed. -/
theorem divLatency_eq (w : Nat) (o : W64) :
    divLatency w o.toNat = 10 + 2 * ((sigBits (o.setWidth w).toInt.natAbs + 3) / 4) := by
  rw [divLatency, sextNat_eq_toInt]

/-- The latency of an unsigned division goes by the dividend read as unsigned. -/
theorem divnLatency_eq (w : Nat) (o : W64) :
    divnLatency w o.toNat = 10 + 2 * ((sigBits (o.setWidth w).toNat + 3) / 4) := by
  rw [divnLatency, toNat_setWidth_eq_low]

end Sys2Proof.Machine

section
open Sys2Proof Sys2Proof.Machine Sys2Proof.Claims

/-- Settles O12: each division starts an operation of MUL, whose results are those of R50 and whose latency is that of R190. -/
theorem divide : Obligations.Divide := by
  intro s m sz hb hp w a b bits lat q r qn rn
  have hs := divSigned_eq w s.issueCtx.mul.o (moveValue s) s.issueCtx.mul.o2.toNat
  have hu := divUnsigned_eq w s.issueCtx.mul.o (moveValue s) s.issueCtx.mul.o2.toNat
  have starts {latency : Nat → Nat → Nat} {f : Nat → Nat → Nat → Nat → Nat × Nat} {n : Nat} {x y : BitVec w} (i : Instr)
      (hl : latency w s.issueCtx.mul.o.toNat = lat n)
      (hf : f w s.issueCtx.mul.o.toNat (moveValue s).toNat s.issueCtx.mul.o2.toNat = (x.toNat, y.toNat)) :
      s.asBundle i (mulStart m sz true latency f) = lands s (lat n) (.mul true) (x.setWidth 64) (y.setWidth 64) := by
    rw [State.mulStart_lands hb hp hf, hl]
  refine ⟨?div, ?rem, ?divn, ?remn⟩
  case div => exact congrArg Host.Outcome.next (starts (.div m sz) (divLatency_eq w _) hs)
  case rem => exact congrArg Host.Outcome.next (starts (.rem m sz) (divLatency_eq w _) (swapped_eq hs))
  case divn => exact congrArg Host.Outcome.next (starts (.divn m sz) (divnLatency_eq w _) hu)
  case remn => exact congrArg Host.Outcome.next (starts (.remn m sz) (divnLatency_eq w _) (swapped_eq hu))
end
end

section
/-! PROOF. The word of each S slot as the operation and the flags of its command, the commands that an S slot queues, and the
statement about stream commands. -/

namespace Sys2Proof.Machine

open Sys2Proof.Claims

/-! ### Operation and flags of the word of an S slot (R172) -/

/-- The word of an S slot has its operation in its top six bits and its flags in its low byte. -/
def StreamWord (i : Instr) (op : BitVec 6) (flags : Byte) : Prop :=
  ∃ middle : BitVec 18, encode i = some (op ++ middle ++ flags)

/-- What a queue entry takes from the word of its slot (R336). -/
theorem StreamWord.fields {i : Instr} {op : BitVec 6} {flags : Byte} (h : StreamWord i op flags) :
    ((encode i).getD 0).extractLsb' 26 6 = op ∧ ((encode i).getD 0).setWidth 8 = flags := by
  obtain ⟨middle, h⟩ := h
  rw [h, Option.getD_some]
  refine ⟨?_, BitVec.setWidth_append_eq_right⟩
  rw [BitVec.extractLsb'_append_eq_of_le (by decide)]
  exact BitVec.extractLsb'_append_eq_left

section
variable (a b c : BitVec 6) (r f u st : BitVec 1) (md : BitVec 2) (sh : BitVec 3) (np v : BitVec 4)

theorem encode_wld : encode (.wld a b r sh) = some (0x05#6 ++ (a ++ b ++ 0#6) ++ (r ++ 0#4 ++ sh)) := by
  simp only [encode, BitVec.append_assoc', BitVec.cast_eq]

theorem encode_arun : encode (.arun a r md st np) = some (0x06#6 ++ (a ++ 0#12) ++ (r ++ md ++ st ++ np)) := by
  simp only [encode, BitVec.append_assoc', BitVec.cast_eq]

theorem encode_arunBt : encode (.arunBt a r md st np) = some (0x07#6 ++ (a ++ 0#12) ++ (r ++ md ++ st ++ np)) := by
  simp only [encode, BitVec.append_assoc', BitVec.cast_eq]

theorem encode_stopCfg : encode (.stopCfg a b c) = some (0x08#6 ++ (a ++ b ++ c) ++ 0#8) := by
  simp only [encode, BitVec.append_assoc', BitVec.cast_eq]

theorem encode_fclr : encode (.fclr a b c) = some (0x09#6 ++ (a ++ b ++ c) ++ 0#8) := by
  simp only [encode, BitVec.append_assoc', BitVec.cast_eq]

theorem encode_drain : encode (.drain a b c r f np) = some (0x0A#6 ++ (a ++ b ++ c) ++ (r ++ f ++ 0#2 ++ np)) := by
  simp only [encode, BitVec.append_assoc', BitVec.cast_eq]

theorem encode_fld : encode (.fld a b c r) = some (0x0B#6 ++ (a ++ b ++ c) ++ (r ++ 0#7)) := by
  simp only [encode, BitVec.append_assoc', BitVec.cast_eq]

theorem encode_fst : encode (.fst a b c r) = some (0x0C#6 ++ (a ++ b ++ c) ++ (r ++ 0#7)) := by
  simp only [encode, BitVec.append_assoc', BitVec.cast_eq]

theorem encode_sq4 : encode (.sq4 a b r md u v) = some (0x0D#6 ++ (a ++ b ++ 0#6) ++ (r ++ md ++ u ++ v)) := by
  simp only [encode, BitVec.append_assoc', BitVec.cast_eq]

theorem encode_sq8 : encode (.sq8 a b r md v) = some (0x0E#6 ++ (a ++ b ++ 0#6) ++ (r ++ md ++ 0#1 ++ v)) := by
  simp only [encode, BitVec.append_assoc', BitVec.cast_eq]

theorem encode_sqLd : encode (.sqLd a b r) = some (0x0F#6 ++ (a ++ b ++ 0#6) ++ (r ++ 0#7)) := by
  simp only [encode, BitVec.append_assoc', BitVec.cast_eq]

theorem encode_sqClr : encode .sqClr = some (0x10#6 ++ 0#18 ++ 0#8) := rfl

theorem encode_chk : encode (.chk a c md np) = some (0x11#6 ++ (a ++ 0#6 ++ c) ++ (0#1 ++ md ++ 0#1 ++ np)) := by
  simp only [encode, BitVec.append_assoc', BitVec.cast_eq]

theorem encode_strStat : encode (.strStat c) = some (0x12#6 ++ (0#12 ++ c) ++ 0#8) := by
  simp only [encode, BitVec.append_assoc', BitVec.cast_eq]
  rfl
end

/-! ### A command enters the queues (R258, R259, R261, R336) -/

/-- The earlier accesses that a command of the bundle in issue notes (R117). -/
theorem State.earlier_issue (s : State) : s.earlier s.issue.cl s.issue.cx = earlierOf s := by
  have hover (j : RowJob) : (j.cx == s.issue.cx && !j.over s.now) = decide (j.cx = s.issue.cx ∧ s.now < j.time + j.left) := by
    rw [Bool.eq_iff_iff]
    simp only [RowJob.over, Bool.and_eq_true, Bool.not_eq_true', beq_iff_eq, decide_eq_true_eq, decide_eq_false_iff_not,
      Nat.not_le]
  simp only [State.earlier, earlierOf, State.issueCtx, hover]

/-- An emptied register is one bit of two masks. -/
theorem Ctx.emptyG_eq (c : Ctx) (n : BitVec 6) (tok : Nat) : c.emptyG n.toNat tok = emptied c n tok := by
  have hbit : BitVec.ofNat 64 (2 ^ n.toNat) = 1#64 <<< n.toNat := by
    rw [← BitVec.twoPow_eq]
    exact BitVec.eq_of_toNat_eq (by simp [BitVec.toNat_twoPow])
  simp only [Ctx.emptyG, emptied, hbit]

/-- Queueing a command leaves it on the four cores, its destination empty, and the four engines asked. -/
theorem State.pushStream_eq {i : Instr} {op : BitVec 6} {flags : Byte} (h : StreamWord i op flags) (s : State) (ops : List W64)
    (dest : Option (BitVec 6)) (v : Option (BitVec 4)) (sampled : Bool) :
    s.pushStream i ops dest v sampled = queuedWith s (fun x => commandOf s op flags ops dest sampled
      ((v.map fun n => x.vreg (physV s.issue.rrb n.toNat)).getD .zero) (if v.isSome then x.bypass else [])) dest id := by
  obtain ⟨hop, hflags⟩ := h.fields
  have hask (t : State) (k : EvArg) : t.post t.now .streamChunk k = posted t t.now .streamChunk k :=
    State.post_eq_posted (Nat.le_refl _) _ _
  simp only [State.pushStream, hop, hflags, State.earlier_issue, hask, queuedWith, commandOf, Ctx.emptyG_eq]
  cases dest <;> rfl

/-- A command without destination, capture or sample is queued with the g operands read at issue. -/
theorem streamPlain_eq {i : Instr} {op : BitVec 6} {flags : Byte} (h : StreamWord i op flags) (s : State)
    (regs : List (BitVec 6)) : streamPlain i regs s = queued s op flags (regs.map (operand s)) none id :=
  State.pushStream_eq h s _ none none false

/-! ### Runs (R265, R271, R384) -/

/-- A descriptor is read from four registers in a row (R270). -/
theorem State.descriptor_eq (s : State) (a : BitVec 6) : s.descriptor a = descriptorOf s a :=
  congrArg (fun n => [operand s n, operand s (a + 1), operand s (a + 2), operand s (a + 3)]) (BitVec.add_zero a)

/-- A run no wider than the nominal m of its task charges no share. -/
theorem State.chargeRun_of_narrow {s : State} (h : ∀ f, s.fieldsOf s.issueCtx = some f → s.issueCtx.sl.toNat ≤ f.nomm)
    (mode nvec : Nat) : s.chargeRun mode nvec = s := by
  unfold State.chargeRun
  dsimp only
  split
  · next r f hr hf => exact if_pos (h f hf)
  · rfl

/-- A context that has counted `n` runs. -/
def Ctx.withRuns (n : Nat) (c : Ctx) : Ctx := { c with runs := n }

/-- Where no check samples runs, a run is counted and is not the one sampled. -/
theorem State.countRunCmd_of_unchecked {s : State} (h : ∀ f, s.fieldsOf s.issueCtx = some f → f.chkn = 0) :
    s.countRunCmd false = (false, s.modIssue (Ctx.withRuns (s.issueCtx.runs + 1))) := by
  have hchkn : ((s.fieldsOf s.issueCtx).map (·.chkn)).getD 0 = 0 := by
    cases hf : s.fieldsOf s.issueCtx with
    | none => rfl
    | some f => exact h f hf
  simp only [State.countRunCmd, hchkn]
  rfl

/-- A command queued once its run has been counted is the command queued together with the count. -/
theorem queued_withRuns (s : State) (n : Nat) (op : BitVec 6) (flags : Byte) (ops : List W64) :
    queued (s.modIssue (Ctx.withRuns n)) op flags ops none id = queued s op flags ops none (Ctx.withRuns n) := by
  have hctx : (s.modIssue (Ctx.withRuns n)).issueCtx = s.issueCtx.withRuns n := State.issueCtx_modIssue _ _
  have hset (c : Ctx) : withCtx { s.modIssue (Ctx.withRuns n) with uid := s.uid + 1 } c =
      withCtx { s with uid := s.uid + 1 } c := State.setCtx_setCtx { s with uid := s.uid + 1 } _ _ _ c
  simp only [queued, queuedWith, commandOf, earlierOf, hctx, State.modIssue_uid, hset]
  rfl

section
variable {s : State} {i : Instr} {op : BitVec 6} {flags : Byte} (h : StreamWord i op flags)
  (hn : ∀ f, s.fieldsOf s.issueCtx = some f → s.issueCtx.sl.toNat ≤ f.nomm)
include h hn

/-- An unwidened run that is not the one sampled is queued with its descriptor, once it has been counted or not. -/
theorem runEffect_of_narrow {t : State} {stop : BitVec 1} (hc : s.countRunCmd (stop == 1) = (false, t)) (a : BitVec 6)
    (mode : BitVec 2) : runEffect i a mode stop s = queued t op flags (descriptorOf s a) none id := by
  unfold runEffect
  dsimp only
  rw [State.chargeRun_of_narrow hn, hc, State.descriptor_eq]
  exact State.pushStream_eq h t _ none none false

/-- A run with STOP is not counted. -/
theorem runEffect_stop (a : BitVec 6) (mode : BitVec 2) :
    runEffect i a mode 1 s = queued s op flags (descriptorOf s a) none id :=
  runEffect_of_narrow h hn rfl a mode

/-- A run without STOP is counted. -/
theorem runEffect_counted (hu : ∀ f, s.fieldsOf s.issueCtx = some f → f.chkn = 0) (a : BitVec 6) (mode : BitVec 2) :
    runEffect i a mode 0 s = queued s op flags (descriptorOf s a) none (Ctx.withRuns (s.issueCtx.runs + 1)) := by
  rw [← queued_withRuns]
  exact runEffect_of_narrow h hn (stop := 0) (State.countRunCmd_of_unchecked hu) a mode
end

/-! ### A quantise (R75, R280) -/

/-- Unless it is one under rsr, a quantise takes the rows and the codes of each core and leaves the counter. -/
theorem quantiseEffect_of_ne {i : Instr} {op : BitVec 6} {flags : Byte} (h : StreamWord i op flags) {sel : BitVec 2}
    (hsel : sel ≠ 2) (s : State) (a b : BitVec 6) (v : BitVec 4) :
    quantiseEffect i a b sel v s = queuedWith s (fun x => commandOf s op flags [operand s a, operand s b] none false
      (nth x.v (physV s.issue.rrb v.toNat) .zero) x.bypass) none id := by
  unfold quantiseEffect
  dsimp only
  rw [if_neg hsel]
  exact State.pushStream_eq h s _ none (some v) false

end Sys2Proof.Machine

section
open Sys2Proof Sys2Proof.Machine Sys2Proof.Claims

/-- Settles O27: each S slot by the operation and the flags of its word, runs by what they charge and count. -/
theorem streamCommands : Obligations.StreamCommands := by
  intro s a b c r st f u md sh np v hb g q narrow unchecked
  have queues {i : Instr} {effect : State → State} {t : State} (h : effect s = t) :
      (Host.Outcome.next (s.asBundle i effect) : Host.Outcome State Fault Refusal) = .next t :=
    congrArg Host.Outcome.next ((State.asBundle_of_issue hb i effect).trans h)
  refine ⟨?wld, ?stopCfg, ?fclr, ?drain, ?fld, ?fst, ?sqLd, ?sqClr, ?strStat,
    fun hn => ⟨?chk, fun hst => ?stop, fun hst hu => ?run, fun hu => ?runBt⟩, fun hsel => ⟨?sq4, ?sq8⟩⟩
  case wld => exact queues (streamPlain_eq ⟨_, encode_wld a b r sh⟩ s [a, b])
  case stopCfg => exact queues (streamPlain_eq ⟨_, encode_stopCfg a b c⟩ s [a, b, c])
  case fclr => exact queues (streamPlain_eq ⟨_, encode_fclr a b c⟩ s [a, b, c])
  case drain => exact queues (streamPlain_eq ⟨_, encode_drain a b c r f np⟩ s [a, b, c])
  case fld => exact queues (streamPlain_eq ⟨_, encode_fld a b c r⟩ s [a, b, c])
  case fst => exact queues (streamPlain_eq ⟨_, encode_fst a b c r⟩ s [a, b, c])
  case sqLd => exact queues (streamPlain_eq ⟨_, encode_sqLd a b r⟩ s [a, b])
  case sqClr => exact queues (streamPlain_eq ⟨_, encode_sqClr⟩ s [])
  case strStat => exact queues (State.pushStream_eq ⟨_, encode_strStat c⟩ s [] (some c) none false)
  case chk =>
    refine queues ?_
    rw [State.chargeRun_of_narrow hn, State.descriptor_eq]
    exact State.pushStream_eq ⟨_, encode_chk a c md np⟩ s _ (some c) none false
  case stop =>
    subst hst
    exact queues (runEffect_stop ⟨_, encode_arun a r 1 md np⟩ hn a md)
  case run =>
    subst hst
    exact queues (runEffect_counted ⟨_, encode_arun a r 0 md np⟩ hn hu a md)
  case runBt => exact queues (runEffect_counted ⟨_, encode_arunBt a r 0 md np⟩ hn hu a md)
  case sq4 => exact queues (quantiseEffect_of_ne ⟨_, encode_sq4 a b r u md v⟩ hsel s a b v)
  case sq8 => exact queues (quantiseEffect_of_ne ⟨_, encode_sq8 a b r md v⟩ hsel s a b v)
end
end
